-- ==== Sys2Proof/Word.lean ====
section
/-! DEFINITION. The words of the CN-32 that the manual treats as bits. -/

namespace Sys2Proof

/-- A byte of a payload, of the local port or of the boot record. -/
abbrev Byte := BitVec 8

/-- A station address, 0 to 31 (00_scope.md; 5 bits of the key, R4). Differences wrap at 32 (R38). -/
abbrev Addr := BitVec 5

/-- A two-byte field, most significant byte first on every path (R4, R49, R192). -/
abbrev Half := BitVec 16

/-- A lane map (R176): lane k in bits 6k + 5 to 6k. -/
abbrev LaneMap := BitVec 48

end Sys2Proof
end

