-- ==== Sys2Proof/Syntax.lean ====
section
/-! DEFINITION. The commands of the CN-32: one constructor for each row of spec/opcode_table.json, with the operands
that the surroundings give it (log 8, log 10, log 11, log 32). -/

namespace Sys2Proof

/-- The role of a station, in the order of the straps and of the role byte of ANNOUNCE (R46, R31). -/
inductive Role where
  | blade | fan | supply | uplink
  deriving DecidableEq, Repr

/-- What the strap pins give when they are sampled (R46). -/
structure Straps where
  role : Role
  address : Addr
  setupHold : Bool
  deriving DecidableEq, Repr

/-- A frame as this station reads it from the line (R3, section 1.2): the fields of the key, the kind, the length, the
payload bytes and the 16 check bits. -/
structure FrameRead where
  cls : BitVec 3
  sender : Addr
  kind : BitVec 4
  length : BitVec 5
  payload : List Byte
  check : Half
  deriving DecidableEq, Repr

/-- The commands. An accepted frame carries its payload fields as raw bytes, since the census judges them (R5), and the
16 check bits as this station read them (R3). A local port command carries its argument bytes as sent (R191). -/
inductive Instr where
  /-- R68: standby power arrives; the straps as sampled. -/
  | powerOnStart (straps : Straps)
  /-- R69: the module reset line; the straps as sampled. -/
  | warmRestart (straps : Straps)
  /-- R48: the 512 bytes of the boot record have been received. -/
  | bootReadComplete (record : List Byte)
  /-- R47: the configuration memory does not respond or the transfer breaks off. -/
  | bootReadFault
  /-- R6 to R8: the start mark of the head frame and the bits that follow it. `line` gives the level read in each bit
  time from the first key bit, true for recessive; bit times past its end read as driven. -/
  | frameStart (line : List Bool)
  /-- R11: a veto window ends read dominant; the frame as read. -/
  | frameVetoed (frame : FrameRead)
  | capacityDropAccepted (sender : Addr) (subject : Byte) (value : Half) (check : Half)
  | airflowDropAccepted (sender : Addr) (subject : Byte) (value : Half) (check : Half)
  | lanesDropAccepted (sender : Addr) (subject : Byte) (value : Half) (check : Half)
  | powerClaimAccepted (sender : Addr) (level : Half) (check : Half)
  | powerReleaseAccepted (sender : Addr) (level : Half) (check : Half)
  | departAccepted (sender : Addr) (reason : Byte) (check : Half)
  | laneClaimAccepted (sender : Addr) (uplink count : Byte) (check : Half)
  | laneReleaseAccepted (sender : Addr) (uplink : Byte) (check : Half)
  | heatAccepted (sender : Addr) (zone demand : Byte) (check : Half)
  /-- R31: the 24 payload bytes. -/
  | announceAccepted (sender : Addr) (payload : List Byte) (check : Half)
  /-- R4: the segment number and the 18 bytes after it. -/
  | inventoryAccepted (sender : Addr) (segment : Byte) (rest : List Byte) (check : Half)
  | queryAccepted (sender : Addr) (target : Byte) (check : Half)
  | silenceExpiry (address : Addr)
  | staleHoldExpiry (address : Addr)
  | queryQuietExpiry (address : Addr)
  | announceTimerExpiry
  | listenTimerExpiry
  /-- R182: a run of 5 samples of SEATED at this level. -/
  | seatedChange (level : Bool)
  /-- R182: a run of 3 samples of EJECTOR at this level, true for open. -/
  | ejectorChange (isOpen : Bool)
  /-- R184: the open level of IN1 has lasted 1 ms. -/
  | ejectorLatchSet
  | bumpWindowExpiry
  /-- R183: 2 good samples of PG0, PG1 or PG2. -/
  | pgFoundGood (step : Nat)
  /-- R183: 2 bad samples of PG0, PG1 or PG2. -/
  | pgLoss (step : Nat)
  | staggerExpiry
  | stepOneShotExpiry
  | pgTimeoutExpiry
  | graceExpiry
  | stepOffDelayExpiry
  | criticalPersistenceExpiry
  | sweepIntervalExpiry
  /-- R117: the conversion in flight gives this converter code. -/
  | conversionCompletion (raw : BitVec 12)
  /-- R184: the warning level of IN2 has lasted 1 ms. -/
  | acWarnLatchSet
  | recoveryTimerExpiry
  | gateEnd
  /-- R182: a run of 3 samples of FAN_PRESENT of this channel at this level. -/
  | fanPresentChange (channel : Nat) (present : Bool)
  | pwmWrap
  /-- R182: a run of 3 samples at this level of input pin IN2 to IN7, where the role makes it a GPI or AC_WARN. -/
  | gpiChange (pin : Nat) (level : Bool)
  | blinkPhaseChange
  /-- R176, R179: the LOAD strobe ends; the 48 bits read in on MAP_DI, in the order in which they came. -/
  | shiftEnd (mapDi : List Bool)
  /-- R52: the STORE_SETUP write ends; the 512 bytes read back, or none where the memory did not respond or the
  transfer broke off. -/
  | setupStoreEnd (readBack : Option (List Byte))
  | readStatus
  | readEntry (address : Byte)
  | readTally
  | readChannel (channel : Byte)
  | readFans
  | readLanes (uplink : Byte)
  | nextEvent
  | setPower (level : Byte)
  | stopReady
  | leave
  | setLanes (count : Byte)
  | sendQuery (address : Byte)
  | sweepNow
  | readSetup (field index : Byte)
  | writeSetup (field index : Byte) (value : BitVec 32)
  | commitSetup
  | storeSetup
  /-- R195: the host's warm restart; the straps as sampled. -/
  | restart (straps : Straps)
  /-- R191: a write whose command byte is undefined or whose argument count is wrong. -/
  | unknownCommand (command : Byte) (arguments : List Byte)
  /-- R2: 8 consecutive recessive bit times. -/
  | lineSynchronised
  /-- R136: a rising edge at TACH of this channel. -/
  | tachEdge (channel : Nat)
  deriving DecidableEq, Repr

end Sys2Proof
end

