-- ==== Sys2Proof/Decode.lean ====
section
/-! DEFINITION. The table gives no row of this block any bits, so no word spells a command. -/

namespace Sys2Proof

/-- The command that a word of the opcode table's bits spells: none, since no row of the table has bits. -/
def decodeTableWord (_nbits _w : Nat) : Option Instr := none

end Sys2Proof
end

