-- ==== Sys2Proof/Config.lean ====
section
/-! DEFINITION. What the part fixes: counts and sizes (00_scope.md, R21, R23, R112, R132, R197). The manual leaves no
value of a step open, so there is no free value here: what the surroundings decide is an operand of a command. -/

namespace Sys2Proof

/-- Entries of the census, one for each station address (R23). -/
def Config.stations : Nat := 32

/-- Channels of the Measurement Unit (R112). -/
def Config.channels : Nat := 8

/-- Fan channels of the Fan Drive Unit (R132). -/
def Config.fans : Nat := 6

/-- Owner slots of a lane table (R167). -/
def Config.lanes : Nat := 8

/-- Input pins of the Line Unit (R181). -/
def Config.inputs : Nat := 8

/-- Places of the event queue (R197). -/
def Config.eventPlaces : Nat := 16

/-- Upper limit of the counters that saturate at 65535 (R21, R23, R136, R197). -/
def Config.counterMax : Nat := 65535

/-- Upper limit of the fault score (section 1.6). -/
def Config.faultMax : Nat := 64

/-- Upper limit of a power level in watts (R32). -/
def Config.levelMax : Nat := 4095

end Sys2Proof
end

