-- ==== Sys2Proof/Machine/Bits.lean ====
section
/-! DEFINITION. Plain arithmetic of the manual's conventions (00_scope.md, Units and number ranges): clamping,
saturating counters, bytes of wider values, timers. -/

namespace Sys2Proof.Machine

/-- A value below the range takes its lower end, a value above it its upper end. -/
def clampNat (lo hi x : Nat) : Nat := if x < lo then lo else if hi < x then hi else x

def clampInt (lo hi x : Int) : Int := if x < lo then lo else if hi < x then hi else x

/-- A counter that stops at its upper limit. -/
def satInc (limit x : Nat) : Nat := if x < limit then x + 1 else x

/-- Rounded up quotient, for a divisor above 0. -/
def ceilDiv (a b : Nat) : Nat := (a + (b - 1)) / b

/-- A byte of a payload or of a response; wider values are cut to their low 8 bits. -/
def byteOf (x : Nat) : Byte := BitVec.ofNat 8 x

def addrOf (x : Nat) : Addr := BitVec.ofNat 5 x

def halfOf (x : Nat) : Half := BitVec.ofNat 16 x

/-- Two bytes, most significant first. -/
def be16 (x : Nat) : List Byte := [byteOf (x / 256), byteOf x]

/-- Four bytes, most significant first. -/
def be32 (x : Nat) : List Byte := be16 (x / 65536) ++ be16 x

/-- Two bytes of a signed value in two's complement, most significant first. -/
def be16Int (x : Int) : List Byte := be16 (BitVec.ofInt 16 x).toNat

/-- The value of two bytes, most significant first. -/
def fromBe16 (hi lo : Byte) : Nat := hi.toNat * 256 + lo.toNat

/-- Byte i of a list of bytes; 0 past its end. -/
def byteAt (bs : List Byte) (i : Nat) : Nat := (bs.getD i 0).toNat

/-- The two-byte value at position i, most significant byte first. -/
def halfAt (bs : List Byte) (i : Nat) : Nat := byteAt bs i * 256 + byteAt bs (i + 1)

/-- The bits of a word, most significant first. -/
def bitsMsb {w : Nat} (x : BitVec w) : List Bool := (List.range w).map (fun i => x.getLsbD (w - 1 - i))

/-- A timer: none while stopped, and otherwise the milliseconds left. -/
abbrev Timer := Option Nat

/-- One millisecond of a timer; a timer at its end waits there for its expiry (log 5, log 6). -/
def Timer.run (t : Timer) : Timer := t.map (fun left => left - 1)

def Timer.running (t : Timer) : Bool := t.isSome

/-- The characters of a name before its first zero byte (R4). -/
def nameOf (bs : List Byte) : List Byte := (bs.take 16).takeWhile (fun b => b != 0)

/-- A name in its 16 bytes, with zero bytes after its characters (R4, R192). -/
def nameBytes (name : List Byte) : List Byte := (name ++ List.replicate 16 0).take 16

/-- The 32 station addresses in ascending order. -/
def allAddrs : List Addr := (List.range 32).map addrOf

end Sys2Proof.Machine
end

