-- ==== Sys2Proof/Machine/BootImage.lean ====
section
/-! DEFINITION. The boot image (R48 to R50, section 3.2): the field table, the record layout, clamping, and the fields
under their names. -/

namespace Sys2Proof.Machine

/-- One row of the boot field table of section 3.2 with its row of R49. -/
structure FieldSpec where
  no : Nat
  lo : Int
  hi : Int
  dflt : Int
  slots : Nat
  width : Nat
  signed : Bool
  pos : Nat
  deriving DecidableEq, Repr

/-- Fields 1 to 20: no., range, default, slots, bytes of a slot, signed, first byte. -/
def fieldTableCommon : List FieldSpec :=
  [⟨1, 0, 255, 0, 1, 1, false, 1⟩, ⟨2, 0, 255, 0, 1, 1, false, 2⟩,
   ⟨3, 0, 255, 0, 16, 1, false, 3⟩, ⟨4, 0, 255, 0, 16, 1, false, 19⟩,
   ⟨5, 0x08, 0x77, 0x52, 1, 1, false, 35⟩, ⟨6, 0, 1, 0, 1, 1, false, 36⟩,
   ⟨7, 0, 65535, 0, 1, 2, false, 37⟩, ⟨8, 1, 3, 3, 1, 1, false, 39⟩,
   ⟨9, 1, 4, 1, 1, 1, false, 40⟩, ⟨10, 0, 2, 0, 1, 1, false, 41⟩,
   ⟨11, 1, 4095, 400, 1, 2, false, 42⟩, ⟨12, 0, 4095, 200, 1, 2, false, 44⟩,
   ⟨13, 1, 25, 15, 1, 1, false, 46⟩, ⟨14, 1, 1000, 10, 3, 2, false, 47⟩,
   ⟨15, 10, 5000, 200, 3, 2, false, 53⟩, ⟨16, 1, 1000, 10, 3, 2, false, 59⟩,
   ⟨17, 0, 4, 0, 1, 1, false, 65⟩, ⟨18, 0, 255, 255, 1, 1, false, 66⟩,
   ⟨19, 0, 255, 255, 1, 1, false, 67⟩, ⟨20, 50, 2000, 200, 1, 2, false, 68⟩]

/-- Fields 21 to 34, one slot for each Measurement Unit channel. -/
def fieldTableChannels : List FieldSpec :=
  [⟨21, 0, 1, 0, 8, 1, false, 70⟩, ⟨22, 0, 2, 0, 8, 1, false, 78⟩,
   ⟨23, 0, 65535, 4096, 8, 2, false, 86⟩, ⟨24, -32768, 32767, 0, 8, 2, true, 102⟩,
   ⟨25, 0, 255, 4, 8, 1, false, 118⟩, ⟨26, 1, 1023, 16, 8, 2, false, 126⟩,
   ⟨27, 1, 32767, 64, 8, 2, false, 142⟩, ⟨28, 1, 15, 3, 8, 1, false, 158⟩,
   ⟨29, -32768, 32767, 32767, 8, 2, true, 166⟩, ⟨30, -32768, 32767, 32767, 8, 2, true, 182⟩,
   ⟨31, 0, 255, 8, 8, 1, false, 198⟩, ⟨32, 0, 1, 0, 8, 1, false, 206⟩,
   ⟨33, -32768, 32767, 32767, 8, 2, true, 214⟩, ⟨34, 4, 400, 100, 8, 2, false, 230⟩]

/-- Fields 35 to 54. -/
def fieldTableRoles : List FieldSpec :=
  [⟨35, 1, 6, 1, 1, 1, false, 246⟩, ⟨36, 1, 65535, 3999, 1, 2, false, 247⟩,
   ⟨37, 100, 600, 300, 1, 2, false, 249⟩, ⟨38, 1, 4, 2, 1, 1, false, 251⟩,
   ⟨39, 500, 30000, 12000, 1, 2, false, 252⟩, ⟨40, 1, 682, 30, 1, 2, false, 254⟩,
   ⟨41, 0, 1, 0, 6, 1, false, 256⟩, ⟨42, 0, 4095, 0, 1, 2, false, 262⟩,
   ⟨43, 50, 100, 100, 1, 1, false, 264⟩, ⟨44, 0, 65535, 0, 1, 2, false, 265⟩,
   ⟨45, 0, 65535, 65535, 1, 2, false, 267⟩, ⟨46, 0, 65535, 0, 1, 2, false, 269⟩,
   ⟨47, 1, 8, 1, 1, 1, false, 271⟩, ⟨48, 1, 4095, 50, 1, 2, false, 272⟩,
   ⟨49, 0, 13, 0, 16, 1, false, 274⟩, ⟨50, 0, 1, 0, 4, 1, false, 290⟩,
   ⟨51, 0, 1, 0, 4, 1, false, 294⟩, ⟨52, 0, 20, 0, 16, 1, false, 298⟩,
   ⟨53, 0, 255, 0, 16, 1, false, 314⟩, ⟨54, 0, 255, 0, 16, 1, false, 330⟩]

/-- The 54 fields in ascending number. -/
def fieldTable : List FieldSpec := fieldTableCommon ++ fieldTableChannels ++ fieldTableRoles

/-- The row of a field number from 1 to 54. -/
def fieldSpec (f : Nat) : FieldSpec := fieldTable.getD (f - 1) ⟨0, 0, 0, 0, 1, 1, false, 1⟩

/-- The boot image: for each field, in ascending number, its values in ascending index. -/
structure BootImage where
  fields : List (List Int)
  deriving DecidableEq, Repr

/-- The value of a field at an index. -/
def BootImage.get (b : BootImage) (f i : Nat) : Int := (b.fields.getD (f - 1) []).getD i 0

def BootImage.put (b : BootImage) (f i : Nat) (v : Int) : BootImage :=
  ⟨b.fields.set (f - 1) ((b.fields.getD (f - 1) []).set i v)⟩

/-- Every field at its default (R48). -/
def BootImage.defaults : BootImage := ⟨fieldTable.map (fun s => List.replicate s.slots s.dflt)⟩

/-- The value of one slot of a record (R49). -/
def slotValue (record : List Byte) (s : FieldSpec) (i : Nat) : Int :=
  if s.width == 1 then (byteAt record (s.pos + i) : Int)
  else if s.signed then (halfOf (halfAt record (s.pos + 2 * i))).toInt
  else (halfAt record (s.pos + 2 * i) : Int)

/-- The fields of a record, taken as they stand (R49). -/
def BootImage.ofRecord (record : List Byte) : BootImage :=
  ⟨fieldTable.map (fun s => (List.range s.slots).map (slotValue record s))⟩

/-- The sum of bytes 0 to 509 of a record, modulo 65536 (R48). -/
def recordSum (record : List Byte) : Nat := ((record.take 510).foldl (fun n b => n + b.toNat) 0) % 65536

/-- The sum that the record holds in bytes 510 and 511. -/
def recordSumHeld (record : List Byte) : Nat := halfAt record 510

/-- One slot as the record holds it. -/
def slotBytes (s : FieldSpec) (v : Int) : List Byte :=
  if s.width == 1 then [BitVec.ofInt 8 v] else be16Int v

/-- The record that STORE_SETUP writes (R52): format version 1, the fields as they stand, zeros in bytes 346 to 509 and
the sum. -/
def BootImage.toRecord (b : BootImage) : List Byte :=
  let fields := fieldTable.flatMap (fun s => (List.range s.slots).flatMap (fun i => slotBytes s (b.get s.no i)))
  let body := [(1 : Byte)] ++ fields ++ List.replicate 164 0
  body ++ be16 (recordSum body)

/-- Whether a field number names an uplink address, whose values 32 to 254 become 255 (R50). -/
def isUplinkField (f : Nat) : Bool := f == 18 || f == 19

/-- A value brought into a range; the uplink addresses have the exception of R50. -/
def intoRange (f : Nat) (lo hi v : Int) : Int :=
  let c := clampInt lo hi v
  if isUplinkField f && decide (32 ≤ c) then 255 else c

/-- The lower end of a field's range, with the cross-field ranges of R50. -/
def BootImage.lowOf (b : BootImage) (f i : Nat) : Int :=
  if f == 27 then b.get 25 i + 1 else if f == 45 then b.get 44 0 else (fieldSpec f).lo

/-- The upper end of a field's range, with the cross-field ranges of R50. -/
def BootImage.highOf (b : BootImage) (f : Nat) : Int :=
  if f == 12 then b.get 11 0 else (fieldSpec f).hi

/-- Every (field, index) in the order in which the loader clamps (R50). -/
def fieldSlots : List (Nat × Nat) := fieldTable.flatMap (fun s => (List.range s.slots).map (fun i => (s.no, i)))

/-- One slot brought into its range, against fields that have been clamped before it. -/
def BootImage.clampSlot (b : BootImage) (p : Nat × Nat) : BootImage :=
  b.put p.1 p.2 (intoRange p.1 (b.lowOf p.1 p.2) (b.highOf p.1) (b.get p.1 p.2))

/-- The image with every field in its range. -/
def BootImage.clampFields (b : BootImage) : BootImage := fieldSlots.foldl BootImage.clampSlot b

/-- The kinds of a supply's channels 0 to 3: VOLTAGE, CURRENT, TEMPERATURE, VOLTAGE (R50, R126). -/
def supplyKinds : List (Nat × Int) := [(0, 1), (1, 2), (2, 0), (3, 1)]

/-- Channels 0 to 3 of a supply, enabled and of their kinds (R50). -/
def BootImage.forceSupply (b : BootImage) : BootImage :=
  supplyKinds.foldl (fun b p => (b.put 21 p.1 1).put 22 p.1 p.2) b

/-- The image clamped for a role (R50). -/
def BootImage.clamp (b : BootImage) (role : Role) : BootImage :=
  match role with
  | .supply => b.clampFields.forceSupply
  | .blade | .fan | .uplink => b.clampFields

/-- The slots whose value differs between two images, in ascending order. -/
def BootImage.changed (b c : BootImage) : List (Nat × Nat) :=
  fieldSlots.filter (fun p => b.get p.1 p.2 != c.get p.1 p.2)

/-- The fields that count as clamped, in the order in which the loader changes them: those brought into range, then
those that a supply's forcing alone changes (R50). -/
def BootImage.clampedSlots (b : BootImage) (role : Role) : List (Nat × Nat) :=
  let first := b.changed b.clampFields
  first ++ ((b.clampFields.changed (b.clamp role)).filter (fun p => !first.contains p))

/-- WRITE_SETUP: a value brought into the field's own range, the cross-field ranges left aside (R51, R196; log 25). -/
def ownRange (f : Nat) (v : Int) : Int := intoRange f (fieldSpec f).lo (fieldSpec f).hi v

/-- The field number of a setup command, clamped into 1 to 54 (R196). -/
def fieldOf (b : Byte) : Nat := clampNat 1 54 b.toNat

/-- The index of a setup command, clamped into the range of the field named (R196). -/
def indexOf (f : Nat) (b : Byte) : Nat := clampNat 0 ((fieldSpec f).slots - 1) b.toNat

/-- A field that is never negative, as a natural number. -/
def BootImage.nat (b : BootImage) (f i : Nat) : Nat := (b.get f i).toNat

/-- A flag field; an unclamped image may hold more than 1, which clamping would make 1 (R50, log 37). -/
def BootImage.flag (b : BootImage) (f i : Nat) : Bool := decide (1 ≤ b.get f i)

/-- The 16 characters of field 3 or 4. -/
def BootImage.chars (b : BootImage) (f : Nat) : List Byte := (List.range 16).map (fun i => byteOf (b.nat f i))

def BootImage.moduleKind (b : BootImage) : Nat := b.nat 1 0
def BootImage.hardwareRevision (b : BootImage) : Nat := b.nat 2 0
def BootImage.partName (b : BootImage) : List Byte := nameOf (b.chars 3)
def BootImage.serial (b : BootImage) : List Byte := nameOf (b.chars 4)
def BootImage.portAddress (b : BootImage) : Nat := clampNat 0x08 0x77 (b.nat 5 0)
def BootImage.nPlusOne (b : BootImage) : Bool := b.flag 6 0
def BootImage.cap (b : BootImage) : Nat := b.nat 7 0
def BootImage.priority (b : BootImage) : Nat := b.nat 8 0
def BootImage.zone (b : BootImage) : Nat := b.nat 9 0
def BootImage.joinDefault (b : BootImage) : Nat := b.nat 10 0
def BootImage.fullLevel (b : BootImage) : Nat := b.nat 11 0
def BootImage.reducedLevel (b : BootImage) : Nat := b.nat 12 0
/-- The grace, in milliseconds. -/
def BootImage.graceMs (b : BootImage) : Nat := b.nat 13 0 * 1000
def BootImage.stepDelay (b : BootImage) (k : Nat) : Nat := b.nat 14 k
def BootImage.pgTimeout (b : BootImage) (k : Nat) : Nat := b.nat 15 k
def BootImage.stepOffDelay (b : BootImage) (k : Nat) : Nat := b.nat 16 k
def BootImage.lanesWanted (b : BootImage) : Nat := b.nat 17 0

/-- An uplink address field, 255 meaning none. -/
def BootImage.uplinkAt (b : BootImage) (f : Nat) : Option Addr := if b.nat f 0 < 32 then some (addrOf (b.nat f 0)) else none
def BootImage.primaryUplink (b : BootImage) : Option Addr := b.uplinkAt 18
def BootImage.secondaryUplink (b : BootImage) : Option Addr := b.uplinkAt 19
def BootImage.sweepInterval (b : BootImage) : Nat := b.nat 20 0
def BootImage.fanCount (b : BootImage) : Nat := b.nat 35 0
def BootImage.pwmTop (b : BootImage) : Nat := b.nat 36 0
def BootImage.minDuty (b : BootImage) : Nat := b.nat 37 0
def BootImage.pulses (b : BootImage) : Nat := b.nat 38 0
def BootImage.maxRpm (b : BootImage) : Nat := b.nat 39 0
def BootImage.wattsPerFan (b : BootImage) : Nat := b.nat 40 0
/-- For each fan, whether its drive is active low. -/
def BootImage.activeLow (b : BootImage) : List Bool := (List.range 6).map (fun i => b.flag 41 i)
def BootImage.rated (b : BootImage) : Nat := b.nat 42 0
def BootImage.derate (b : BootImage) : Nat := b.nat 43 0
def BootImage.vLo (b : BootImage) : Int := b.get 44 0
def BootImage.vHi (b : BootImage) : Int := b.get 45 0
def BootImage.inMin (b : BootImage) : Int := b.get 46 0
/-- The lanes of the uplink, 8 at most (field 47). -/
def BootImage.lanesConfigured (b : BootImage) : Nat := min Config.lanes (b.nat 47 0)
def BootImage.uplinkPower (b : BootImage) : Nat := b.nat 48 0

/-- Whether a Measurement Unit channel is enabled. -/
def BootImage.enabled (b : BootImage) (ch : Nat) : Bool := b.flag 21 ch
/-- Whether a channel is a demand channel of a blade: enabled, with its demand flag set (section 7.1). -/
def BootImage.isDemand (b : BootImage) (ch : Nat) : Bool := b.enabled ch && b.flag 32 ch

end Sys2Proof.Machine
end

