-- ==== Sys2Proof/Machine/Times.lean ====
section
/-! DEFINITION. The nominal times of the manual, in milliseconds. -/

namespace Sys2Proof.Machine

/-- R26, R28. -/
def silenceMs : Nat := 1920
/-- R28. -/
def staleHoldMs : Nat := 30000
/-- R40. -/
def queryQuietMs : Nat := 640
/-- R37. -/
def announceRoundMs : Nat := 640
/-- R37, R38: one place of the rotation. -/
def announceSlotMs : Nat := 20
/-- R56. -/
def listenMs : Nat := 1280
/-- R58. -/
def bumpMs : Nat := 200
/-- R101: one place of the stagger. -/
def staggerMs : Nat := 40
/-- R109. -/
def criticalMs : Nat := 5000
/-- R105: the longest grace of an overtemperature stop. -/
def overtempGraceMs : Nat := 5000
/-- R66, R105: the longest grace of a MUTE stop. -/
def muteGraceMs : Nat := 23000
/-- R157. -/
def recoveryMs : Nat := 5000
/-- R136. -/
def gateMs : Nat := 480
/-- R189. -/
def blinkMs : Nat := 500
/-- R142: counts of the PWM period counter in one millisecond at 100 MHz. -/
def pwmCountsPerMs : Nat := 100000

end Sys2Proof.Machine
end

