-- ==== Sys2Proof/Machine/State.lean ====
section
/-! DEFINITION. The state of one CN-32: every piece of state that the manual's blocks own (00_scope.md, Block overview),
as plain data, with its value after a power-on start. -/

namespace Sys2Proof.Machine

/-- R46, R68 and the head of chapter 3. -/
inductive StationState where
  | start | setup | parked | listen | joined | leaving | mute
  deriving DecidableEq, Repr

/-- R48, R51. -/
inductive SetupCause where
  | hold | sum | version | read
  deriving DecidableEq, Repr

/-- R10, R17. -/
inductive MuteCause where
  | addressClash | faultScore
  deriving DecidableEq, Repr

/-- The reasons of a DEPART frame (R4). -/
inductive DepartReason where
  | ejector | seatedLost | host
  deriving DecidableEq, Repr

/-- Section 2.1. -/
inductive EntryState where
  | vacant | live | stale
  deriving DecidableEq, Repr

/-- The station state that an ANNOUNCE carries (R31). -/
inductive PeerState where
  | joined | leaving
  deriving DecidableEq, Repr

/-- From best to worst (section 7.2). -/
inductive Airflow where
  | full | degraded | lost
  deriving DecidableEq, Repr

/-- Chapter 8, R31. -/
inductive SupplyState where
  | offline | ok | derated | failed
  deriving DecidableEq, Repr

/-- R177, R31. -/
inductive CrossbarState where
  | ok | fault
  deriving DecidableEq, Repr

/-- R94. -/
inductive HostTarget where
  | off | reduced | full
  deriving DecidableEq, Repr

/-- The reasons of a stop, in the order of R95. -/
inductive StopReason where
  | mute | ejector | host | overtemp | airflow | shed
  deriving DecidableEq, Repr

/-- The fields of CENSUS_CORRECTION (R33 to R35). -/
inductive CorrectionField where
  | role | held | claim | lanes | laneClaim
  deriving DecidableEq, Repr

/-- R152, R155. -/
inductive SupplyCause where
  | output | input | temperature | acWarn
  deriving DecidableEq, Repr

/-- R123. -/
inductive ThresholdLevel where
  | clear | warn | critical
  deriving DecidableEq, Repr

/-- The ten kinds of frame, in the order of their codes (R4). -/
inductive FrameKind where
  | alert | powerClaim | powerRelease | depart | laneClaim | laneRelease | heat | announce | inventory | query
  deriving DecidableEq, Repr

/-- The events raised to the host, in the order of section 11.5, with their values. -/
inductive Event where
  | frameDropped (kind : FrameKind)
  | muteEntered (cause : MuteCause)
  | peerJoined (address : Addr)
  | peerReturned (address : Addr)
  | peerStale (address : Addr)
  | peerExpired (address : Addr)
  | peerDeparted (address : Addr) (reason : DepartReason)
  | censusCorrection (address : Addr) (field : CorrectionField)
  | policyMismatch (address : Addr)
  | censusBuilt (count : Nat)
  | stationState (state : StationState)
  | bootClamped (field index : Nat)
  | setupEntered (cause : SetupCause)
  | setupStored
  | setupStoreFailed
  | ejectorBump
  | stopCancelled
  | powerWaiting (level : Nat)
  | powerAdmitted (level : Nat)
  | shedTarget (level : Nat)
  | budgetDeficit (excess : Nat)
  | budgetRestored
  | powerCapped (level : Nat)
  | shutdownRequest (reason : StopReason)
  | sequenceFault (step : Nat)
  | pgLost (step : Nat)
  | railsOn
  | railsOff
  | overtempStop
  | overtempCleared
  | channelFault (channel : Nat)
  | channelRecovered (channel : Nat)
  | threshold (channel : Nat) (level : ThresholdLevel)
  | airflow (zone : Nat) (state : Airflow)
  | fanFailed (channel : Nat)
  | fanInserted (channel : Nat)
  | fanRemoved (channel : Nat)
  | supplyState (state : SupplyState)
  | supplyFault (cause : SupplyCause)
  | overdraw (sum : Nat)
  | overdrawClear
  | lanesGranted (uplink : Addr) (lanes : List Nat)
  | lanesLost (uplink : Addr)
  | lanesUnavailable (uplink : Option Addr)
  | crossbarFault
  | eventOverflow (count : Nat)
  deriving DecidableEq, Repr

/-! ## Station life -/

/-- What the leaving sequence waits for (R60 to R64). -/
inductive LeaveStep where
  | railsOff          -- R60: the rails of a blade to be off
  | laneRelease       -- R60 step 1: the settlement of LANE_RELEASE
  | capacityAlert     -- R62: the settlement of ALERT CAPACITY_DROP
  | lanesAlert        -- R63: the settlement of ALERT LANES_DROP
  | idleMap           -- R63: the end of the shift of the all-idle map
  | powerRelease      -- R60, R61, R63: the settlement of POWER_RELEASE
  | departure         -- R64: the settlement of DEPART
  deriving DecidableEq, Repr

structure Leaving where
  reason : DepartReason
  step : LeaveStep
  deriving DecidableEq, Repr

/-- Chapter 3. -/
structure Life where
  station : StationState
  straps : Straps
  /-- Reads of the boot record that ended in a fault in this START (R47). -/
  readFaults : Nat
  /-- The boot image; none until the boot read ends (R68). -/
  image : Option BootImage
  /-- The running configuration (R54); in SETUP the image as it stood at entry (R51). -/
  config : BootImage
  setupCause : Option SetupCause
  /-- The record of a STORE_SETUP write in flight (R52). -/
  storing : Option (List Byte)
  listenTimer : Timer
  bumpTimer : Timer
  leaving : Option Leaving
  stayParked : Bool
  /-- A warm restart retained the rails or the fan drive, and the retention has not ended (R65, R69). -/
  retention : Bool
  deriving DecidableEq, Repr

/-! ## Peer Bus Controller -/

/-- The twelve slots of the transmit queue (section 1.5), in ascending kind code. -/
inductive SlotId where
  | capacityDrop | airflowDrop | lanesDrop
  | powerClaim | powerRelease | depart | laneClaim | laneRelease | heat | announce | inventory | query
  deriving DecidableEq, Repr

/-- The contents of a slot: the payload fields, or for HEAT and ANNOUNCE the fact that the frame is due (R15). -/
inductive FrameReq where
  | capacityDrop (value : Nat)
  | airflowDrop (zone : Nat) (value : Airflow)
  | lanesDrop (value : Nat)
  | powerClaim (level : Nat)
  | powerRelease (level : Nat)
  | depart (reason : DepartReason)
  | laneClaim (uplink : Addr) (count : Nat)
  | laneRelease (uplink : Addr)
  | heat
  | announce
  | inventory (segment : Nat)
  | query (target : Addr)
  deriving DecidableEq, Repr

/-- A frame in a slot (section 1.5). -/
structure QueuedFrame where
  contents : FrameReq
  age : Nat
  attempts : Nat
  followOn : Option FrameReq
  deriving DecidableEq, Repr

/-- The transmit queue (section 1.5). -/
structure TxQueue where
  capacityDrop : Option QueuedFrame
  airflowDrop : Option QueuedFrame
  lanesDrop : Option QueuedFrame
  powerClaim : Option QueuedFrame
  powerRelease : Option QueuedFrame
  depart : Option QueuedFrame
  laneClaim : Option QueuedFrame
  laneRelease : Option QueuedFrame
  heat : Option QueuedFrame
  announce : Option QueuedFrame
  inventory : Option QueuedFrame
  query : Option QueuedFrame
  deriving DecidableEq, Repr

/-- The payload of a frame as it travels: raw bytes, judged by the census (R5). -/
inductive Payload where
  | alert (code subject : Byte) (value : Half)
  | powerClaim (level : Half)
  | powerRelease (level : Half)
  | depart (reason : Byte)
  | laneClaim (uplink count : Byte)
  | laneRelease (uplink : Byte)
  | heat (zone demand : Byte)
  | announce (bytes : List Byte)
  | inventory (segment : Byte) (rest : List Byte)
  | query (target : Byte)
  deriving DecidableEq, Repr

/-- The station's own attempt on the line (R12): its slot, the payload built at its start mark (R15), and whether a bit
error has been read back (R8). -/
structure OnLine where
  slot : SlotId
  payload : Payload
  bitError : Bool
  deriving DecidableEq, Repr

structure Pbc where
  synced : Bool
  queue : TxQueue
  onLine : Option OnLine
  /-- A DEPART on the line at entry to LISTEN, to be removed when its attempt ends (R20). -/
  dropDepart : Bool
  /-- The stamp that a slot takes as its age (section 1.5); it rises at each command that may queue (log 29). -/
  stamp : Nat
  faultScore : Nat
  checkFailures : Nat
  vetoes : Nat
  muteFlag : Bool
  muteCause : Option MuteCause
  deriving DecidableEq, Repr

/-! ## Census Engine -/

/-- A policy (R31, R42): redundancy N+1 or N, and a cap in watts, 0 meaning none. -/
structure Policy where
  nPlusOne : Bool
  cap : Nat
  deriving DecidableEq, Repr

/-- Section 2.6: without a serial the status is PARTIAL, with one COMPLETE. -/
structure Identity where
  moduleKind : Nat
  revision : Nat
  partName : List Byte
  serial : Option (List Byte)
  deriving DecidableEq, Repr

structure BladePart where
  zone : Nat
  demand : Nat
  full : Nat
  reduced : Nat
  /-- The pending lane claim: uplink and count. The lane holding is read from the uplink's lane table (log 9). -/
  laneClaim : Option (Addr × Nat)
  deriving DecidableEq, Repr

structure FanPart where
  zone : Nat
  airflow : Airflow
  duty : Nat
  deriving DecidableEq, Repr

structure SupplyPart where
  state : SupplyState
  capacity : Nat
  output : Nat
  deriving DecidableEq, Repr

structure UplinkPart where
  offer : Nat
  crossbar : CrossbarState
  /-- Eight owner slots (R167). -/
  table : List (Option Addr)
  deriving DecidableEq, Repr

/-- The role part of an entry; the role is read from it, and it is absent while the role is UNKNOWN (section 2.1). -/
inductive RolePart where
  | unknown
  | blade (part : BladePart)
  | fan (part : FanPart)
  | supply (part : SupplyPart)
  | uplink (part : UplinkPart)
  deriving DecidableEq, Repr

/-- One record of the census (section 2.1). -/
structure Entry where
  state : EntryState
  station : Option PeerState
  policy : Option Policy
  priority : Nat
  held : Nat
  claim : Option Nat
  shed : Option Nat
  part : RolePart
  identity : Option Identity
  silence : Timer
  staleHold : Timer
  quiet : Timer
  mismatch : Bool
  deriving DecidableEq, Repr

/-- A claim of the power waiting list as the host reads it (R73). -/
structure WaitingClaim where
  address : Addr
  priority : Nat
  held : Nat
  level : Nat
  deriving DecidableEq, Repr

/-- The tally as it stood at the end of the last completed follow-up, which READ_TALLY reports (R73). -/
structure TallyReport where
  policy : Policy
  capacity : Nat
  reserve : Nat
  admission : Nat
  shedBudget : Nat
  load : Nat
  effLoad : Nat
  deficit : Bool
  waiting : List WaitingClaim
  deriving DecidableEq, Repr

structure Census where
  /-- One entry for each address, 0 to 31 (R23). -/
  entries : List Entry
  /-- Uplinks marked for the lane walk of the present follow-up (R169). -/
  marked : List Addr
  announceTimer : Timer
  ownAnnounced : Bool
  anomalies : Nat
  deficit : Bool
  overdraw : Bool
  /-- The tally of the last completed follow-up (R73, log 9). -/
  report : TallyReport
  deriving DecidableEq, Repr

/-! ## Blade: power client, heat demand, lane client, Rail Sequencer -/

structure Client where
  hostTarget : HostTarget
  overtemp : Bool
  criticalTimer : Timer
  capped : Bool
  /-- The effective target T as last composed (R95). -/
  target : Nat
  stopReason : Option StopReason
  zoneAirflow : Airflow
  /-- The last-sent demand (R129). -/
  lastSent : Nat
  lanesWanted : Nat
  unavailableReported : Bool
  deriving DecidableEq, Repr

/-- Section 5.3. -/
inductive RailState where
  | off | stagger | ramp (k : Nat) | on | stopWait | stopping (k : Nat) | fault
  deriving DecidableEq, Repr

structure Rsq where
  state : RailState
  stagger : Timer
  oneShot : Timer
  pgTimeout : Timer
  grace : Timer
  stepOff : Timer
  /-- The stop reason of STOP_WAIT (R105). -/
  stopReason : Option StopReason
  retained : Nat
  /-- The stop in progress empties the held level when the rails are off (R111). -/
  clearOnOff : Bool
  deriving DecidableEq, Repr

/-! ## Measurement Unit -/

inductive ChannelStatus where
  | unset | normal | faulted
  deriving DecidableEq, Repr

inductive RunSign where
  | up | down | none
  deriving DecidableEq, Repr

/-- The working fields of a channel record (R112). -/
structure ChannelRec where
  raw : Nat
  value : Int
  status : ChannelStatus
  filtered : Option Int
  bucket : Int
  run : Nat
  runSign : RunSign
  spikes : Nat
  recovery : Nat
  reference : Option Int
  warn : Bool
  critical : Bool
  deriving DecidableEq, Repr

structure Msu where
  channels : List ChannelRec
  /-- The channel in conversion; none while idle (R113). -/
  sweep : Option Nat
  request : Bool
  interval : Timer
  deriving DecidableEq, Repr

/-! ## Fan Drive Unit -/

inductive FanState where
  | absent | idle | spinup | running | failed
  deriving DecidableEq, Repr

structure FanChannel where
  state : FanState
  failureMark : Bool
  duty : Nat
  spinup : Nat
  lowGates : Nat
  tach : Nat
  rpm : Nat
  preload : Nat
  shadow : Nat
  /-- RUNNING since the start of the present gate (R137). -/
  ranWholeGate : Bool
  /-- The duty changed within the present gate (R137). -/
  dutyChanged : Bool
  deriving DecidableEq, Repr

/-- The three conditions of R133, or none of them. -/
inductive DriveMode where
  | none | drive | mute | retained
  deriving DecidableEq, Repr

structure Fdu where
  channels : List FanChannel
  mode : DriveMode
  zoneDemand : Nat
  base : Nat
  boost : Bool
  duty : Nat
  saturation : Nat
  gate : Timer
  /-- The PWM period counter; none while it is stopped at 0 (R142). -/
  counter : Option Nat
  /-- The period top, fan count and polarities in force (R149). -/
  top : Nat
  count : Nat
  activeLow : List Bool
  airflow : Airflow
  deriving DecidableEq, Repr

/-! ## Supply Monitor -/

inductive Activity where
  | inactive | running | frozen
  deriving DecidableEq, Repr

structure Spm where
  state : SupplyState
  activity : Activity
  qualification : Nat
  recovery : Timer
  capacity : Nat
  output : Nat
  outEn : Bool
  deriving DecidableEq, Repr

/-! ## Lane Map Port -/

structure Lmp where
  /-- The map in flight; present exactly while SHIFTING (R177). -/
  inFlight : Option LaneMap
  committed : Option LaneMap
  waiting : Option LaneMap
  trusted : Bool
  crossbar : CrossbarState
  forcedIdle : Bool
  xbarEn : Bool
  deriving DecidableEq, Repr

/-! ## Line Unit -/

inductive Debounced where
  | unsettled | no | yes
  deriving DecidableEq, Repr

/-- A debounced input (R182, R183): its state, and the level and length of the present run of equal samples. For a PG
return `yes` is good and `no` is lost. -/
structure Input where
  state : Debounced
  level : Bool
  count : Nat
  deriving DecidableEq, Repr

structure Lnu where
  inputs : List Input
  ejectorLatch : Bool
  ejectorCopy : Bool
  acLatch : Bool
  acCopy : Bool
  blinkSecond : Bool
  blinkTimer : Timer
  deriving DecidableEq, Repr

/-! ## Local Port -/

/-- R191, in the order of their codes. -/
inductive PortStatus where
  | ok | refusedState | busy | unknown
  deriving DecidableEq, Repr

structure Response where
  status : PortStatus
  data : List Byte
  deriving DecidableEq, Repr

structure Lpt where
  response : Option Response
  events : List Event
  overflow : Nat
  deriving DecidableEq, Repr

/-! ## The station -/

/-- The state of one station, and the queue of the commands that wait. -/
structure State where
  life : Life
  pbc : Pbc
  cen : Census
  client : Client
  rsq : Rsq
  msu : Msu
  fdu : Fdu
  spm : Spm
  lmp : Lmp
  lnu : Lnu
  lpt : Lpt
  pending : List Instr
  deriving DecidableEq, Repr

/-- Why a step stops with a fault. No command of this block does: the manual gives every unusual request an effect
(00_scope.md, Outcomes of unusual requests). -/
inductive Fault where
  deriving DecidableEq, Repr

/-- Why a command has no meaning. -/
inductive Refusal where
  /-- Raised by an arm of exec whose command has no meaning in the model yet; no arm is left. Safe. -/
  | notModelled (mnemonic : String)
  deriving DecidableEq, Repr

/-! ## Values after a power-on start -/

/-- The values that an entry takes when it becomes VACANT (R23). -/
def Entry.vacant : Entry :=
  { state := .vacant, station := none, policy := none, priority := 3, held := 0, claim := none, shed := none,
    part := .unknown, identity := none, silence := none, staleHold := none, quiet := none, mismatch := false }

def TxQueue.empty : TxQueue :=
  { capacityDrop := none, airflowDrop := none, lanesDrop := none, powerClaim := none, powerRelease := none,
    depart := none, laneClaim := none, laneRelease := none, heat := none, announce := none, inventory := none,
    query := none }

/-- R22. -/
def Pbc.reset : Pbc :=
  { synced := false, queue := .empty, onLine := none, dropDepart := false, stamp := 0, faultScore := 0,
    checkFailures := 0, vetoes := 0, muteFlag := false, muteCause := none }

/-- R93. -/
def TallyReport.reset : TallyReport :=
  { policy := { nPlusOne := false, cap := 0 }, capacity := 0, reserve := 0, admission := 0, shedBudget := 0, load := 0,
    effLoad := 0, deficit := false, waiting := [] }

/-- R45, R93, R164. -/
def Census.reset : Census :=
  { entries := List.replicate Config.stations .vacant, marked := [], announceTimer := none, ownAnnounced := false,
    anomalies := 0, deficit := false, overdraw := false, report := .reset }

/-- R94, R129, R130, R172 (log 3). -/
def Client.reset : Client :=
  { hostTarget := .off, overtemp := false, criticalTimer := none, capped := false, target := 0, stopReason := none,
    zoneAirflow := .lost, lastSent := 0, lanesWanted := 0, unavailableReported := false }

/-- R100. -/
def Rsq.reset : Rsq :=
  { state := .off, stagger := none, oneShot := none, pgTimeout := none, grace := none, stepOff := none,
    stopReason := none, retained := 0, clearOnOff := false }

/-- R113. -/
def ChannelRec.reset : ChannelRec :=
  { raw := 0, value := 0, status := .unset, filtered := none, bucket := 0, run := 0, runSign := .none, spikes := 0,
    recovery := 0, reference := none, warn := false, critical := false }

/-- R113. -/
def Msu.reset : Msu :=
  { channels := List.replicate Config.channels .reset, sweep := none, request := false, interval := none }

/-- R132. -/
def FanChannel.reset : FanChannel :=
  { state := .absent, failureMark := false, duty := 0, spinup := 0, lowGates := 0, tach := 0, rpm := 0, preload := 0,
    shadow := 0, ranWholeGate := false, dutyChanged := false }

/-- R132, R144 (log 2). -/
def Fdu.reset : Fdu :=
  { channels := List.replicate Config.fans .reset, mode := .none, zoneDemand := 0, base := 0, boost := false, duty := 0,
    saturation := 0, gate := none, counter := none, top := BootImage.defaults.pwmTop,
    count := BootImage.defaults.fanCount, activeLow := BootImage.defaults.activeLow, airflow := .lost }

/-- R150. -/
def Spm.reset : Spm :=
  { state := .offline, activity := .inactive, qualification := 0, recovery := none, capacity := 0, output := 0,
    outEn := false }

/-- R177, R166. -/
def Lmp.reset : Lmp :=
  { inFlight := none, committed := none, waiting := none, trusted := false, crossbar := .ok, forcedIdle := false,
    xbarEn := false }

/-- R182. -/
def Input.reset : Input := { state := .unsettled, level := false, count := 0 }

/-- R182 to R184, R189. -/
def Lnu.reset : Lnu :=
  { inputs := List.replicate Config.inputs .reset, ejectorLatch := false, ejectorCopy := false, acLatch := false,
    acCopy := false, blinkSecond := false, blinkTimer := some blinkMs }

/-- R198. -/
def Lpt.reset : Lpt := { response := none, events := [], overflow := 0 }

/-- R68, with the straps as sampled (log 2 for the configuration before it is installed). -/
def Life.reset (straps : Straps) : Life :=
  { station := .start, straps := straps, readFaults := 0, image := none, config := BootImage.defaults,
    setupCause := none, storing := none, listenTimer := none, bumpTimer := none, leaving := none, stayParked := false,
    retention := false }

/-- The station right after a power-on start that sampled these straps, with these commands waiting. -/
def State.powerOn (straps : Straps) (pending : List Instr) : State :=
  { life := .reset straps, pbc := .reset, cen := .reset, client := .reset, rsq := .reset, msu := .reset,
    fdu := .reset, spm := .reset, lmp := .reset, lnu := .reset, lpt := .reset, pending := pending }

/-- The straps of State.reset: DESIGN CHOICE, the manual gives none (log 1). -/
def Life.resetStraps : Straps := { role := .blade, address := 0, setupHold := false }

/-- The machine right after a power-on start. -/
def State.reset : State := .powerOn Life.resetStraps []

end Sys2Proof.Machine
end

