-- ==== Sys2Proof/Machine/Ops.lean ====
section
/-! DEFINITION. The shared operations: reading the state under the manual's names, raising events, the census's entries
and the transmit queue. -/

namespace Sys2Proof.Machine

/-! ## Station, role, configuration -/

def State.station (s : State) : StationState := s.life.station
def State.role (s : State) : Role := s.life.straps.role
/-- The station's own address. -/
def State.addr (s : State) : Addr := s.life.straps.address
/-- The running configuration. -/
def State.cfg (s : State) : BootImage := s.life.config

/-- R1: LISTEN, JOINED or LEAVING. -/
def StationState.listening : StationState → Bool
  | .listen | .joined | .leaving => true
  | .start | .setup | .parked | .mute => false

/-- PARKED, LISTEN, JOINED, LEAVING or MUTE: the boot image is the running configuration (R54). -/
def StationState.running : StationState → Bool
  | .parked | .listen | .joined | .leaving | .mute => true
  | .start | .setup => false

/-- JOINED, LEAVING or MUTE: the client composes its target (R94), the shed runs (R92), AIRFLOW is raised (R130). -/
def StationState.acting : StationState → Bool
  | .joined | .leaving | .mute => true
  | .start | .setup | .parked | .listen => false

/-- The states in which the receive counters count (R21). -/
def StationState.counting (t : StationState) : Bool := t.listening || t == .mute

/-- The states in which the PBC follows the line (R1). -/
def StationState.followsLine (t : StationState) : Bool := t.running

def State.isBlade (s : State) : Bool := s.role == .blade
def State.isFan (s : State) : Bool := s.role == .fan
def State.isSupply (s : State) : Bool := s.role == .supply
def State.isUplink (s : State) : Bool := s.role == .uplink

/-! ## Events raised to the host (R197) -/

/-- An event joins the queue as its newest, or is dropped and counted while the queue holds 16. -/
def Lpt.push (p : Lpt) (e : Event) : Lpt :=
  if p.events.length < Config.eventPlaces then { p with events := p.events ++ [e] }
  else { p with overflow := satInc Config.counterMax p.overflow }

def State.raise (s : State) (e : Event) : State := { s with lpt := s.lpt.push e }

def State.raiseIf (s : State) (b : Bool) (e : Event) : State := if b then s.raise e else s

def State.raiseAll (s : State) (es : List Event) : State := { s with lpt := es.foldl Lpt.push s.lpt }

/-! ## Entries of the census -/

def Census.get (c : Census) (a : Addr) : Entry := c.entries.getD a.toNat .vacant

def Census.upd (c : Census) (a : Addr) (f : Entry → Entry) : Census :=
  { c with entries := c.entries.set a.toNat (f (c.get a)) }

def Census.updAll (c : Census) (f : Entry → Entry) : Census := { c with entries := c.entries.map f }

def State.entry (s : State) (a : Addr) : Entry := s.cen.get a

/-- The entry at the station's own address (R24). -/
def State.self (s : State) : Entry := s.cen.get s.addr

def State.updCen (s : State) (f : Census → Census) : State := { s with cen := f s.cen }

def State.updEntry (s : State) (a : Addr) (f : Entry → Entry) : State := { s with cen := s.cen.upd a f }

def State.updSelf (s : State) (f : Entry → Entry) : State := s.updEntry s.addr f

/-- One protocol anomaly (R23). -/
def State.anomaly (s : State) : State :=
  { s with cen := { s.cen with anomalies := satInc Config.counterMax s.cen.anomalies } }

/-- The role of an entry; none while UNKNOWN. -/
def Entry.role (e : Entry) : Option Role :=
  match e.part with
  | .unknown => none
  | .blade _ => some .blade
  | .fan _ => some .fan
  | .supply _ => some .supply
  | .uplink _ => some .uplink

def Entry.isVacant (e : Entry) : Bool := e.state == .vacant
def Entry.isLive (e : Entry) : Bool := e.state == .live
def Entry.isStale (e : Entry) : Bool := e.state == .stale

def Entry.blade (e : Entry) : Option BladePart :=
  match e.part with
  | .blade p => some p
  | .unknown | .fan _ | .supply _ | .uplink _ => none

def Entry.fan (e : Entry) : Option FanPart :=
  match e.part with
  | .fan p => some p
  | .unknown | .blade _ | .supply _ | .uplink _ => none

def Entry.supply (e : Entry) : Option SupplyPart :=
  match e.part with
  | .supply p => some p
  | .unknown | .blade _ | .fan _ | .uplink _ => none

def Entry.uplink (e : Entry) : Option UplinkPart :=
  match e.part with
  | .uplink p => some p
  | .unknown | .blade _ | .fan _ | .supply _ => none

def Entry.updBlade (e : Entry) (f : BladePart → BladePart) : Entry :=
  match e.part with
  | .blade p => { e with part := .blade (f p) }
  | .unknown | .fan _ | .supply _ | .uplink _ => e

def Entry.updFan (e : Entry) (f : FanPart → FanPart) : Entry :=
  match e.part with
  | .fan p => { e with part := .fan (f p) }
  | .unknown | .blade _ | .supply _ | .uplink _ => e

def Entry.updSupply (e : Entry) (f : SupplyPart → SupplyPart) : Entry :=
  match e.part with
  | .supply p => { e with part := .supply (f p) }
  | .unknown | .blade _ | .fan _ | .uplink _ => e

def Entry.updUplink (e : Entry) (f : UplinkPart → UplinkPart) : Entry :=
  match e.part with
  | .uplink p => { e with part := .uplink (f p) }
  | .unknown | .blade _ | .fan _ | .supply _ => e

/-- The lanes that an uplink entry offers; 0 in every other role. -/
def Entry.offer (e : Entry) : Nat := match e.uplink with | some p => p.offer | none => 0

/-- The owner slots of an uplink entry; none in every other role. -/
def Entry.table (e : Entry) : List (Option Addr) := match e.uplink with | some p => p.table | none => []

/-- The pending lane claim of a blade entry. -/
def Entry.laneClaim (e : Entry) : Option (Addr × Nat) := match e.blade with | some p => p.laneClaim | none => none

/-- The shed target where there is one, and the held level otherwise (R72). -/
def Entry.effective (e : Entry) : Nat := e.shed.getD e.held

/-- Whether the identity is COMPLETE (section 2.6). -/
def Entry.identityComplete (e : Entry) : Bool :=
  match e.identity with
  | some i => i.serial.isSome
  | none => false

/-- The lanes that station a owns in this entry's lane table, in ascending order. -/
def Entry.lanesOf (e : Entry) (a : Addr) : List Nat :=
  (List.range Config.lanes).filter (fun k => e.table.getD k none == some a)

/-- The lane holding of station a: the uplink and the lanes owned there (R167; stored in the lane tables, log 9). -/
def Census.holding (c : Census) (a : Addr) : Option (Addr × List Nat) :=
  match allAddrs.find? (fun u => !((c.get u).lanesOf a).isEmpty) with
  | some u => some (u, (c.get u).lanesOf a)
  | none => none

/-- The lane holding of the station itself. -/
def State.ownHolding (s : State) : Option (Addr × List Nat) := s.cen.holding s.addr

/-! ## The transmit queue (sections 1.5 and 1.6) -/

/-- The kind of the frames of a slot. -/
def SlotId.kind : SlotId → FrameKind
  | .capacityDrop | .airflowDrop | .lanesDrop => .alert
  | .powerClaim => .powerClaim
  | .powerRelease => .powerRelease
  | .depart => .depart
  | .laneClaim => .laneClaim
  | .laneRelease => .laneRelease
  | .heat => .heat
  | .announce => .announce
  | .inventory => .inventory
  | .query => .query

/-- The code of a kind (R4). -/
def FrameKind.code : FrameKind → Nat
  | .alert => 0 | .powerClaim => 1 | .powerRelease => 2 | .depart => 3 | .laneClaim => 4
  | .laneRelease => 5 | .heat => 6 | .announce => 7 | .inventory => 8 | .query => 9

/-- The class of a kind (R4). -/
def FrameKind.cls : FrameKind → Nat
  | .alert => 0 | .powerClaim => 1 | .powerRelease => 1 | .depart => 1 | .laneClaim => 2
  | .laneRelease => 2 | .heat => 3 | .announce => 4 | .inventory => 5 | .query => 6

/-- The payload length of a kind in bytes (R4). -/
def FrameKind.length : FrameKind → Nat
  | .alert => 4 | .powerClaim => 2 | .powerRelease => 2 | .depart => 1 | .laneClaim => 2
  | .laneRelease => 1 | .heat => 2 | .announce => 24 | .inventory => 19 | .query => 1

/-- The slots in ascending kind code; the three ALERT slots in the order of their codes. -/
def allSlots : List SlotId :=
  [.capacityDrop, .airflowDrop, .lanesDrop, .powerClaim, .powerRelease, .depart, .laneClaim, .laneRelease, .heat,
   .announce, .inventory, .query]

def FrameReq.slot : FrameReq → SlotId
  | .capacityDrop _ => .capacityDrop
  | .airflowDrop _ _ => .airflowDrop
  | .lanesDrop _ => .lanesDrop
  | .powerClaim _ => .powerClaim
  | .powerRelease _ => .powerRelease
  | .depart _ => .depart
  | .laneClaim _ _ => .laneClaim
  | .laneRelease _ => .laneRelease
  | .heat => .heat
  | .announce => .announce
  | .inventory _ => .inventory
  | .query _ => .query

def TxQueue.get (q : TxQueue) : SlotId → Option QueuedFrame
  | .capacityDrop => q.capacityDrop
  | .airflowDrop => q.airflowDrop
  | .lanesDrop => q.lanesDrop
  | .powerClaim => q.powerClaim
  | .powerRelease => q.powerRelease
  | .depart => q.depart
  | .laneClaim => q.laneClaim
  | .laneRelease => q.laneRelease
  | .heat => q.heat
  | .announce => q.announce
  | .inventory => q.inventory
  | .query => q.query

def TxQueue.put (q : TxQueue) (i : SlotId) (f : Option QueuedFrame) : TxQueue :=
  match i with
  | .capacityDrop => { q with capacityDrop := f }
  | .airflowDrop => { q with airflowDrop := f }
  | .lanesDrop => { q with lanesDrop := f }
  | .powerClaim => { q with powerClaim := f }
  | .powerRelease => { q with powerRelease := f }
  | .depart => { q with depart := f }
  | .laneClaim => { q with laneClaim := f }
  | .laneRelease => { q with laneRelease := f }
  | .heat => { q with heat := f }
  | .announce => { q with announce := f }
  | .inventory => { q with inventory := f }
  | .query => { q with query := f }

def State.slot (s : State) (i : SlotId) : Option QueuedFrame := s.pbc.queue.get i

def State.setSlot (s : State) (i : SlotId) (f : Option QueuedFrame) : State :=
  { s with pbc := { s.pbc with queue := s.pbc.queue.put i f } }

def State.clearQueue (s : State) : State := { s with pbc := { s.pbc with queue := .empty } }

/-- Whether the frame of this slot is on the line (R12). -/
def Pbc.sending (p : Pbc) (i : SlotId) : Bool :=
  match p.onLine with
  | some o => o.slot == i
  | none => false

/-- A command that may queue frames begins: the frames it queues share one age (R12, log 29). -/
def State.newEvent (s : State) : State := { s with pbc := { s.pbc with stamp := s.pbc.stamp + 1 } }

/-- A frame that takes a slot afresh. -/
def State.fresh (s : State) (r : FrameReq) : QueuedFrame :=
  { contents := r, age := s.pbc.stamp, attempts := 0, followOn := none }

/-- What a taken request makes of a slot's frame (R13). A request for INVENTORY is absorbed while segment 0 is on the
line (R15). -/
def QueuedFrame.requested (f : QueuedFrame) (sending : Bool) (r : FrameReq) : QueuedFrame :=
  if sending then
    if f.contents == .inventory 0 then f else { f with followOn := some r }
  else { f with contents := r, attempts := 0 }

/-- A request that is taken (R13). -/
def State.enqueue (s : State) (r : FrameReq) : State :=
  match s.slot r.slot with
  | none => s.setSlot r.slot (some (s.fresh r))
  | some f => s.setSlot r.slot (some (f.requested (s.pbc.sending r.slot) r))

/-- A block requests that a frame be queued: taken in LISTEN, JOINED and LEAVING, and discarded elsewhere (R13). -/
def State.request (s : State) (r : FrameReq) : State := if s.station.listening then s.enqueue r else s

def State.requestIf (s : State) (b : Bool) (r : FrameReq) : State := if b then s.request r else s

/-- Whether a slot holds a frame with these contents, as contents or as follow-on (R98). -/
def State.holdsRequest (s : State) (r : FrameReq) : Bool :=
  match s.slot r.slot with
  | some f => f.contents == r || f.followOn == some r
  | none => false

/-- A slot that holds a frame other than the wanted one: off the line it is emptied, on the line it loses a follow-on
that is not wanted (R98). -/
def State.trimSlot (s : State) (wanted : Option FrameReq) (i : SlotId) : State :=
  match s.slot i with
  | none => s
  | some f =>
    if s.pbc.sending i then
      if f.followOn == wanted then s else s.setSlot i (some { f with followOn := none })
    else if wanted == some f.contents then s else s.setSlot i none

/-- A client brings its slots to its wanted request (R98, R174). What is not wanted is removed first, so that a wanted
frame in its place takes a fresh age (log 47). -/
def State.syncSlots (s : State) (wanted : Option FrameReq) (slots : List SlotId) : State :=
  let t := slots.foldl (fun t i => t.trimSlot wanted i) s
  match wanted with
  | none => t
  | some r => if t.holdsRequest r then t else t.request r

/-- Whether slot f ranks ahead of the best found so far: lower class, then older age (R12); slots are tried in ascending
kind code. -/
def ranksAhead (i : SlotId) (f : QueuedFrame) (best : Option (SlotId × QueuedFrame)) : Bool :=
  match best with
  | none => true
  | some (j, g) =>
    decide (i.kind.cls < j.kind.cls) || (i.kind.cls == j.kind.cls && decide (f.age < g.age))

/-- The head of the transmit queue (R12). -/
def TxQueue.head (q : TxQueue) : Option (SlotId × QueuedFrame) :=
  allSlots.foldl (fun best i =>
    match q.get i with
    | none => best
    | some f => if ranksAhead i f best then some (i, f) else best) none

/-! ## Inputs of the Line Unit -/

/-- One sample of a debounced input that needs n equal samples (R182, R183). -/
def Input.sample (n : Nat) (level : Bool) (x : Input) : Input :=
  let count := if x.level == level && decide (0 < x.count) then min n (x.count + 1) else 1
  { level := level, count := count,
    state := if decide (n ≤ count) then (if level then .yes else .no) else x.state }

/-- m samples at one level. -/
def Input.samples (n : Nat) (level : Bool) : Nat → Input → Input
  | 0, x => x
  | m + 1, x => Input.samples n level m (x.sample n level)

/-- A whole run of n equal samples (log 7). -/
def Input.settle (n : Nat) (level : Bool) (x : Input) : Input := x.samples n level n

def State.input (s : State) (pin : Nat) : Input := s.lnu.inputs.getD pin .reset

def State.debounce (s : State) (pin n : Nat) (level : Bool) : State :=
  { s with lnu := { s.lnu with inputs := s.lnu.inputs.set pin ((s.input pin).settle n level) } }

/-- An unsettled input is reported as false, or as closed for EJECTOR (R182). -/
def Input.isYes (x : Input) : Bool := x.state == .yes

def State.seated (s : State) : Bool := (s.input 0).isYes
def State.ejectorOpen (s : State) : Bool := (s.input 1).isYes
/-- Whether PG_k is good; an unsettled return is not (R183). -/
def State.pgGood (s : State) (k : Nat) : Bool := (s.input (k + 2)).isYes
/-- Whether the fan of a channel is present. -/
def State.fanPresent (s : State) (k : Nat) : Bool := (s.input (k + 2)).isYes

/-- Samples that make a run: 5 for SEATED, 3 for the others but PG (R182). -/
def seatedSamples : Nat := 5
def lineSamples : Nat := 3
/-- R183. -/
def pgSamples : Nat := 2

/-! ## Transitions -/

/-- The station state changes and STATION_STATE is raised (head of chapter 3). -/
def State.enterState (s : State) (t : StationState) : State :=
  { s with life := { s.life with station := t } }.raise (.stationState t)

end Sys2Proof.Machine
end

