-- ==== Sys2Proof/Machine/Tally.lean ====
section
/-! DEFINITION. The power tally (chapter 4): capacity and budgets, loads, the waiting list walk, the shed computation,
the report that READ_TALLY gives of them, and the OVERDRAW sum. All but that report is computed from the entries
(log 9). -/

namespace Sys2Proof.Machine

/-- The sum of a value over the 32 entries. -/
def Census.sum (c : Census) (f : Entry → Nat) : Nat := (c.entries.map f).sum

/-- What an entry contributes to C (R70). -/
def Entry.contribution (e : Entry) : Nat :=
  match e.supply with
  | none => 0
  | some p => if e.isLive && (p.state == .ok || p.state == .derated) then p.capacity else 0

/-- C (R70). -/
def Census.capacity (c : Census) : Nat := c.sum Entry.contribution

/-- The largest contribution of one entry (R71). -/
def Census.largest (c : Census) : Nat := (c.entries.map Entry.contribution).foldl max 0

/-- The committed load L (R72); a VACANT entry holds 0. -/
def Census.load (c : Census) : Nat := c.sum Entry.held

/-- The effective load L_eff (R72). -/
def Census.effLoad (c : Census) : Nat := c.sum Entry.effective

/-! ## The effective policy (R42) -/

/-- The configured policy; before the passage into PARKED there is none, which merges as N without a cap (R93). -/
def State.ownPolicy (s : State) : Policy :=
  if s.station.running then { nPlusOne := s.cfg.nPlusOne, cap := s.cfg.cap } else { nPlusOne := false, cap := 0 }

/-- The policies announced by peers that are LIVE or STALE. -/
def Census.peerPolicies (c : Census) (own : Addr) : List Policy :=
  allAddrs.filterMap (fun a => if a == own || (c.get a).isVacant then none else (c.get a).policy)

/-- The smaller of two caps, 0 meaning none. -/
def minCap (x y : Nat) : Nat := if x == 0 then y else if y == 0 then x else min x y

def Policy.merge (p q : Policy) : Policy := { nPlusOne := p.nPlusOne || q.nPlusOne, cap := minCap p.cap q.cap }

/-- The effective policy of a census under a configured policy. -/
def Census.policy (c : Census) (own : Addr) (configured : Policy) : Policy :=
  (c.peerPolicies own).foldl Policy.merge configured

def State.policy (s : State) : Policy := s.cen.policy s.addr s.ownPolicy

/-! ## Budgets (R71) -/

def Census.reserve (c : Census) (p : Policy) : Nat := if p.nPlusOne then c.largest else 0

/-- A value lowered to the effective cap where there is one. -/
def Policy.limit (p : Policy) (x : Nat) : Nat := if p.cap == 0 then x else min x p.cap

/-- The admission budget A. -/
def Census.admission (c : Census) (p : Policy) : Nat := p.limit (c.capacity - c.reserve p)

/-- The shed budget S. -/
def Census.shedBudget (c : Census) (p : Policy) : Nat := p.limit c.capacity

/-! ## The waiting list (R74, R76) -/

/-- Addresses in ascending (priority, address) order. -/
def Census.byPriority (c : Census) (as : List Addr) : List Addr :=
  [0, 1, 2, 3].flatMap (fun p => as.filter (fun a => (c.get a).priority == p))

/-- The claimants of the power waiting list, in its order. -/
def Census.waiting (c : Census) : List Addr := c.byPriority (allAddrs.filter (fun a => (c.get a).claim.isSome))

/-- A claim is admitted (R76). -/
def Entry.admitAt (e : Entry) (level : Nat) : Entry := { e with held := level, claim := none }

/-- Whether the claim of an address at a level fits (R76). -/
def Census.fits (c : Census) (budget : Nat) (a : Addr) (level : Nat) : Bool :=
  decide (c.load + (level - (c.get a).held) ≤ budget)

/-- The walk over the rest of the list; it stops at the first claim that does not fit (R76). -/
def Census.walk (budget : Nat) : List Addr → Census → Census
  | [], c => c
  | a :: rest, c =>
    match (c.get a).claim with
    | none => Census.walk budget rest c
    | some level =>
      if c.fits budget a level then Census.walk budget rest (c.upd a (fun e => e.admitAt level)) else c

/-! ## Shedding (R85 to R88) -/

/-- LIVE BLADE entries, in shed order (R85). -/
def Census.candidates (c : Census) : List Addr :=
  (c.byPriority (allAddrs.filter (fun a => (c.get a).isLive && (c.get a).blade.isSome))).reverse

/-- The level that pass 1 brings a blade to (R86). -/
def Entry.reducedLevel (e : Entry) : Nat := match e.blade with | some p => p.reduced | none => 0

/-- A target is set where the effective level exceeds it (R86, R87). -/
def Entry.shedTo (e : Entry) (level : Nat) : Entry := if level < e.effective then { e with shed := some level } else e

/-- One pass over the candidates; it ends as soon as L_eff is within S. -/
def Census.shedPass (budget : Nat) (level : Entry → Nat) : List Addr → Census → Census
  | [], c => c
  | a :: rest, c =>
    if c.effLoad ≤ budget then c
    else Census.shedPass budget level rest (c.upd a (fun e => e.shedTo (level e)))

/-- Pass 1 and, where L_eff still exceeds S, pass 2 (R85 to R87). -/
def Census.shedAll (c : Census) (budget : Nat) : Census :=
  Census.shedPass budget (fun _ => 0) c.candidates (Census.shedPass budget Entry.reducedLevel c.candidates c)

/-- The shed computation with its events (R85, R89, R90). -/
def State.shed (s : State) : State :=
  let before := s.self.shed
  let budget := s.cen.shedBudget s.policy
  let t := s.updCen (fun c => c.shedAll budget)
  let t := match t.self.shed with
    | some level => t.raiseIf (before != some level) (.shedTarget level)
    | none => t
  let excess := t.cen.effLoad - budget
  if t.cen.effLoad ≤ budget then
    if t.cen.deficit then (t.updCen (fun c => { c with deficit := false })).raise .budgetRestored else t
  else if t.cen.deficit then t
  else (t.updCen (fun c => { c with deficit := true })).raise (.budgetDeficit excess)

/-! ## The report (R73) -/

/-- A claim of the power waiting list as the host reads it. -/
def Census.waitingClaim (c : Census) (a : Addr) : WaitingClaim :=
  { address := a, priority := (c.get a).priority, held := (c.get a).held, level := (c.get a).claim.getD 0 }

/-- The tally of a census under an effective policy. -/
def Census.tally (c : Census) (p : Policy) : TallyReport :=
  { policy := p, capacity := c.capacity, reserve := c.reserve p, admission := c.admission p,
    shedBudget := c.shedBudget p, load := c.load, effLoad := c.effLoad, deficit := c.deficit,
    waiting := c.waiting.map c.waitingClaim }

/-- A follow-up is complete: the host reads the tally as it now stands. -/
def State.recordTally (s : State) : State := s.updCen (fun c => { c with report := c.tally s.policy })

/-! ## OVERDRAW (R163) -/

/-- The measured output of a LIVE SUPPLY entry. -/
def Entry.measuredOutput (e : Entry) : Nat :=
  match e.supply with
  | none => 0
  | some p => if e.isLive then p.output else 0

/-- The sum M (R163). -/
def Census.measuredSum (c : Census) : Nat := c.sum Entry.measuredOutput

/-- The OVERDRAW check (R163). -/
def State.overdrawCheck (s : State) : State :=
  let m := s.cen.measuredSum
  let budget := s.cen.shedBudget s.policy
  if !s.cen.overdraw && decide (budget * 105 / 100 < m) then
    (s.updCen (fun c => { c with overdraw := true })).raise (.overdraw m)
  else if s.cen.overdraw && decide (m ≤ budget) then
    (s.updCen (fun c => { c with overdraw := false })).raise .overdrawClear
  else s

end Sys2Proof.Machine
end

