-- ==== Sys2Proof/Machine/Lanes.lean ====
section
/-! DEFINITION. Lane tables and lane waiting lists (R167 to R171), and the freeing of an entry (R30, R81). -/

namespace Sys2Proof.Machine

/-- The uplink is marked for the lane walk of this follow-up (R169). -/
def Census.mark (c : Census) (u : Addr) : Census := { c with marked := c.marked ++ [u] }

def Census.markIf (c : Census) (b : Bool) (u : Addr) : Census := if b then c.mark u else c

/-- Slots of a table without those of station a. -/
def freeSlots (a : Addr) (table : List (Option Addr)) : List (Option Addr) :=
  table.map (fun o => if o == some a then none else o)

/-- Every lane that station a owns on uplink u is freed, and u is marked where there was one (R169, R170). -/
def Census.freeOn (c : Census) (a u : Addr) : Census :=
  if ((c.get u).lanesOf a).isEmpty then c
  else (c.upd u (fun e => e.updUplink (fun p => { p with table := freeSlots a p.table }))).mark u

/-- Every lane that station a owns is freed. -/
def Census.freeLanes (c : Census) (a : Addr) : Census := allAddrs.foldl (fun c u => c.freeOn a u) c

def Entry.withoutLaneClaim (e : Entry) : Entry := e.updBlade (fun p => { p with laneClaim := none })

/-- The pending lane claim of station a leaves the list that holds it. -/
def Census.dropLaneClaim (c : Census) (a : Addr) : Census := c.upd a Entry.withoutLaneClaim

/-- Every claim in the lane waiting list of uplink u is removed. -/
def Census.dropLaneClaimsOn (c : Census) (u : Addr) : Census :=
  c.updAll (fun e => match e.laneClaim with
    | some (v, _) => if v == u then e.withoutLaneClaim else e
    | none => e)

/-- The count of every claim in the list of uplink u is lowered to the offer (R171). -/
def Census.limitLaneClaimsOn (c : Census) (u : Addr) (offer : Nat) : Census :=
  c.updAll (fun e => e.updBlade (fun p => match p.laneClaim with
    | some (v, n) => if v == u then { p with laneClaim := some (v, min n offer) } else p
    | none => p))

/-- Station a's held level falls to 0: lanes, lane claim and shed target go (R81). -/
def Census.heldZero (c : Census) (a : Addr) : Census :=
  ((c.freeLanes a).dropLaneClaim a).upd a (fun e => { e with held := 0, shed := none })

/-- A shed target at or above the held level is removed (R80, R88). -/
def Entry.trimShed (e : Entry) : Entry :=
  match e.shed with
  | some t => if e.held ≤ t then { e with shed := none } else e
  | none => e

/-- Station a's held level becomes h (R34, R80, R81). At 0 the effects of R81 follow, for a level that was 0 before too
(log 50). -/
def Census.setHeld (c : Census) (a : Addr) (h : Nat) : Census :=
  if h == 0 then c.heldZero a else c.upd a (fun e => { e with held := h }.trimShed)

/-- The freeing of R30, steps 1 to 6. -/
def Census.free (c : Census) (a : Addr) : Census :=
  let c := c.upd a (fun e => { e with claim := none })
  let c := c.heldZero a
  if (c.get a).uplink.isSome then
    ((c.upd a (fun e => e.updUplink (fun p => { p with table := List.replicate Config.lanes none }))).dropLaneClaimsOn a).mark a
  else c

/-- An entry is freed and becomes VACANT (R23, R30). -/
def Census.vacate (c : Census) (a : Addr) : Census := (c.free a).upd a (fun _ => .vacant)

/-- The held level is set to 0 by a local write, with the pending claim (R82). -/
def Census.localZero (c : Census) (a : Addr) : Census :=
  (c.upd a (fun e => { e with claim := none })).heldZero a

/-! ## The offer (R171) -/

/-- The stations that own a lane numbered k or above. -/
def ownersAbove (k : Nat) (table : List (Option Addr)) : List Addr := (table.drop k).filterMap id

/-- The table after the offer falls to k. -/
def cutTable (k : Nat) (table : List (Option Addr)) : List (Option Addr) :=
  (ownersAbove k table).foldl (fun t a => freeSlots a t) table

/-- The offer of uplink u becomes k. -/
def Census.setOffer (c : Census) (u : Addr) (k : Nat) : Census :=
  let p := (c.get u).offer
  let c' := c.upd u (fun e => e.updUplink (fun q =>
    { q with offer := k, table := if k < p then cutTable k q.table else q.table }))
  if k < p then (if k == 0 then c'.dropLaneClaimsOn u else c'.limitLaneClaimsOn u k).mark u
  else if p < k then c'.mark u
  else c

/-! ## Claims and releases (R168, R170) -/

/-- Whether uplink u is a LIVE entry of role UPLINK that offers lanes (R168, R172). -/
def Census.available (c : Census) (u : Addr) : Bool := (c.get u).isLive && decide (0 < (c.get u).offer)

/-- A lane claim is taken (R168, R35): s's claim becomes (u, n), n cut to the offer. -/
def Census.putLaneClaim (c : Census) (a u : Addr) (n : Nat) : Census :=
  (c.upd a (fun e => e.updBlade (fun p => { p with laneClaim := some (u, min n (c.get u).offer) }))).mark u

/-- An accepted LANE_CLAIM that is not ignored. -/
def Census.takeLaneClaim (c : Census) (a u : Addr) (n : Nat) : Census := (c.freeLanes a).putLaneClaim a u n

/-- An accepted LANE_RELEASE (R170). -/
def Census.takeLaneRelease (c : Census) (a u : Addr) : Census :=
  let c := c.freeOn a u
  match (c.get a).laneClaim with
  | some (v, _) => if v == u then c.dropLaneClaim a else c
  | none => c

/-! ## The lane walk (R169) -/

/-- The claimants of uplink u's lane waiting list, in its order. -/
def Census.laneWaiting (c : Census) (u : Addr) : List Addr :=
  c.byPriority (allAddrs.filter (fun a => match (c.get a).laneClaim with
    | some (v, _) => v == u
    | none => false))

/-- The free lanes of an uplink entry: below its offer, with a free slot, in ascending order. -/
def Entry.freeLanes (e : Entry) : List Nat :=
  (List.range e.offer).filter (fun k => e.table.getD k none == none)

/-- Lanes are assigned to a station. -/
def assignLanes (a : Addr) (lanes : List Nat) (table : List (Option Addr)) : List (Option Addr) :=
  lanes.foldl (fun t k => t.set k (some a)) table

def Census.assign (c : Census) (u a : Addr) (lanes : List Nat) : Census :=
  c.upd u (fun e => e.updUplink (fun p => { p with table := assignLanes a lanes p.table }))

/-- The walk over the rest of uplink u's list; it stops at the first claim for which too few lanes are free (R169), and at
one whose station holds no power and so may hold no lanes (R167, log 15). -/
def Census.laneWalk (u : Addr) : List Addr → Census → Census
  | [], c => c
  | a :: rest, c =>
    match (c.get a).laneClaim with
    | none => Census.laneWalk u rest c
    | some (_, n) =>
      let free := (c.get u).freeLanes
      if 0 < (c.get a).held ∧ n ≤ free.length then
        Census.laneWalk u rest ((c.dropLaneClaim a).assign u a (free.take n)) else c

/-- The walk of uplink u, for a LIVE entry of role UPLINK. -/
def Census.walkUplink (c : Census) (u : Addr) : Census :=
  if (c.get u).isLive && (c.get u).uplink.isSome then Census.laneWalk u (c.laneWaiting u) c else c

/-- The walks of every marked uplink, in ascending address; the marks end with them. -/
def Census.walkMarked (c : Census) : Census :=
  { (allAddrs.filter (fun u => c.marked.contains u)).foldl Census.walkUplink c with marked := [] }

end Sys2Proof.Machine
end

