-- ==== Sys2Proof/Machine/FollowUp.lean ====
section
/-! DEFINITION. The follow-up of a census event (R25): the waiting list walk, the shed computation, the lane walks and
the OVERDRAW check, with the events that the census raises for the station itself (R78, R175). -/

namespace Sys2Proof.Machine

/-- What a follow-up must know of its event. -/
structure Follow where
  /-- An accepted ANNOUNCE: the OVERDRAW check is made (R163). -/
  announce : Bool
  /-- The station's own accepted LANE_CLAIM, LANE_RELEASE or DEPART, which raises no LANES_LOST (R175). -/
  ownLane : Bool
  /-- The local write of a dropped DEPART, which the census takes as one of PARKED: no shed runs (R64, R92). -/
  parking : Bool
  deriving DecidableEq, Repr

/-- Any other event. -/
def Follow.plain : Follow := { announce := false, ownLane := false, parking := false }

/-- The local write with which a dropped DEPART passes the station into PARKED (R64). -/
def Follow.departed : Follow := { Follow.plain with parking := true }

/-- The uplink of a holding. -/
def holdingUplink (h : Option (Addr × List Nat)) : Option Addr := h.map (fun p => p.1)

/-- LANES_LOST where the event's own effects removed the self entry's holding (R175). -/
def State.lanesLost (s : State) (pre : Census) (k : Follow) : State :=
  match pre.holding s.addr with
  | none => s
  | some (u, _) =>
    s.raiseIf (s.isBlade && !k.ownLane && s.station != .listen && holdingUplink s.ownHolding != some u) (.lanesLost u)

/-- Step 2, the waiting list walk, with POWER_ADMITTED and POWER_WAITING (R76, R78). -/
def State.walkPower (s : State) (pre : Census) : State :=
  let t := s.updCen (fun c => Census.walk (c.admission s.policy) c.waiting c)
  match s.self.claim with
  | none => t
  | some level =>
    if t.self.claim.isNone then t.raise (.powerAdmitted level)
    else t.raiseIf ((pre.get s.addr).claim != some level) (.powerWaiting level)

/-- Step 3, the lane walks, with LANES_GRANTED (R169, R175). A gained holding clears the unavailable-reported flag
(R175). -/
def State.walkLanes (s : State) : State :=
  let t := s.updCen Census.walkMarked
  if t.ownHolding == s.ownHolding then t
  else match t.ownHolding with
    | none => t
    | some (u, lanes) =>
      State.raiseIf { t with client := { t.client with unavailableReported := false } }
        (s.isBlade && s.station != .listen) (.lanesGranted u lanes)

/-- The follow-up of an event whose own effects took the census from `pre` to that of s. The shed runs in JOINED, LEAVING
and MUTE (R91, R92), and so does the OVERDRAW check (R163); the local write that passes into PARKED runs none (R92). At its end the tally is the one that the host reads (R73). -/
def State.followUp (s : State) (pre : Census) (k : Follow) : State :=
  let t := (s.lanesLost pre k).walkPower pre
  let t := if t.station.acting && !k.parking then t.shed else t
  let t := t.walkLanes
  (if k.announce && t.station.acting then t.overdrawCheck else t).recordTally

/-- A local write to the self entry is a census event of its own (R24, R82). -/
def State.localWrite (s : State) (f : Census → Census) : State := (s.updCen f).followUp s.cen .plain

/-- The local write that sets the self entry's held level to 0 (R82). -/
def State.localZero (s : State) : State := s.localWrite (fun c => c.localZero s.addr)

end Sys2Proof.Machine
end

