-- ==== Sys2Proof/Machine/Operands.lean ====
section
/-! DEFINITION. The forms of the frames: codes of enumerated fields (R4, R31), payloads built at a start mark (R15, R31),
the check (R3) and the bits on the line (section 1.2). -/

namespace Sys2Proof

def Role.code : Role → Nat
  | .blade => 0 | .fan => 1 | .supply => 2 | .uplink => 3

def Role.ofCode : Nat → Option Role
  | 0 => some .blade | 1 => some .fan | 2 => some .supply | 3 => some .uplink | _ => none

end Sys2Proof

namespace Sys2Proof.Machine

/-! ## Codes of enumerated fields -/

def PeerState.code : PeerState → Nat
  | .joined => 1 | .leaving => 2

def PeerState.ofCode : Nat → Option PeerState
  | 1 => some .joined | 2 => some .leaving | _ => none

def Airflow.code : Airflow → Nat
  | .full => 0 | .degraded => 1 | .lost => 2

def Airflow.ofCode : Nat → Option Airflow
  | 0 => some .full | 1 => some .degraded | 2 => some .lost | _ => none

def SupplyState.code : SupplyState → Nat
  | .offline => 0 | .ok => 1 | .derated => 2 | .failed => 3

def SupplyState.ofCode : Nat → Option SupplyState
  | 0 => some .offline | 1 => some .ok | 2 => some .derated | 3 => some .failed | _ => none

def CrossbarState.code : CrossbarState → Nat
  | .ok => 0 | .fault => 1

def CrossbarState.ofCode : Nat → Option CrossbarState
  | 0 => some .ok | 1 => some .fault | _ => none

def DepartReason.code : DepartReason → Nat
  | .ejector => 1 | .seatedLost => 2 | .host => 3

def DepartReason.ofCode : Nat → Option DepartReason
  | 1 => some .ejector | 2 => some .seatedLost | 3 => some .host | _ => none

/-- An address byte of a payload: 0 to 31 (R4). -/
def addrOfCode (b : Byte) : Option Addr := if b.toNat < 32 then some (addrOf b.toNat) else none

/-- A zone byte of a payload: 1 to 4 (R4). -/
def zoneOfCode (b : Byte) : Option Nat := if decide (1 ≤ b.toNat) && decide (b.toNat ≤ 4) then some b.toNat else none

def boolCode (b : Bool) : Nat := if b then 1 else 0

/-- A lane set as a byte: lane k held when bit k is 1 (R31). -/
def laneSetByte (lanes : List Nat) : Byte := byteOf (lanes.foldl (fun n k => n + 2 ^ k) 0)

/-- The lanes of a lane set byte, in ascending order. -/
def lanesOfByte (b : Byte) : List Nat := (List.range Config.lanes).filter (fun k => b.getLsbD k)

/-! ## Payloads -/

/-- The lane fields of a BLADE's role part, offsets 16 to 19 (R31); 255 for none, with a lane set or a count of 0 beside
it (log 44). -/
def announceLanes (s : State) : List Byte :=
  (match s.ownHolding with
    | some (u, lanes) => [byteOf u.toNat, laneSetByte lanes]
    | none => [255, 0]) ++
  (match s.self.laneClaim with
    | some (u, n) => [byteOf u.toNat, byteOf n]
    | none => [255, 0])

/-- The role part of the own ANNOUNCE, 14 bytes (R31). -/
def announceRolePart (s : State) : List Byte :=
  match s.self.part with
  | .blade p =>
    [byteOf p.zone, byteOf p.demand] ++ be16 p.full ++ be16 p.reduced ++ announceLanes s ++ [0, 0, 0, 0]
  | .fan p => [byteOf p.zone, byteOf p.airflow.code] ++ be16 p.duty ++ List.replicate 10 0
  | .supply p => [byteOf p.state.code] ++ be16 p.capacity ++ be16 p.output ++ List.replicate 9 0
  | .uplink p => [byteOf p.offer, byteOf p.crossbar.code] ++ List.replicate 12 0
  | .unknown => List.replicate 14 0

/-- The payload of the own ANNOUNCE, built from the self entry (R15, R31). -/
def announcePayload (s : State) : List Byte :=
  [byteOf s.role.code, byteOf (if s.station == .leaving then PeerState.leaving.code else PeerState.joined.code),
   byteOf (boolCode s.cfg.nPlusOne)] ++ be16 s.cfg.cap ++
  [byteOf s.self.priority] ++ be16 s.self.held ++ be16 (s.self.claim.getD 0) ++ announceRolePart s

/-- An INVENTORY segment (R4): 0 with kind code, revision and part name, 1 with the serial. -/
def inventoryPayload (s : State) (segment : Nat) : Payload :=
  if segment == 0 then
    .inventory 0 ([byteOf s.cfg.moduleKind, byteOf s.cfg.hardwareRevision] ++ nameBytes s.cfg.partName)
  else .inventory 1 (nameBytes s.cfg.serial ++ [0, 0])

/-- The zone and demand of the own HEAT (R15, R127). -/
def heatPayload (s : State) : Payload :=
  match s.self.blade with
  | some p => .heat (byteOf p.zone) (byteOf p.demand)
  | none => .heat 0 0

/-- The payload of a queued frame, taken at the start mark (R15). -/
def buildPayload (s : State) : FrameReq → Payload
  | .capacityDrop v => .alert 1 0 (halfOf v)
  | .airflowDrop z v => .alert 2 (byteOf z) (halfOf v.code)
  | .lanesDrop v => .alert 3 0 (halfOf v)
  | .powerClaim v => .powerClaim (halfOf v)
  | .powerRelease v => .powerRelease (halfOf v)
  | .depart r => .depart (byteOf r.code)
  | .laneClaim u n => .laneClaim (byteOf u.toNat) (byteOf n)
  | .laneRelease u => .laneRelease (byteOf u.toNat)
  | .heat => heatPayload s
  | .announce => .announce (announcePayload s)
  | .inventory seg => inventoryPayload s seg
  | .query t => .query (byteOf t.toNat)

def Payload.kind : Payload → FrameKind
  | .alert _ _ _ => .alert
  | .powerClaim _ => .powerClaim
  | .powerRelease _ => .powerRelease
  | .depart _ => .depart
  | .laneClaim _ _ => .laneClaim
  | .laneRelease _ => .laneRelease
  | .heat _ _ => .heat
  | .announce _ => .announce
  | .inventory _ _ => .inventory
  | .query _ => .query

/-- The payload bytes in line order (R4). -/
def Payload.bytes : Payload → List Byte
  | .alert c s v => [c, s] ++ be16 v.toNat
  | .powerClaim v => be16 v.toNat
  | .powerRelease v => be16 v.toNat
  | .depart r => [r]
  | .laneClaim u n => [u, n]
  | .laneRelease u => [u]
  | .heat z d => [z, d]
  | .announce bs => bs
  | .inventory seg rest => seg :: rest
  | .query t => [t]

/-! ## The check (R3) -/

/-- One bit into the check register: generator x^16 + x^12 + x^5 + 1. -/
def crcBit (r : Half) (bit : Bool) : Half :=
  let shifted := r <<< 1
  if r.getLsbD 15 != bit then shifted ^^^ 0x1021 else shifted

/-- The check of a run of bits, the register preset to all ones. -/
def crcOf (bits : List Bool) : Half := bits.foldl crcBit 0xFFFF

/-- The kind of a code; none for the undefined codes 10 to 15 (R4). -/
def FrameKind.ofCode : Nat → Option FrameKind
  | 0 => some .alert | 1 => some .powerClaim | 2 => some .powerRelease | 3 => some .depart | 4 => some .laneClaim
  | 5 => some .laneRelease | 6 => some .heat | 7 => some .announce | 8 => some .inventory | 9 => some .query
  | _ => none

end Sys2Proof.Machine

namespace Sys2Proof

open Machine

/-- Key, kind, length and payload of a frame in line order, most significant bit first (section 1.2). -/
def FrameRead.headBits (f : FrameRead) : List Bool :=
  bitsMsb f.cls ++ bitsMsb f.sender ++ bitsMsb f.kind ++ bitsMsb f.length ++ f.payload.flatMap (fun b => bitsMsb b)

/-- The check that a receiver computes over the bits it reads (R3). -/
def FrameRead.computed (f : FrameRead) : Half := crcOf f.headBits

/-- Whether the frame passes its check (R3). -/
def FrameRead.checkPasses (f : FrameRead) : Bool := f.computed == f.check

/-- A frame whose header and length match its kind is well formed (R5). -/
def FrameRead.wellFormed (f : FrameRead) : Bool :=
  match FrameKind.ofCode f.kind.toNat with
  | none => false
  | some k => k.cls == f.cls.toNat && k.length == f.length.toNat

/-- Whether a receiver judges the frame bad: undefined kind, wrong class, wrong length or failed check (R9). -/
def FrameRead.bad (f : FrameRead) : Bool := !f.wellFormed || !f.checkPasses

end Sys2Proof

namespace Sys2Proof.Machine

/-- A frame of this sender and payload, with these check bits. -/
def frameOf (sender : Addr) (p : Payload) (check : Half) : FrameRead :=
  { cls := BitVec.ofNat 3 p.kind.cls, sender := sender, kind := BitVec.ofNat 4 p.kind.code,
    length := BitVec.ofNat 5 p.kind.length, payload := p.bytes, check := check }

/-- The check bits that a transmitter sends for this payload (R3). -/
def checkOf (sender : Addr) (p : Payload) : Half := (frameOf sender p 0).computed

/-- The bits that a transmitter drives after its start mark, true for recessive (section 1.2). -/
def drivenBits (sender : Addr) (p : Payload) : List Bool :=
  (frameOf sender p 0).headBits ++ bitsMsb (checkOf sender p)

/-! ## Arbitration and read-back (R7, R8) -/

/-- How a transmission goes on the line. -/
inductive LineResult where
  | clean      -- every bit read as driven
  | lost       -- arbitration lost (R7)
  | bitError   -- a bit error (R8)
  deriving DecidableEq, Repr

/-- Reads the driven bits back. `key` is how many key bits are left. In the key a recessive bit read dominant loses
arbitration (R7), and a dominant bit read recessive is a bit error; after the key any difference is a bit error (R8).
Bits past the end of `line` read as driven. -/
def readBack : Nat → List Bool → List Bool → LineResult
  | _, [], _ => .clean
  | _, _, [] => .clean
  | key, d :: ds, r :: rs =>
    if d == r then readBack (key - 1) ds rs
    else if decide (0 < key) && d then .lost
    else .bitError

end Sys2Proof.Machine
end

