-- ==== Sys2Proof/Machine/Announce.lean ====
section
/-! DEFINITION. An accepted ANNOUNCE: decoding (R32), its effects on the sender's entry (R33 to R35), the policy comparison
(R43), the resynchronisation (R38) and the asking of QUERY (R40). -/

namespace Sys2Proof.Machine

/-! ## Decoding (R32) -/

/-- The fields of an ANNOUNCE, checked and clamped. The part holds no lanes: those are in `holding` and `laneClaim`. -/
structure AnnounceBody where
  station : PeerState
  policy : Policy
  priority : Nat
  held : Nat
  claim : Option Nat
  part : RolePart
  holding : Option (Addr × List Nat)
  laneClaim : Option (Addr × Nat)
  /-- A SUPPLY that announced a held level or a claim. -/
  supplyExcess : Bool
  deriving DecidableEq, Repr

/-- An uplink address byte: 0 to 31, or 255 for none; another value is a code fault. -/
def uplinkOfCode (b : Nat) : Option (Option Addr) :=
  if b == 255 then some none else if b < 32 then some (some (addrOf b)) else none

/-- The redundancy byte. -/
def redundancyOfCode : Nat → Option Bool
  | 0 => some false | 1 => some true | _ => none

/-- An empty UPLINK part: an entry takes its role with every lane free and no lanes offered (R167). -/
def freshUplink (crossbar : CrossbarState) : UplinkPart :=
  { offer := 0, crossbar := crossbar, table := List.replicate Config.lanes none }

/-- The BLADE role part of a payload; none on a code fault of the zone. -/
def bladePartOf (bs : List Byte) : Option BladePart :=
  match zoneOfCode (bs.getD 10 0) with
  | none => none
  | some z =>
    let full := clampNat 1 Config.levelMax (halfAt bs 12)
    some { zone := z, demand := byteAt bs 11, full := full, reduced := min full (halfAt bs 14), laneClaim := none }

def fanPartOf (bs : List Byte) : Option FanPart :=
  match zoneOfCode (bs.getD 10 0), Airflow.ofCode (byteAt bs 11) with
  | some z, some a => some { zone := z, airflow := a, duty := min 1000 (halfAt bs 12) }
  | _, _ => none

def supplyPartOf (bs : List Byte) : Option SupplyPart :=
  match SupplyState.ofCode (byteAt bs 10) with
  | none => none
  | some t => some { state := t, capacity := min Config.levelMax (halfAt bs 11), output := halfAt bs 13 }

def uplinkPartOf (bs : List Byte) : Option UplinkPart :=
  match CrossbarState.ofCode (byteAt bs 11) with
  | none => none
  | some x => some { freshUplink x with offer := min Config.lanes (byteAt bs 10) }

/-- The role part named by the role byte. -/
def rolePartOf (role : Role) (bs : List Byte) : Option RolePart :=
  match role with
  | .blade => (bladePartOf bs).map RolePart.blade
  | .fan => (fanPartOf bs).map RolePart.fan
  | .supply => (supplyPartOf bs).map RolePart.supply
  | .uplink => (uplinkPartOf bs).map RolePart.uplink

/-- The announced lane holding: none on a code fault, `some none` where absent. -/
def holdingOf (bs : List Byte) : Option (Option (Addr × List Nat)) :=
  match uplinkOfCode (byteAt bs 16) with
  | none => none
  | some none => some none
  | some (some u) =>
    let lanes := lanesOfByte (bs.getD 17 0)
    if 4 < lanes.length then none else if lanes.isEmpty then some none else some (some (u, lanes))

/-- The announced pending lane claim; none on a code fault. -/
def laneClaimOf (bs : List Byte) : Option (Option (Addr × Nat)) :=
  match uplinkOfCode (byteAt bs 18) with
  | none => none
  | some none => some none
  | some (some u) => some (some (u, clampNat 1 4 (byteAt bs 19)))

/-- The lane fields of a BLADE; a claim beside a holding is read as absent. Other roles have none. -/
def laneFieldsOf (role : Role) (bs : List Byte) : Option (Option (Addr × List Nat) × Option (Addr × Nat)) :=
  match role with
  | .blade =>
    match holdingOf bs, laneClaimOf bs with
    | some h, some q => some (h, if h.isSome then none else q)
    | _, _ => none
  | .fan | .supply | .uplink => some (none, none)

/-- The priority by role (R32). -/
def priorityOf (role : Role) (byte : Nat) : Nat :=
  match role with
  | .blade => clampNat 1 3 byte
  | .fan | .supply | .uplink => 0

/-- The common part and the role part put together (R32). -/
def announceBody (role : Role) (station : PeerState) (nPlusOne : Bool) (part : RolePart)
    (lanes : Option (Addr × List Nat) × Option (Addr × Nat)) (bs : List Byte) : AnnounceBody :=
  let held := min Config.levelMax (halfAt bs 6)
  let claim := min Config.levelMax (halfAt bs 8)
  let supply := role == .supply
  { station := station, policy := { nPlusOne := nPlusOne, cap := halfAt bs 3 },
    priority := priorityOf role (byteAt bs 5), held := if supply then 0 else held,
    claim := if !supply && decide (held < claim) then some claim else none,
    part := part, holding := lanes.1, laneClaim := lanes.2,
    supplyExcess := supply && (decide (0 < held) || decide (held < claim)) }

/-- The fields of a payload; none on a code fault (R32). -/
def decodeAnnounce (bs : List Byte) : Option AnnounceBody :=
  match Role.ofCode (byteAt bs 0), PeerState.ofCode (byteAt bs 1), redundancyOfCode (byteAt bs 2) with
  | some role, some station, some n =>
    match rolePartOf role bs, laneFieldsOf role bs with
    | some part, some lanes => some (announceBody role station n part lanes bs)
    | _, _ => none
  | _, _, _ => none

/-! ## Effects on the entry (R33 to R35) -/

/-- The role that a part stands for. -/
def RolePart.role : RolePart → Option Role
  | .unknown => none
  | .blade _ => some .blade
  | .fan _ => some .fan
  | .supply _ => some .supply
  | .uplink _ => some .uplink

/-- The announced part over the held one: lane holding, lane claim and lane table stay (R33). The offer is set
separately, since a change of it frees lanes. -/
def RolePart.overwrite (old new : RolePart) : RolePart :=
  match old, new with
  | .blade p, .blade q => .blade { q with laneClaim := p.laneClaim }
  | .uplink p, .uplink q => .uplink { p with crossbar := q.crossbar }
  | _, .uplink q => .uplink (freshUplink q.crossbar)
  | _, n => n

/-- The announced offer, where the part is an UPLINK's. -/
def RolePart.offer : RolePart → Option Nat
  | .uplink q => some q.offer
  | .unknown | .blade _ | .fan _ | .supply _ => none

/-- Whether corrections are raised for a sender: its entry was not VACANT before the frame, it has not changed its role,
and the station is not in LISTEN (R34, R35, R44). -/
def State.corrects (s : State) (pre : Entry) (role : Option Role) : Bool :=
  s.station != .listen && !pre.isVacant && (pre.role.isNone || pre.role == role)

def State.correction (s : State) (b : Bool) (a : Addr) (f : CorrectionField) : State :=
  s.raiseIf b (.censusCorrection a f)

/-- R33, a change of a known role: the entry is freed, its part and identity removed. -/
def State.announceRole (s : State) (a : Addr) (body : AnnounceBody) : State :=
  let e := s.entry a
  if e.role.isSome && e.role != body.part.role then
    (s.updCen (fun c => (c.free a).upd a (fun e => { e with part := .unknown, identity := none }))).correction
      (s.station != .listen) a .role
  else s

/-- R33, the overwritten fields. A change of priority reorders the lane list that holds the entry's claim (R169). -/
def Census.announceFields (c : Census) (a : Addr) (body : AnnounceBody) : Census :=
  let e := c.get a
  let c := match e.laneClaim with
    | some (u, _) => c.markIf (e.priority != body.priority) u
    | none => c
  let c := c.upd a (fun e =>
    { e with station := some body.station, policy := some body.policy, priority := body.priority,
             part := e.part.overwrite body.part })
  match body.part.offer with
  | some k => c.setOffer a k
  | none => c

/-- R34. -/
def Census.announceLevels (c : Census) (a : Addr) (body : AnnounceBody) : Census :=
  (c.setHeld a body.held).upd a (fun e => { e with claim := body.claim })

/-- Whether an announced holding is honoured (R35). -/
def Census.honours (c : Census) (held : Nat) (u : Addr) (lanes : List Nat) : Bool :=
  decide (0 < held) && (c.get u).uplink.isSome && lanes.all (fun k => decide (k < (c.get u).offer))

/-- Station a's lanes on u outside a set are freed (R35 step 2). -/
def Census.freeOutside (c : Census) (a u : Addr) (lanes : List Nat) : Census :=
  let drop := ((c.get u).lanesOf a).filter (fun k => !lanes.contains k)
  if drop.isEmpty then c
  else (c.upd u (fun e => e.updUplink (fun p => { p with table := drop.foldl (fun t k => t.set k none) p.table }))).mark u

/-- The other stations that hold a lane of a set on u, in ascending address (R35 step 3). -/
def Census.holdersOf (c : Census) (a u : Addr) (lanes : List Nat) : List Addr :=
  allAddrs.filter (fun t => t != a && ((c.get u).lanesOf t).any (fun k => lanes.contains k))

/-- R35 steps 1 to 4. -/
def Census.honour (c : Census) (a u : Addr) (lanes : List Nat) : Census :=
  let c := (allAddrs.filter (fun v => v != u)).foldl (fun c v => c.freeOn a v) c
  let c := c.freeOutside a u lanes
  let c := (c.holdersOf a u lanes).foldl (fun c t => c.freeOn t u) c
  c.assign u a lanes

/-- R35, the announced holding. -/
def State.announceHolding (s : State) (a : Addr) (body : AnnounceBody) : State :=
  match body.holding with
  | some (u, lanes) =>
    if s.cen.honours body.held u lanes then
      let losers := s.cen.holdersOf a u lanes
      losers.foldl (fun t v => t.correction (s.station != .listen) v .lanes) (s.updCen (fun c => c.honour a u lanes))
    else s.updCen (fun c => c.freeLanes a)
  | none => s.updCen (fun c => c.freeLanes a)

/-- R35, the announced pending lane claim. One beside a held level of 0 waits, and is not served (R167, log 15). -/
def Census.announceLaneClaim (c : Census) (a : Addr) (body : AnnounceBody) : Census :=
  match body.laneClaim with
  | some (u, n) =>
    if c.available u then
      if (c.get a).laneClaim == some (u, min n (c.get u).offer) then c else c.putLaneClaim a u n
    else c.dropLaneClaim a
  | none => c.dropLaneClaim a

/-- R35, for a BLADE. -/
def State.announceLanes (s : State) (pre : Census) (corrects : Bool) (a : Addr) (body : AnnounceBody) : State :=
  match body.part with
  | .blade _ =>
    let t := s.announceHolding a body
    let t := t.correction (corrects && t.cen.holding a != pre.holding a) a .lanes
    let t := t.updCen (fun c => c.announceLaneClaim a body)
    t.correction (corrects && (t.entry a).laneClaim != (pre.get a).laneClaim) a .laneClaim
  | .unknown | .fan _ | .supply _ | .uplink _ => s

/-- R43: the flag is cleared where the announced policy is new, and POLICY_MISMATCH raised once where it differs from the
configured one. -/
def State.policyCompare (s : State) (pre : Entry) (a : Addr) (body : AnnounceBody) : State :=
  let reported := (s.entry a).mismatch && pre.policy == some body.policy
  let report := s.station != .listen && !reported && body.policy != s.ownPolicy
  (s.updEntry a (fun e => { e with mismatch := reported || report })).raiseIf report (.policyMismatch a)

/-- The cyclic predecessor's distance below the own address (R38). -/
def Census.predecessor (c : Census) (own : Addr) : Option Nat :=
  ((List.range 32).map (fun d => d + 1)).find? (fun d => decide (d < 32) && (c.get (own - addrOf d)).isLive)

/-- R38. -/
def State.resynchronise (s : State) (a : Addr) : State :=
  if s.station == .joined || s.station == .leaving then
    match s.cen.predecessor s.addr with
    | some d =>
      if s.addr - addrOf d == a then s.updCen (fun c => { c with announceTimer := some (d * announceSlotMs) }) else s
    | none => s
  else s

/-- R40, asking. -/
def State.askIdentity (s : State) (a : Addr) : State :=
  let e := s.entry a
  s.requestIf (s.station == .joined && !e.identityComplete && !s.holdsRequest (.query a) && e.quiet.isNone) (.query a)

/-- The effects of an ANNOUNCE from a peer whose fields are sound. -/
def State.applyAnnounce (s : State) (pre : Census) (a : Addr) (body : AnnounceBody) : State :=
  let was := pre.get a
  let corrects := s.corrects was body.part.role
  let t := if body.supplyExcess then s.anomaly else s
  let t := (t.announceRole a body).updCen (fun c => (c.announceFields a body).announceLevels a body)
  let t := t.correction (corrects && was.held != body.held) a .held
  let t := t.correction (corrects && was.claim != body.claim) a .claim
  let t := t.announceLanes pre corrects a body
  ((t.policyCompare was a body).resynchronise a).askIdentity a

/-- An accepted ANNOUNCE. The station's own sets the own-announced flag and overwrites nothing (R24, R37). One whose
contents a code fault discards is accepted all the same (R5): it still resynchronises the rotation (R38) and has its
sender's identity asked for (R40). -/
def State.takeAnnounce (s : State) (pre : Census) (a : Addr) (own : Bool) (bs : List Byte) : State :=
  if own then s.updCen (fun c => { c with ownAnnounced := true })
  else match decodeAnnounce bs with
    | none => (s.anomaly.resynchronise a).askIdentity a
    | some body => s.applyAnnounce pre a body

end Sys2Proof.Machine
end

