-- ==== Sys2Proof/Machine/CenFrames.lean ====
section
/-! DEFINITION. How an accepted frame reaches the census (R26, R27) and what its contents do: ALERT, POWER_CLAIM,
POWER_RELEASE, DEPART, LANE_CLAIM, LANE_RELEASE, HEAT, INVENTORY and QUERY. -/

namespace Sys2Proof.Machine

/-- R26: a frame from a peer, other than DEPART, makes its entry LIVE and restarts its silence timer. A STALE uplink that
becomes LIVE is marked for the lane walk (R169). -/
def State.hear (s : State) (a : Addr) : State :=
  let e := s.entry a
  let quiet := s.station == .listen
  let t := s.updEntry a (fun e => { e with state := .live, staleHold := none, silence := some silenceMs })
  match e.state with
  | .vacant => t.raiseIf (!quiet) (.peerJoined a)
  | .stale => (t.updCen (fun c => c.markIf e.uplink.isSome a)).raiseIf (!quiet) (.peerReturned a)
  | .live => t

/-! ## ALERT (R131, R162, R171). The station's own ALERT changes no field that a block of its own writes (log 13). -/

def State.takeCapacityDrop (s : State) (a : Addr) (own : Bool) (subject : Byte) (value : Half) : State :=
  if subject != 0 || (s.entry a).role != some .supply then s.anomaly
  else if own then s
  else s.updEntry a (fun e => e.updSupply (fun p => { p with capacity := min Config.levelMax value.toNat }))

/-- The zone of a FAN entry. -/
def Entry.fanZone (e : Entry) : Option Nat := e.fan.map (fun p => p.zone)

def State.takeAirflowDrop (s : State) (a : Addr) (own : Bool) (subject : Byte) (value : Half) : State :=
  match zoneOfCode subject, Airflow.ofCode value.toNat with
  | some z, some v =>
    if (s.entry a).fanZone != some z then s.anomaly
    else if own then s
    else s.updEntry a (fun e => e.updFan (fun p => { p with airflow := v }))
  | _, _ => s.anomaly

def State.takeLanesDrop (s : State) (a : Addr) (own : Bool) (subject : Byte) (value : Half) : State :=
  if subject != 0 || (s.entry a).role != some .uplink then s.anomaly
  else if own then s
  else s.updCen (fun c => c.setOffer a (min Config.lanes value.toNat))

def State.takeAlert (s : State) (a : Addr) (own : Bool) (code subject : Byte) (value : Half) : State :=
  match code.toNat with
  | 1 => s.takeCapacityDrop a own subject value
  | 2 => s.takeAirflowDrop a own subject value
  | 3 => s.takeLanesDrop a own subject value
  | _ => s.anomaly

/-! ## Power (R75, R80) -/

/-- The pending claim that a POWER_CLAIM at this level leaves (R75). -/
def Entry.takeClaim (e : Entry) (level : Nat) : Entry :=
  { e with claim := if e.held < level then some level else none }

def State.takePowerClaim (s : State) (a : Addr) (level : Half) : State :=
  if (s.entry a).role == some .supply then s.anomaly
  else s.updEntry a (fun e => e.takeClaim (min Config.levelMax level.toNat))

/-- A POWER_RELEASE to a level (R80). -/
def Census.release (c : Census) (a : Addr) (level : Nat) : Census :=
  (c.upd a (fun e => { e with claim := none })).setHeld a (min (c.get a).held level)

def State.takePowerRelease (s : State) (a : Addr) (level : Half) : State :=
  s.updCen (fun c => c.release a (min Config.levelMax level.toNat))

/-! ## DEPART (R30) -/

/-- A DEPART whose contents are discarded restarts the silence timer of a LIVE peer and no other (R5, log 14). -/
def Entry.restartSilence (e : Entry) : Entry :=
  match e.state with
  | .live => { e with silence := some silenceMs }
  | .vacant | .stale => e

def State.takeDepart (s : State) (a : Addr) (own : Bool) (reason : Byte) : State :=
  match DepartReason.ofCode reason.toNat with
  | none => if own then s.anomaly else (s.updEntry a Entry.restartSilence).anomaly
  | some r =>
    if own then s.updCen (fun c => c.free a)
    else if (s.entry a).isVacant then s
    else (s.updCen (fun c => c.vacate a)).raiseIf (s.station != .listen) (.peerDeparted a r)

/-! ## Lanes (R168, R170) -/

/-- Whether a LANE_CLAIM on u is taken rather than ignored (R168). -/
def Census.laneClaimable (c : Census) (a u : Addr) : Bool := decide (0 < (c.get a).held) && c.available u

/-- An accepted LANE_CLAIM (R168). LANES_UNAVAILABLE is raised where the own claim is ignored, at a held level of 0 too, in
every state but LISTEN (R175). -/
def State.takeLaneClaim (s : State) (a : Addr) (own : Bool) (uplink count : Byte) : State :=
  match addrOfCode uplink with
  | none => s.anomaly
  | some u =>
    if (s.entry a).role != some .blade then s.anomaly
    else if s.cen.laneClaimable a u then s.updCen (fun c => c.takeLaneClaim a u (clampNat 1 4 count.toNat))
    else s.raiseIf (own && s.station != .listen) (.lanesUnavailable (some u))

def State.takeLaneRelease (s : State) (a : Addr) (uplink : Byte) : State :=
  match addrOfCode uplink with
  | none => s.anomaly
  | some u => s.updCen (fun c => c.takeLaneRelease a u)

/-! ## HEAT (R36) -/

/-- The own HEAT changes no field: its demand was taken from the self entry (log 13). -/
def State.takeHeat (s : State) (a : Addr) (own : Bool) (zone demand : Byte) : State :=
  match zoneOfCode zone with
  | none => s.anomaly
  | some z =>
    match (s.entry a).part with
    | .unknown => s
    | .blade _ =>
      if own then s
      else s.updEntry a (fun e => e.updBlade (fun p => { p with zone := z, demand := demand.toNat }))
    | .fan _ | .supply _ | .uplink _ => s.anomaly

/-! ## INVENTORY and QUERY (R39, R40) -/

/-- A query for t held in the QUERY slot is removed (R40). -/
def State.dropQuery (s : State) (t : Addr) : State :=
  match s.slot .query with
  | none => s
  | some f =>
    if s.pbc.sending .query then
      if f.followOn == some (.query t) then s.setSlot .query (some { f with followOn := none }) else s
    else if f.contents == .query t then s.setSlot .query none else s

/-- Segment 0 of a peer's identity: kind code, revision and part name; any serial goes (R39). -/
def Entry.takeSegment0 (e : Entry) (rest : List Byte) : Entry :=
  { e with identity := some { moduleKind := byteAt rest 0, revision := byteAt rest 1, partName := nameOf (rest.drop 2),
                              serial := none } }

/-- Segment 1: the serial, ignored while the identity is absent (R39). -/
def Entry.takeSegment1 (e : Entry) (rest : List Byte) : Entry :=
  { e with identity := e.identity.map (fun i => { i with serial := some (nameOf rest) }) }

/-- The contents of an INVENTORY segment (R39). The own INVENTORY changes nothing. -/
def State.takeSegment (s : State) (a : Addr) (own : Bool) (segment : Byte) (rest : List Byte) : State :=
  match segment.toNat with
  | 0 => if own then s else s.updEntry a (fun e => e.takeSegment0 rest)
  | 1 => if own then s else s.updEntry a (fun e => e.takeSegment1 rest)
  | _ => s.anomaly

def State.takeInventory (s : State) (a : Addr) (own : Bool) (segment : Byte) (rest : List Byte) : State :=
  (s.takeSegment a own segment rest).dropQuery a

def State.takeQuery (s : State) (target : Byte) : State :=
  match addrOfCode target with
  | none => s.anomaly
  | some t =>
    ((s.updEntry t (fun e => { e with quiet := some queryQuietMs })).dropQuery t).requestIf (t == s.addr) (.inventory 0)

/-! ## A whole frame -/

/-- The contents by kind (R27). `own` says that this station's PBC sent the frame. -/
def State.takeContents (s : State) (pre : Census) (a : Addr) (own : Bool) : Payload → State
  | .alert code subject value => s.takeAlert a own code subject value
  | .powerClaim level => s.takePowerClaim a level
  | .powerRelease level => s.takePowerRelease a level
  | .depart reason => s.takeDepart a own reason
  | .laneClaim uplink count => s.takeLaneClaim a own uplink count
  | .laneRelease uplink => s.takeLaneRelease a uplink
  | .heat zone demand => s.takeHeat a own zone demand
  | .announce bytes => s.takeAnnounce pre a own bytes
  | .inventory segment rest => s.takeInventory a own segment rest
  | .query target => s.takeQuery target

/-- What the follow-up of a frame must know. -/
def followOf (own : Bool) (p : Payload) : Follow :=
  { announce := p.kind == .announce,
    ownLane := own && (p.kind == .laneClaim || p.kind == .laneRelease || p.kind == .depart),
    parking := false }

/-- The own effects of an accepted frame (R26, R27). A frame that bears the own address and was not sent here is discarded
with one anomaly (R26). -/
def State.hearFrame (s : State) (a : Addr) (own : Bool) (p : Payload) : State :=
  if own then s.takeContents s.cen a true p
  else if a == s.addr then s.anomaly
  else
    let t := if p.kind == .depart then s else s.hear a
    t.takeContents s.cen a false p

/-- An accepted frame: its own effects and its follow-up (R25). -/
def State.applyFrame (s : State) (a : Addr) (own : Bool) (p : Payload) : State :=
  (s.hearFrame a own p).followUp s.cen (followOf own p)

/-! ## The timers of the census (R28, R29, R37, R40) -/

/-- An entry that falls silent; a BLADE or SUPPLY starts its stale hold (R28). -/
def Entry.fallSilent (e : Entry) : Entry :=
  { e with state := .stale, silence := none,
           staleHold := if e.blade.isSome || e.supply.isSome then some staleHoldMs else none }

/-- The silence timer of a LIVE entry expires (R28). -/
def State.silenceExpires (s : State) (a : Addr) : State :=
  ((s.updEntry a Entry.fallSilent).raiseIf (s.station != .listen) (.peerStale a)).followUp s.cen .plain

/-- The stale hold of a STALE entry expires (R29). -/
def State.staleHoldExpires (s : State) (a : Addr) : State :=
  ((s.updCen (fun c => c.vacate a)).raiseIf (s.station != .listen) (.peerExpired a)).followUp s.cen .plain

/-- The quiet timer of a query target expires (R40). -/
def State.quietExpires (s : State) (a : Addr) : State :=
  (s.updEntry a (fun e => { e with quiet := none })).followUp s.cen .plain

/-- The announce timer expires (R37). -/
def State.announceExpires (s : State) : State :=
  ((s.updCen (fun c => { c with announceTimer := some announceRoundMs })).request .announce).followUp s.cen .plain

/-- The census timers stop (R44). -/
def Census.stopTimers (c : Census) : Census :=
  { c.updAll (fun e => { e with silence := none, staleHold := none, quiet := none }) with announceTimer := none }

end Sys2Proof.Machine
end

