-- ==== Sys2Proof/Machine/Measure.lean ====
section
/-! DEFINITION. The Measurement Unit: conversion (R117), the filter (R118 to R122), the thresholds (R123, R124), and the
sweeps (R114 to R116). A channel's configuration is read from the running configuration (R112, R125). -/

namespace Sys2Proof.Machine

/-! ## Configuration fields of a channel (R112) -/

def BootImage.channelKind (b : BootImage) (ch : Nat) : Nat := b.nat 22 ch
def BootImage.gain (b : BootImage) (ch : Nat) : Nat := b.nat 23 ch
def BootImage.offset (b : BootImage) (ch : Nat) : Int := b.get 24 ch
def BootImage.noiseBand (b : BootImage) (ch : Nat) : Int := b.get 25 ch
def BootImage.updateThreshold (b : BootImage) (ch : Nat) : Int := b.get 26 ch
def BootImage.jumpLimit (b : BootImage) (ch : Nat) : Int := b.get 27 ch
def BootImage.debounce (b : BootImage) (ch : Nat) : Nat := b.nat 28 ch
def BootImage.warnThreshold (b : BootImage) (ch : Nat) : Int := b.get 29 ch
def BootImage.criticalThreshold (b : BootImage) (ch : Nat) : Int := b.get 30 ch
def BootImage.hysteresis (b : BootImage) (ch : Nat) : Int := b.get 31 ch
def BootImage.demandLimit (b : BootImage) (ch : Nat) : Int := b.get 33 ch
def BootImage.demandSpan (b : BootImage) (ch : Nat) : Nat := b.nat 34 ch

/-! ## Conversion (R117) -/

/-- The converted value of a valid code: floor(r × gain / 4096) + offset, clamped by kind. -/
def convert (b : BootImage) (ch raw : Nat) : Int :=
  let v : Int := ((raw * b.gain ch / 4096 : Nat) : Int) + b.offset ch
  if b.channelKind ch == 0 then clampInt (-32768) 32767 v else clampInt 0 32767 v

/-- Codes 0 and 4095 give an invalid sample (R112). -/
def validCode (raw : Nat) : Bool := raw != 0 && raw != 4095

/-- The sample of a code: none where it is invalid. -/
def sampleOf (b : BootImage) (ch raw : Nat) : Option Int := if validCode raw then some (convert b ch raw) else none

/-! ## The filter -/

/-- The channel becomes FAULTED (R121). -/
def ChannelRec.fault (c : ChannelRec) : ChannelRec :=
  { c with status := .faulted, spikes := 4, recovery := 0, reference := none }

/-- A rejected sample, or an invalid one (R118, R121). -/
def ChannelRec.reject (c : ChannelRec) : ChannelRec :=
  if c.spikes + 1 < 4 then { c with spikes := c.spikes + 1 } else c.fault

/-- f takes a value, with the working counts as after a first sample (R118). -/
def ChannelRec.settleAt (c : ChannelRec) (s : Int) : ChannelRec :=
  { c with status := .normal, filtered := some s, bucket := 0, run := 0, runSign := .none, spikes := 0 }

/-- A sample in band 1 (R119). -/
def ChannelRec.noise (c : ChannelRec) (f d u : Int) : ChannelRec :=
  let b := c.bucket + d
  let c := { c with run := 0, runSign := .none, spikes := 0 }
  if u ≤ b then { c with filtered := some (f + 1), bucket := 0 }
  else if b ≤ -u then { c with filtered := some (f - 1), bucket := 0 }
  else { c with bucket := b }

/-- A sample in band 2 (R120). -/
def ChannelRec.change (c : ChannelRec) (s d : Int) (need : Nat) : ChannelRec :=
  let sign : RunSign := if 0 < d then .up else .down
  let r := if c.runSign == sign then c.run + 1 else 1
  if need ≤ r then { c with filtered := some s, bucket := 0, run := 0, runSign := .none, spikes := 0 }
  else { c with run := r, runSign := sign, spikes := 0 }

/-- A sample of a NORMAL channel, sorted into its band (section 6.4). -/
def ChannelRec.normalSample (c : ChannelRec) (b : BootImage) (ch : Nat) (f s : Int) : ChannelRec :=
  let d := s - f
  if d.natAbs ≤ (b.noiseBand ch).toNat then c.noise f d (b.updateThreshold ch)
  else if d.natAbs ≤ (b.jumpLimit ch).toNat then c.change s d (b.debounce ch)
  else c.reject

/-- One more steady sample of a FAULTED channel (R122). -/
def ChannelRec.recoverySample (c : ChannelRec) (n : Nat) (s : Int) : ChannelRec :=
  let q := match c.reference with
    | none => 1
    | some r => if (s - r).natAbs ≤ n then c.recovery + 1 else 1
  if 4 ≤ q then { c.settleAt s with recovery := 0, reference := none }
  else { c with recovery := q, reference := some s }

/-- The filter takes a sample, or an invalid one (R118 to R122). -/
def ChannelRec.filter (c : ChannelRec) (b : BootImage) (ch : Nat) (sample : Option Int) : ChannelRec :=
  match c.status, sample with
  | .unset, some s => c.settleAt s
  | .unset, none => c.reject
  | .normal, some s =>
    match c.filtered with
    | some f => c.normalSample b ch f s
    | none => c.settleAt s
  | .normal, none => c.reject
  | .faulted, some s => c.recoverySample (b.noiseBand ch).toNat s
  | .faulted, none => { c with recovery := 0, reference := none }

/-! ## Thresholds (R123, R124) -/

/-- A flag against its threshold and the hysteresis. -/
def flagAfter (flag : Bool) (threshold hysteresis f : Int) : Bool :=
  if flag then !(decide (f ≤ threshold - hysteresis) && decide (f < threshold)) else decide (threshold ≤ f)

/-- The threshold level: the highest flag that is set (R123). -/
def ChannelRec.level (c : ChannelRec) : ThresholdLevel := if c.critical then .critical else if c.warn then .warn else .clear

/-- The evaluation of a NORMAL channel. -/
def ChannelRec.evaluate (c : ChannelRec) (b : BootImage) (ch : Nat) : ChannelRec :=
  match c.status, c.filtered with
  | .normal, some f =>
    { c with warn := flagAfter c.warn (b.warnThreshold ch) (b.hysteresis ch) f,
             critical := flagAfter c.critical (b.criticalThreshold ch) (b.hysteresis ch) f }
  | _, _ => c

/-- The raw and value fields of a completion (R117). -/
def ChannelRec.record (c : ChannelRec) (raw : Nat) (sample : Option Int) : ChannelRec :=
  match sample with
  | some s => { c with raw := raw, value := s }
  | none => { c with raw := raw }

/-- A conversion completion of channel ch: raw and value, filter, thresholds (R124). -/
def ChannelRec.complete (c : ChannelRec) (b : BootImage) (ch raw : Nat) : ChannelRec :=
  (((c.record raw (sampleOf b ch raw)).filter b ch (sampleOf b ch raw))).evaluate b ch

/-- The events of a completion, in the order of R124. -/
def completionEvents (ch : Nat) (before after : ChannelRec) : List Event :=
  (if before.status != .faulted && after.status == .faulted then [.channelFault ch] else []) ++
  (if before.status == .faulted && after.status == .normal then [.channelRecovered ch] else []) ++
  (if before.level != after.level then [.threshold ch after.level] else [])

def Msu.channel (m : Msu) (ch : Nat) : ChannelRec := m.channels.getD ch .reset

def State.channel (s : State) (ch : Nat) : ChannelRec := s.msu.channel ch

/-- The record of channel ch is settled whole (R114, R124). -/
def State.completeChannel (s : State) (ch raw : Nat) : State :=
  let after := (s.channel ch).complete s.cfg ch raw
  State.raiseAll { s with msu := { s.msu with channels := s.msu.channels.set ch after } }
    (completionEvents ch (s.channel ch) after)

/-! ## Sweeps (R114 to R116) -/

/-- The enabled channels in ascending number. -/
def State.enabledChannels (s : State) : List Nat := (List.range Config.channels).filter (fun ch => s.cfg.enabled ch)

/-- A sweep starts; with no channel enabled it ends at the same event and the interval timer starts (R114, R115). -/
def State.startSweep (s : State) : State :=
  match s.enabledChannels.head? with
  | some ch => { s with msu := { s.msu with sweep := some ch, interval := none } }
  | none => { s with msu := { s.msu with sweep := none, interval := some s.cfg.sweepInterval } }

/-- The enabled channel after ch in the sweep. -/
def State.nextChannel (s : State) (ch : Nat) : Option Nat := s.enabledChannels.find? (fun k => decide (ch < k))

/-- The sweep has ended: a remembered request starts a further sweep, and otherwise the interval timer starts (R115,
R116). -/
def State.endSweep (s : State) : State :=
  if s.msu.request then State.startSweep { s with msu := { s.msu with request := false } }
  else { s with msu := { s.msu with sweep := none, interval := some s.cfg.sweepInterval } }

/-- SWEEP_NOW (R116). -/
def State.requestSweep (s : State) : State :=
  match s.msu.sweep with
  | some _ => { s with msu := { s.msu with request := true } }
  | none => s.startSweep

/-- WARN_ANY, CRIT_ANY and the channel fault condition read the enabled channels (R124). -/
def State.anyChannel (s : State) (p : ChannelRec → Bool) : Bool := s.enabledChannels.any (fun ch => p (s.channel ch))

end Sys2Proof.Machine
end

