-- ==== Sys2Proof/Machine/Rails.lean ====
section
/-! DEFINITION. The Rail Sequencer: its states and rails (section 5.3), starting (R101, R102), stopping (R104 to R107),
faults (R108) and forced stops (R110, R111). -/

namespace Sys2Proof.Machine

/-- How many enables are asserted, EN0 first (section 5.3). -/
def RailState.rails : RailState → Nat
  | .off | .stagger | .fault => 0
  | .ramp k => k + 1
  | .on | .stopWait => 3
  | .stopping k => k

/-- Whether EN_k is asserted. -/
def Rsq.enable (r : Rsq) (k : Nat) : Bool := decide (k < r.state.rails)

/-- "RSQ off" of R97: OFF or FAULT. -/
def RailState.isOff : RailState → Bool
  | .off | .fault => true
  | .stagger | .ramp _ | .on | .stopWait | .stopping _ => false

/-- The states from which an entry to OFF raises RAILS_OFF: those in which a rail had been asserted, except FAULT. -/
def RailState.hadRail : RailState → Bool
  | .ramp _ | .on | .stopWait | .stopping _ => true
  | .off | .stagger | .fault => false

/-- Every timer of the sequencer stops. -/
def Rsq.stopTimers (r : Rsq) : Rsq :=
  { r with stagger := none, oneShot := none, pgTimeout := none, grace := none, stepOff := none }

/-- A state is entered with every timer stopped. -/
def Rsq.enter (r : Rsq) (t : RailState) : Rsq := { r.stopTimers with state := t, stopReason := none }

def State.enterRail (s : State) (t : RailState) : State := { s with rsq := s.rsq.enter t }

/-- OFF is entered; RAILS_OFF where a rail had been asserted (R101, R107, R110). -/
def State.railsOff (s : State) : State := (s.enterRail .off).raiseIf s.rsq.state.hadRail .railsOff

/-! ## Starting (R101, R102) -/

/-- RAMP(k): EN_k is asserted and the step one-shot starts. -/
def State.enterRamp (s : State) (k : Nat) : State :=
  { s with rsq := { s.rsq.enter (.ramp k) with oneShot := some (s.cfg.stepDelay k) } }

/-- The stagger of an address: (address mod 8) × 40 ms. -/
def staggerOf (a : Addr) : Nat := a.toNat % 8 * staggerMs

/-- STAGGER is entered; a stagger of 0 ms passes to RAMP(0) at once. -/
def State.enterStagger (s : State) : State :=
  if staggerOf s.addr == 0 then s.enterRamp 0
  else { s with rsq := { s.rsq.enter .stagger with stagger := some (staggerOf s.addr) } }

/-- The start conditions of R101; OFF is the state they are tested in. -/
def State.mayStart (s : State) : Bool :=
  s.rsq.state == .off && s.station == .joined && decide (0 < s.self.held) && decide (0 < s.client.target) &&
  !s.client.overtemp

def State.startRails (s : State) : State := if s.mayStart then s.enterStagger else s

/-- A step passes on: to the next RAMP, or to ON after step 2 (R102). -/
def State.passOn (s : State) (k : Nat) : State :=
  if k < 2 then s.enterRamp (k + 1) else (s.enterRail .on).raise .railsOn

/-! ## Stopping (R104 to R107) -/

/-- The longest grace of a reason (R105). -/
def State.graceOf (s : State) : StopReason → Nat
  | .overtemp => min s.cfg.graceMs overtempGraceMs
  | .mute => min s.cfg.graceMs muteGraceMs
  | .ejector | .host | .airflow | .shed => s.cfg.graceMs

/-- STOPPING(k): EN_k is deasserted and the step-off delay starts (R107). -/
def State.enterStopping (s : State) (k : Nat) : State :=
  { s with rsq := { s.rsq.enter (.stopping k) with stepOff := some (s.cfg.stepOffDelay k) } }

/-- STOP_WAIT is entered from ON (R105). -/
def State.enterStopWait (s : State) (r : StopReason) : State :=
  State.raise { s with rsq := { s.rsq.enter .stopWait with grace := some (s.graceOf r), stopReason := some r } }
    (.shutdownRequest r)

/-- The stop reason after a further stop: every reason but EJECTOR takes its place (R106). -/
def laterReason (old : Option StopReason) (r : StopReason) : Option StopReason := if r == .ejector then old else some r

/-- A further stop with grace in STOP_WAIT (R106). -/
def State.cutGrace (s : State) (r : StopReason) : State :=
  let t := { s with rsq := { s.rsq with stopReason := laterReason s.rsq.stopReason r } }
  if s.graceOf r < s.rsq.grace.getD 0 then
    State.raise { t with rsq := { t.rsq with grace := some (s.graceOf r) } } (.shutdownRequest r)
  else t

/-- The rails come down from the highest asserted enable: STOPPING(k) (R107). In STAGGER none is asserted, so the STOPPING
into which R60 and R66 send it has no rail to take down and is OFF at once (R104, R110, section 5.3; log 45). -/
def State.takeDown (s : State) : State :=
  match s.rsq.state.rails with
  | 0 => s.railsOff
  | k + 1 => s.enterStopping k

/-- A stop with grace acts on the sequencer according to its state (R104). -/
def State.stopRails (s : State) (r : StopReason) : State :=
  match s.rsq.state with
  | .off | .fault | .stopping _ => s
  | .stagger | .ramp _ => s.takeDown
  | .on => s.enterStopWait r
  | .stopWait => s.cutGrace r

/-- SET_POWER(OFF), a stop without grace (R104). -/
def State.stopRailsNow (s : State) : State :=
  match s.rsq.state with
  | .off | .fault | .stopping _ => s
  | .stagger | .ramp _ | .on | .stopWait => s.takeDown

/-- A step-off delay has expired (R107). -/
def State.stepDown (s : State) (k : Nat) : State := if k == 0 then s.railsOff else s.enterStopping (k - 1)

/-- An EJECTOR closing cancels a stop whose reason is EJECTOR: ON is entered, with STOP_CANCELLED and RAILS_ON (R106,
R111, section 5.3; their order: log 16). -/
def State.cancelStop (s : State) : State :=
  if s.rsq.state == .stopWait && s.rsq.stopReason == some .ejector then
    (State.raise { s with rsq := { s.rsq.enter .on with clearOnOff := false } } .stopCancelled).raise .railsOn
  else s

/-! ## Faults and forced stops (R101, R108, R110, R111) -/

/-- FAULT is entered: rails deasserted, timers stopped, host target OFF (R108). -/
def State.enterFault (s : State) : State :=
  { s with rsq := { s.rsq.enter .fault with clearOnOff := false }, client := { s.client with hostTarget := .off } }

/-- The held level is 0: FAULT is left for OFF, and a sequencer with rails or in STAGGER enters OFF at once (R101,
R108). -/
def State.heldZeroRails (s : State) : State := if s.self.held == 0 && s.rsq.state != .off then s.railsOff else s

/-- The retained level follows the self entry's held level (R111). -/
def State.followHeld (s : State) : State := { s with rsq := { s.rsq with retained := s.self.held } }

/-- A stop that will empty the held level at OFF (R111). -/
def State.armClear (s : State) : State :=
  if s.rsq.state.isOff then s else { s with rsq := { s.rsq with clearOnOff := true } }

/-- A seating loss forces the rails off from any state (R65, R110). -/
def State.forceRailsOff (s : State) : State :=
  let t := s.railsOff
  { t with rsq := { t.rsq with retained := 0, clearOnOff := false } }

end Sys2Proof.Machine
end

