-- ==== Sys2Proof/Machine/Client.lean ====
section
/-! DEFINITION. The blade: the effective target (R94 to R96), claims and releases (R97, R98), heat demand (R127 to R129),
zone airflow (R130), the overtemperature stop (R109), the lane client (R172 to R175), and their evaluation together. -/

namespace Sys2Proof.Machine

/-! ## Zone airflow (R130) -/

/-- How a FAN entry counts. -/
def Entry.airflowFor (e : Entry) (zone : Nat) : Option Airflow :=
  match e.fan, e.state with
  | none, _ => none
  | some _, .vacant => none
  | some p, .live => if p.zone == zone then some p.airflow else none
  | some p, .stale => if p.zone == zone then some .degraded else none

def Airflow.worst (a b : Airflow) : Airflow := if a.code < b.code then b else a

/-- The worst airflow of the zone's FAN entries, LOST where there is none. -/
def Census.zoneAirflow (c : Census) (zone : Nat) : Airflow :=
  match c.entries.filterMap (fun e => e.airflowFor zone) with
  | [] => .lost
  | a :: rest => rest.foldl Airflow.worst a

/-- The zone airflow is evaluated; AIRFLOW is raised at a change in JOINED, LEAVING and MUTE. -/
def State.evalAirflow (s : State) : State :=
  let v := s.cen.zoneAirflow s.cfg.zone
  if v == s.client.zoneAirflow then s
  else State.raiseIf { s with client := { s.client with zoneAirflow := v } } s.station.acting (.airflow s.cfg.zone v)

/-! ## The effective target (R94, R95) -/

/-- The level that the host target names. -/
def State.hostLevel (s : State) : Nat :=
  match s.client.hostTarget with
  | .off => 0
  | .reduced => s.cfg.reducedLevel
  | .full => s.cfg.fullLevel

/-- The airflow cap. -/
def State.airflowCap (s : State) : Option Nat :=
  match s.client.zoneAirflow with
  | .full => none
  | .degraded => some s.cfg.reducedLevel
  | .lost => some 0

def zeroIf (b : Bool) : List Nat := if b then [0] else []

/-- Every limit but the host target's that takes part (R95). -/
def State.limits (s : State) : List Nat :=
  s.airflowCap.toList ++ s.self.shed.toList ++ zeroIf (s.station == .leaving || s.station == .mute) ++
  zeroIf s.client.overtemp ++ zeroIf (s.rsq.state == .fault)

/-- The effective target T. -/
def State.target (s : State) : Nat := s.limits.foldl min s.hostLevel

def DepartReason.stopReason : DepartReason → StopReason
  | .ejector => .ejector
  | .host => .host
  | .seatedLost => .ejector

/-- The stop reason of the leaving in progress. -/
def State.leavingStop (s : State) : StopReason :=
  match s.life.leaving with
  | some l => l.reason.stopReason
  | none => .host

/-- The first reason that makes T 0 (R95). HOST also stands for a host target of REDUCED whose level is 0 (log 46). -/
def State.reasonForZero (s : State) : StopReason :=
  if s.station == .mute then .mute
  else if s.station == .leaving then s.leavingStop
  else if s.client.overtemp then .overtemp
  else if s.airflowCap == some 0 then .airflow
  else if s.self.shed == some 0 then .shed
  else .host

/-- The capped flag and POWER_CAPPED (R96). -/
def State.evalCapped (s : State) : State :=
  match s.airflowCap with
  | none => { s with client := { s.client with capped := false } }
  | some cap =>
    if cap < s.hostLevel then
      State.raiseIf { s with client := { s.client with capped := true } } (!s.client.capped) (.powerCapped cap)
    else { s with client := { s.client with capped := false } }

/-- T has become 0: the client records the reason and passes a stop (R95, R104). A sequencer in FAULT takes none. -/
def State.stopAtZero (s : State) : State :=
  if s.rsq.state == .fault then s
  else
    let r := s.reasonForZero
    State.stopRails { s with client := { s.client with stopReason := some r } } r

/-- T is recomposed, in JOINED, LEAVING and MUTE (R94, R95). A stop is passed where T falls to 0, or with `force` wherever
T is 0: at the entries and the cancel that pass one themselves (R57, R60, R110). -/
def State.compose (s : State) (force : Bool) : State :=
  if s.station.acting then
    let t := s.evalCapped
    let old := t.client.target
    let t := { t with client := { t.client with target := t.target } }
    if t.client.target == 0 && (force || old != 0) then t.stopAtZero else t
  else s

/-! ## The overtemperature stop (R109) -/

/-- How many demand channels are CRITICAL. -/
def State.criticalDemand (s : State) : Nat :=
  ((List.range Config.channels).filter (fun ch => s.cfg.isDemand ch && (s.channel ch).critical)).length

/-- The stop ends at the first event at which the sequencer is OFF and no demand channel is CRITICAL. -/
def State.endOvertemp (s : State) : State :=
  if s.client.overtemp && s.rsq.state == .off && s.criticalDemand == 0 then
    State.raise { s with client := { s.client with overtemp := false } } .overtempCleared
  else s

/-! ## Heat demand (R127 to R129) -/

/-- The demand of one demand channel (R127). -/
def ChannelRec.demand (c : ChannelRec) (b : BootImage) (ch : Nat) : Nat :=
  match c.status, c.filtered with
  | .unset, _ => 0
  | .faulted, _ => 255
  | .normal, none => 255
  | .normal, some f =>
    let m := b.demandLimit ch - f
    let span := b.demandSpan ch
    if (span : Int) ≤ m then 0 else if m ≤ 0 then 255 else ceilDiv (255 * (span - m.toNat)) span

/-- The blade's heat demand (R128). -/
def State.heatDemand (s : State) : Nat :=
  if s.rsq.state.isOff then 0
  else (((List.range Config.channels).filter (fun ch => s.cfg.isDemand ch)).map
    (fun ch => (s.channel ch).demand s.cfg ch)).foldl max 0

/-- The demand field of the self entry. -/
def State.ownDemand (s : State) : Nat := match s.self.blade with | some p => p.demand | none => 0

/-- The demand is written into the self entry (R128). -/
def State.writeDemand (s : State) : State := s.updSelf (fun e => e.updBlade (fun p => { p with demand := s.heatDemand }))

/-- Whether a demand that differs from the last-sent one is worth a HEAT (R129). -/
def heatWorthy (demand last : Nat) : Bool :=
  demand != last && (decide (last + 16 ≤ demand) || decide (demand + 16 ≤ last) || demand == 255 || demand == 0)

/-- The HEAT test (R129). -/
def State.testHeat (s : State) : State :=
  s.requestIf ((s.station == .joined || s.station == .leaving) && (s.slot .heat).isNone &&
    heatWorthy s.ownDemand s.client.lastSent) .heat

/-! ## The power client (R97, R98) -/

/-- The wanted request, from T, the held level and the pending claim (R97). -/
def wantedPower (target held : Nat) (claim : Option Nat) (railsOff : Bool) : Option FrameReq :=
  if held < target then (if claim == some target then none else some (.powerClaim target))
  else if target == held && decide (0 < target) then (if claim.isSome then some (.powerRelease held) else none)
  else if 0 < target then some (.powerRelease target)
  else if held == 0 then (if claim.isSome then some (.powerRelease 0) else none)
  else if railsOff then some (.powerRelease 0)
  else if claim.isSome then some (.powerRelease held) else none

/-- Whether the clients of a blade may send (R98, R174). -/
def State.clientActive (s : State) : Bool := s.station == .joined && s.cen.ownAnnounced

def State.evalPowerClient (s : State) : State :=
  if s.clientActive then
    s.syncSlots (wantedPower s.client.target s.self.held s.self.claim s.rsq.state.isOff) [.powerClaim, .powerRelease]
  else s

/-! ## The lane client (R172 to R175) -/

/-- The chosen uplink (R172). -/
def State.chosenUplink (s : State) : Option Addr :=
  match s.cfg.primaryUplink.filter (fun u => s.cen.available u) with
  | some u => some u
  | none => s.cfg.secondaryUplink.filter (fun u => s.cen.available u)

/-- The wanted lane request (R173). -/
def wantedLanes (held want : Nat) (holding : Option (Addr × List Nat)) (claim : Option (Addr × Nat))
    (claimLive : Bool) (chosen : Option Addr) : Option FrameReq :=
  if held == 0 then none
  else match holding, claim with
    | some (u, lanes), _ => if lanes.length ≤ want then none else some (.laneRelease u)
    | none, some (u, _) => if want == 0 || !claimLive then some (.laneRelease u) else none
    | none, none => if want == 0 then none else chosen.map (fun u => .laneClaim u want)

/-- Whether the uplink of the own pending lane claim is LIVE. -/
def State.laneClaimLive (s : State) : Bool :=
  match s.self.laneClaim with
  | some (u, _) => (s.entry u).isLive
  | none => false

def State.wantedLaneRequest (s : State) : Option FrameReq :=
  wantedLanes s.self.held s.client.lanesWanted s.ownHolding s.self.laneClaim s.laneClaimLive s.chosenUplink

def State.setReported (s : State) (b : Bool) : State := { s with client := { s.client with unavailableReported := b } }

/-- LANES_UNAVAILABLE(none), raised once for a wait (R175). -/
def State.reportUnavailable (s : State) : State :=
  if decide (0 < s.self.held) && decide (0 < s.client.lanesWanted) && s.ownHolding.isNone && s.self.laneClaim.isNone &&
      s.chosenUplink.isNone && !s.client.unavailableReported
  then (s.setReported true).raise (.lanesUnavailable none)
  else s

/-- The flag returns to no when a LANE_CLAIM is requested and when no lanes are wanted (R175). -/
def State.clearReported (s : State) (wanted : Option FrameReq) : State :=
  let claims := match wanted with
    | some (.laneClaim u n) => !s.holdsRequest (.laneClaim u n)
    | _ => false
  if s.client.lanesWanted == 0 || claims then s.setReported false else s

def State.evalLaneClient (s : State) : State :=
  if s.clientActive then
    let wanted := s.wantedLaneRequest
    ((s.clearReported wanted).syncSlots wanted [.laneClaim, .laneRelease]).reportUnavailable
  else s

/-! ## The evaluation of a blade -/

/-- The local write that sets the held level to 0 is due: the sequencer has reached OFF in MUTE, whatever the self entry
holds (R66, R110), or is OFF after a stop of R111. `before` is the state in which the event found the station. -/
def State.zeroDue (s before : State) : Bool :=
  s.rsq.state == .off && ((s.station == .mute && !before.rsq.state.isOff) || s.rsq.clearOnOff)

/-- The sequencer and the client as a follow-up leaves them: the retained level, a held level of 0, the zone airflow, the
effective target, and the end of an overtemperature stop. -/
def State.bladeLimits (s : State) (force : Bool) : State :=
  ((((s.followHeld.heldZeroRails.evalAirflow).compose force).endOvertemp).compose false)

/-- The local write of R66 and R111, where it is due. -/
def State.bladeZero (s before : State) : State :=
  if s.zeroDue before then
    State.bladeLimits (State.localZero { s with rsq := { s.rsq with clearOnOff := false } }) false
  else s

/-- The clients for which an event is a point of evaluation by itself: the power client (R98), the lane client (R174). -/
structure Points where
  power : Bool
  lanes : Bool
  deriving DecidableEq, Repr

def Points.none : Points := { power := false, lanes := false }

/-- A follow-up, or the setting of the own-announced flag. -/
def Points.both : Points := { power := true, lanes := true }

/-- The start of R101, the two clients, the demand and its HEAT. A change of T or an entry to OFF or FAULT is a point of
the power client too (R98). A departure from OFF or FAULT takes the demand from the records as they stand (R128, log 51). -/
def State.bladeRequests (s : State) (points : Points) (before : State) : State :=
  let due := points.power || s.client.target != before.client.target ||
    (s.rsq.state.isOff && !before.rsq.state.isOff)
  let t := if due then s.startRails.evalPowerClient else s
  let t := if points.lanes then t.evalLaneClient else t
  t.writeDemand.testHeat

/-- The evaluation of a BLADE after an event; `before` is the state in which the event found it. The local write of R66
and R111 has a follow-up of its own. -/
def State.evalBlade (s : State) (force : Bool) (points : Points) (before : State) : State :=
  if s.isBlade && s.station.running then
    let t := s.bladeLimits force
    (t.bladeZero before).bladeRequests (if t.zeroDue before then .both else points) before
  else s

end Sys2Proof.Machine
end

