-- ==== Sys2Proof/Machine/Fans.lean ====
section
/-! DEFINITION. The Fan Drive Unit: channels and driving (R132 to R135), tach gates (R136, R137), the duty (R138 to R141),
PWM (R142, R143), the own airflow (R144, R145), and what the station's life does to it (R146 to R149). -/

namespace Sys2Proof.Machine

/-! ## Channels -/

def Fdu.channel (f : Fdu) (k : Nat) : FanChannel := f.channels.getD k .reset

/-- A change of every channel, by number. -/
def Fdu.mapChannels (f : Fdu) (g : Nat → FanChannel → FanChannel) : Fdu :=
  { f with channels := (List.range Config.fans).map (fun k => g k (f.channel k)) }

/-- A change of one channel. -/
def Fdu.updChannel (f : Fdu) (k : Nat) (g : FanChannel → FanChannel) : Fdu :=
  { f with channels := f.channels.set k (g (f.channel k)) }

def State.updFdu (s : State) (g : Fdu → Fdu) : State := { s with fdu := g s.fdu }

/-- Channel k is configured (section 7.3). -/
def State.configuredFan (s : State) (k : Nat) : Bool := decide (k < s.cfg.fanCount)

/-- SPINUP, RUNNING or FAILED: the states that carry the station duty (R133). -/
def FanState.driven : FanState → Bool
  | .spinup | .running | .failed => true
  | .absent | .idle => false

/-- The compare of a duty: floor(c × (P + 1) / 1000) (R140). -/
def Fdu.compare (f : Fdu) (duty : Nat) : Nat := duty * (f.top + 1) / 1000

/-- A duty with both compares written at once (R141). -/
def FanChannel.drive (c : FanChannel) (duty compare : Nat) : FanChannel :=
  { c with duty := duty, preload := compare, shadow := compare }

/-! ## The fan update (R138 to R140) -/

/-- What a BLADE entry asks of a zone: its demand while LIVE or STALE, 0 otherwise (R138). -/
def Entry.demandFor (e : Entry) (zone : Nat) : Nat :=
  match e.blade with
  | some p => if !e.isVacant && p.zone == zone then p.demand else 0
  | none => 0

/-- The zone demand Dz (R138). -/
def Census.zoneDemand (c : Census) (zone : Nat) : Nat := (c.entries.map (fun e => e.demandFor zone)).foldl max 0

/-- Whether another tray of the zone calls for the boost: LIVE and not FULL, or STALE (R139). -/
def Entry.callsBoost (e : Entry) (zone : Nat) : Bool :=
  match e.fan with
  | none => false
  | some p => p.zone == zone && ((e.isLive && p.airflow != .full) || e.isStale)

/-- The configured channels that are FAILED or ABSENT (R139, R144). -/
def State.fansDown (s : State) : Nat :=
  ((List.range s.cfg.fanCount).filter (fun k =>
    (s.fdu.channel k).state == .failed || (s.fdu.channel k).state == .absent)).length

/-- The boost (R139). -/
def State.boost (s : State) : Bool :=
  decide (0 < s.fansDown) || allAddrs.any (fun a => a != s.addr && (s.entry a).callsBoost s.cfg.zone)

/-- The base duty before the boost (R138). -/
def baseDuty (least demand : Nat) : Nat := least + (1000 - least) * demand / 255

/-- The base duty b (R138, R139). -/
def State.baseWanted (s : State) : Nat :=
  let b := baseDuty s.cfg.minDuty (s.cen.zoneDemand s.cfg.zone)
  if s.boost then min 1000 (b + 250) else b

/-- One slew step of c toward b (R140). -/
def slew (c b : Nat) : Nat := if c < b then min b (c + 100) else max b (c - 25)

/-- The duty and preload that an update gives a channel (R140). -/
def FanChannel.update (c : FanChannel) (duty compare : Nat) : FanChannel :=
  if c.state.driven then { c with duty := duty, preload := compare } else c

/-- The saturation count after an update (R140). -/
def saturationAfter (count duty : Nat) : Nat := if duty == 1000 then min 8 (count + 1) else 0

/-- A fan update; at the start update c takes b at once (R138 to R140). -/
def State.fanUpdate (s : State) (start : Bool) : State :=
  let b := s.baseWanted
  let c := if start then b else slew s.fdu.duty b
  s.updFdu (fun f =>
    { f.mapChannels (fun _ ch => ch.update c (f.compare c)) with
      zoneDemand := s.cen.zoneDemand s.cfg.zone, base := b, boost := s.boost, duty := c,
      saturation := saturationAfter f.saturation c })

/-! ## Driving begins and ends (R133, R135, R146, R148, R149) -/

/-- The condition of R133 that holds. A retained drive lasts while the station is in START, PARKED, LISTEN or JOINED and
is not yet admitted. -/
def State.driveMode (s : State) : DriveMode :=
  match s.station with
  | .joined => if 0 < s.self.held then .drive else if s.fdu.mode == .retained then .retained else .none
  | .mute => if s.seated then .mute else .none
  | .start | .parked | .listen => if s.fdu.mode == .retained then .retained else .none
  | .setup | .leaving => .none

/-- A present, undriven channel as driving begins (R135). -/
def FanChannel.begin (c : FanChannel) : FanChannel :=
  match c.state with
  | .idle =>
    if c.failureMark then { c with state := .failed, dutyChanged := true }
    else { c with state := .spinup, spinup := 5, lowGates := 0, dutyChanged := true }
  | .absent | .spinup | .running | .failed => c

/-- A channel as driving ends; the failure mark is kept (R135, R141). -/
def FanChannel.stop (c : FanChannel) : FanChannel :=
  { c.drive 0 0 with state := if c.state.driven then .idle else c.state, ranWholeGate := false,
                     dutyChanged := c.dutyChanged || c.duty != 0 }

/-- The PWM takes the period top, fan count and polarities of the boot image, and the counter restarts from 0 (R149). -/
def State.pwmFromConfig (s : State) : State :=
  s.updFdu (fun f => { f with top := s.cfg.pwmTop, count := s.cfg.fanCount, activeLow := s.cfg.activeLow, counter := some 0 })

/-- The end of a retained drive, where one was in force. -/
def State.endRetained (s : State) : State := if s.fdu.mode == .retained then s.pwmFromConfig else s

/-- A shadow that takes its preload at once; a channel without drive has duty 0 (R149). -/
def FanChannel.loadNow (c : FanChannel) : FanChannel :=
  if c.state.driven then { c with shadow := c.preload } else c.drive 0 0

/-- The drive condition becomes true: the start update (R140, R149). -/
def State.beginDrive (s : State) : State :=
  let retained := s.fdu.mode == .retained
  let t := State.fanUpdate (s.endRetained.updFdu (fun f =>
    { f.mapChannels (fun _ c => c.begin) with mode := .drive, saturation := 0 })) true
  if retained then t.updFdu (fun f => f.mapChannels (fun _ c => c.loadNow)) else t

/-- A present channel in MUTE: duty 1000 at once (R141, R148). -/
def FanChannel.beginMute (c : FanChannel) (compare : Nat) : FanChannel :=
  if c.state == .absent then c.drive 0 0
  else { c.begin.drive 1000 compare with dutyChanged := c.begin.dutyChanged || c.duty != 1000 }

/-- MUTE with SEATED true: every present configured channel is driven at 1000 (R148). -/
def State.beginMute (s : State) : State :=
  s.endRetained.updFdu (fun f =>
    { f.mapChannels (fun _ c => c.beginMute (f.top + 1)) with mode := .mute, duty := 1000, saturation := 0 })

/-- The FDU stops driving (R135, R146); at entry to SETUP too, where a retained drive ends and the PWM outputs become
inactive (R51, R149). -/
def State.endDrive (s : State) : State :=
  s.endRetained.updFdu (fun f =>
    { f.mapChannels (fun _ c => c.stop) with mode := .none, duty := 0, saturation := 0 })

/-! ## The own airflow (R144, R145) -/

/-- The own airflow for the state standing (R144). -/
def State.airflowNow (s : State) : Airflow :=
  if s.fdu.mode == .none || decide (2 ≤ s.fansDown) then .lost
  else if s.fansDown == 1 || s.fdu.saturation == 8 then .degraded
  else .full

/-- The airflow and the station duty are written into the self entry (R144). -/
def State.writeFan (s : State) (v : Airflow) : State :=
  State.updSelf { s with fdu := { s.fdu with airflow := v } }
    (fun e => e.updFan (fun p => { p with airflow := v, duty := s.fdu.duty }))

/-- The airflow is evaluated; a worse state requests ALERT AIRFLOW_DROP, and a change is raised in JOINED, LEAVING and
MUTE (R145). -/
def State.evalOwnAirflow (s : State) : State :=
  let v := s.airflowNow
  let t := s.writeFan v
  if v == s.fdu.airflow then t
  else (t.requestIf (decide (s.fdu.airflow.code < v.code)) (.airflowDrop s.cfg.zone v)).raiseIf s.station.acting
    (.airflow s.cfg.zone v)

/-- The FDU takes the condition of R133 that holds, and the airflow follows. -/
def State.settleDrive (s : State) : State :=
  if s.isFan then
    let m := s.driveMode
    if m == s.fdu.mode then s
    else match m with
      | .drive => s.beginDrive.evalOwnAirflow
      | .mute => s.beginMute.evalOwnAirflow
      | .none => s.endDrive.evalOwnAirflow
      | .retained => s
  else s

/-! ## Presence (R134) -/

/-- The state of a present, undriven channel that the FDU takes into its drive. -/
def FanChannel.spinUp (c : FanChannel) (duty : Nat) : FanChannel :=
  { c with state := .spinup, duty := duty, spinup := 5, lowGates := 0, dutyChanged := true }

/-- A fan is inserted. -/
def State.insertFan (s : State) (k : Nat) : State :=
  match s.fdu.mode with
  | .drive => s.updFdu (fun f => f.updChannel k (fun c => { c.spinUp f.duty with preload := f.compare f.duty }))
  | .mute => s.updFdu (fun f => f.updChannel k (fun c => (c.spinUp f.duty).drive f.duty (f.top + 1)))
  | .none | .retained => s.updFdu (fun f => f.updChannel k (fun c => { c with state := .idle }))

/-- A fan is removed: ABSENT, with its mark and counts cleared and both compares 0. -/
def FanChannel.remove (c : FanChannel) : FanChannel :=
  { c.drive 0 0 with state := .absent, failureMark := false, spinup := 0, lowGates := 0, ranWholeGate := false }

/-- The presence of a configured channel becomes known or changes; `edge` says that it changed (R134, R182). -/
def State.presence (s : State) (k : Nat) (present edge : Bool) : State :=
  let absent := (s.fdu.channel k).state == .absent
  if present && absent then ((s.insertFan k).raiseIf edge (.fanInserted k)).evalOwnAirflow
  else if !present && !absent then
    ((s.updFdu (fun f => f.updChannel k FanChannel.remove)).raiseIf edge (.fanRemoved k)).evalOwnAirflow
  else s

/-! ## Tach gates (R136, R137) -/

/-- The speed of a count: floor(count × 125 / ppr). -/
def rpmOf (count pulses : Nat) : Nat := count * 125 / pulses

/-- Whether a gate is low (R137). -/
def lowGate (maxRpm duty rpm : Nat) : Bool := decide (rpm < maxRpm * duty / 1000 * 60 / 100)

/-- Step 1 of a gate end. -/
def FanChannel.speed (c : FanChannel) (pulses : Nat) : FanChannel := { c with rpm := rpmOf c.tach pulses, tach := 0 }

/-- Step 2 of a gate end. -/
def FanChannel.countSpinup (c : FanChannel) : FanChannel :=
  if c.state == .spinup then
    if c.spinup ≤ 1 then { c with spinup := 0, state := .running } else { c with spinup := c.spinup - 1 }
  else c

/-- Whether a channel is judged at this gate end. -/
def FanChannel.judged (c : FanChannel) : Bool := c.state == .running && c.ranWholeGate && !c.dutyChanged

/-- Step 3 of a gate end. -/
def FanChannel.judge (c : FanChannel) (maxRpm : Nat) : FanChannel :=
  if c.judged then
    if lowGate maxRpm c.duty c.rpm then
      if 3 ≤ c.lowGates + 1 then { c with state := .failed, failureMark := true, lowGates := 0 }
      else { c with lowGates := c.lowGates + 1 }
    else { c with lowGates := 0 }
  else c

/-- Steps 1 to 3 for a configured channel. -/
def FanChannel.gate (c : FanChannel) (pulses maxRpm : Nat) : FanChannel :=
  ((c.speed pulses).countSpinup).judge maxRpm

/-- The next gate opens. -/
def FanChannel.openGate (c : FanChannel) : FanChannel :=
  { c with ranWholeGate := c.state == .running, dutyChanged := false }

/-- The channels that failed at this gate end, in ascending number. -/
def failedNow (count : Nat) (before after : Fdu) : List Event :=
  ((List.range count).filter (fun k =>
    (before.channel k).state != .failed && (after.channel k).state == .failed)).map Event.fanFailed

/-- A gate end (R137). -/
def State.gateEnds (s : State) : State :=
  let t := s.updFdu (fun f => f.mapChannels (fun k c =>
    if s.configuredFan k then c.gate s.cfg.pulses s.cfg.maxRpm else c))
  let t := t.raiseAll (failedNow s.cfg.fanCount s.fdu t.fdu)
  let t := if t.fdu.mode == .drive then t.fanUpdate false else t
  t.evalOwnAirflow.updFdu (fun f => { f.mapChannels (fun _ c => c.openGate) with gate := some gateMs })

/-- A rising edge at TACH of a configured channel during a gate (R136). -/
def State.tachEdge (s : State) (k : Nat) : State :=
  if s.fdu.gate.isSome && s.configuredFan k then
    s.updFdu (fun f => f.updChannel k (fun c => { c with tach := satInc Config.counterMax c.tach }))
  else s

/-! ## PWM (R142, R143) -/

/-- A wrap of the period counter: the shadows of the channels in force take their preloads. -/
def Fdu.wrap (f : Fdu) : Fdu :=
  f.mapChannels (fun k c => if k < f.count then { c with shadow := c.preload } else c)

/-- PWM_WRAP: the counter returns to 0 while it runs. -/
def State.pwmWraps (s : State) : State :=
  if s.fdu.counter.isSome then s.updFdu (fun f => { f.wrap with counter := some 0 }) else s

/-- The counter after one millisecond; a wrap lies within it, since a period is at most 65536 counts (log 5). -/
def Fdu.runPwm (f : Fdu) : Fdu :=
  match f.counter with
  | some c => { f.wrap with counter := some ((c + pwmCountsPerMs) % (f.top + 1)) }
  | none => f

/-- The offset of channel k of n (R143). -/
def pwmOffset (k top n : Nat) : Nat := k * (top + 1) / n

/-- Whether channel k's drive output is active (R143). -/
def Fdu.pwmActive (f : Fdu) (k : Nat) : Bool :=
  match f.counter with
  | some c => decide (k < f.count) &&
    decide ((c + pwmOffset k f.top f.count) % (f.top + 1) < (f.channel k).shadow)
  | none => false

/-- The level at the PWM pin, true for high (R143). -/
def Fdu.pwmPin (f : Fdu) (k : Nat) : Bool := f.pwmActive k != f.activeLow.getD k false

/-! ## Passage into PARKED, SETUP and warm restart (R132, R149, R51) -/

/-- The channel state at the passage into PARKED. -/
def FanChannel.atPassage (c : FanChannel) (configured present : Bool) : FanChannel :=
  { c with state := if configured && present then .idle else .absent }

/-- The FDU at the passage into PARKED from START or SETUP. -/
def State.installFans (s : State) : State :=
  if s.isFan then
    let t := if s.fdu.mode == .retained then s else s.pwmFromConfig
    (t.updFdu (fun f =>
      { f.mapChannels (fun k c => c.atPassage (s.configuredFan k) (s.fanPresent k)) with gate := some gateMs })).evalOwnAirflow
  else s

/-- What a warm restart keeps of a channel: its shadow, which the preload repeats (R149). -/
def FanChannel.retain (c : FanChannel) : FanChannel := { FanChannel.reset with preload := c.shadow, shadow := c.shadow }

/-- The FDU after a warm restart that retains the drive (R149). The own airflow is LOST until the passage into PARKED
judges it (log 48). -/
def Fdu.retain (f : Fdu) : Fdu :=
  { Fdu.reset with channels := (List.range Config.fans).map (fun k => (f.channel k).retain), mode := .retained,
                   counter := f.counter, top := f.top, count := f.count, activeLow := f.activeLow }

end Sys2Proof.Machine
end

