-- ==== Sys2Proof/Machine/Supply.lean ====
section
/-! DEFINITION. The Supply Monitor (R150 to R161). -/

namespace Sys2Proof.Machine

def State.updSpm (s : State) (g : Spm → Spm) : State := { s with spm := g s.spm }

/-! ## Conditions of a sweep-end (R152) -/

/-- The filtered value of a channel satisfies a test; an absent one satisfies none. -/
def State.channelTest (s : State) (ch : Nat) (test : Int → Bool) : Bool :=
  match (s.channel ch).filtered with
  | some f => test f
  | none => false

def State.outputInWindow (s : State) : Bool := s.channelTest 0 (fun f => decide (s.cfg.vLo ≤ f) && decide (f ≤ s.cfg.vHi))
def State.outputOutOfWindow (s : State) : Bool := s.channelTest 0 (fun f => decide (f < s.cfg.vLo) || decide (s.cfg.vHi < f))
def State.inputLow (s : State) : Bool := s.channelTest 3 (fun f => decide (f < s.cfg.inMin))
def State.inputGood (s : State) : Bool := s.channelTest 3 (fun f => decide (s.cfg.inMin ≤ f))
def State.temperature (s : State) : ThresholdLevel := (s.channel 2).level

/-- Whether a sweep-end qualifies (R153). -/
def State.qualifies (s : State) : Bool :=
  (s.channel 0).status == .normal && (s.channel 3).status == .normal && s.outputInWindow && s.inputGood

/-! ## State and capacity (R159, R160) -/

/-- The capacity of a supply state (R159). -/
def State.capacityFor (s : State) : SupplyState → Nat
  | .ok => s.cfg.rated
  | .derated => s.cfg.rated * s.cfg.derate / 100
  | .offline | .failed => 0

/-- State and capacity are written into the self entry (R159). -/
def State.writeSupply (s : State) (t : SupplyState) (capacity : Nat) : State :=
  State.updSelf { s with spm := { s.spm with state := t, capacity := capacity } }
    (fun e => e.updSupply (fun p => { p with state := t, capacity := capacity }))

/-- The supply state changes: SUPPLY_STATE, the capacity, and the ALERT of a running SPM where it falls (R159, R160). -/
def State.setSupply (s : State) (t : SupplyState) : State :=
  let u := ((s.writeSupply t (s.capacityFor t)).raiseIf (t != s.spm.state) (.supplyState t))
  u.requestIf (s.spm.activity == .running && decide (s.capacityFor t < s.spm.capacity)) (.capacityDrop (s.capacityFor t))

/-! ## Transitions -/

/-- FAILED is entered (R154). -/
def State.failSupply (s : State) (cause : SupplyCause) : State :=
  State.setSupply
    ((s.updSpm (fun p => { p with outEn := false, recovery := some recoveryMs, qualification := 0 })).raise
      (.supplyFault cause)) .failed

/-- The recovery timer of a FAILED supply restarts (R155, R157). -/
def State.restartRecovery (s : State) (cause : SupplyCause) : State :=
  (s.updSpm (fun p => { p with recovery := some recoveryMs })).raise (.supplyFault cause)

/-- The first failure cause in the order OUTPUT, INPUT, TEMPERATURE (R152, R154). -/
def State.failureCause (s : State) (judgeOutput : Bool) : Option SupplyCause :=
  if judgeOutput && s.outputOutOfWindow then some .output
  else if s.inputLow then some .input
  else if s.temperature == .critical then some .temperature
  else none

/-- A sweep-end in OFFLINE (R153). -/
def State.qualifySupply (s : State) : State :=
  match s.failureCause false with
  | some cause => s.failSupply cause
  | none =>
    if s.qualifies then
      if 3 ≤ s.spm.qualification + 1 then
        State.setSupply (s.updSpm (fun p => { p with qualification := 0 })) (if s.temperature == .warn then .derated else .ok)
      else s.updSpm (fun p => { p with qualification := p.qualification + 1 })
    else s.updSpm (fun p => { p with qualification := 0 })

/-- A sweep-end in OK or DERATED (R154, R156). -/
def State.watchSupply (s : State) : State :=
  match s.failureCause true with
  | some cause => s.failSupply cause
  | none =>
    match s.spm.state, s.temperature with
    | .ok, .warn => s.setSupply .derated
    | .derated, .clear => s.setSupply .ok
    | _, _ => s

/-- A sweep-end in FAILED (R157); with both causes INPUT is reported (log 31). -/
def State.recoverSupply (s : State) : State :=
  if !s.inputGood then s.restartRecovery .input
  else if s.temperature == .critical then s.restartRecovery .temperature
  else s

/-- The output watch of a frozen SPM deasserts OUT_EN (R158). -/
def State.watchOutput (s : State) : State :=
  if s.outputOutOfWindow || s.inputLow || s.temperature == .critical then s.updSpm (fun p => { p with outEn := false })
  else s

/-- The state evaluation of a sweep-end (R152). -/
def State.evalSupply (s : State) : State :=
  match s.spm.activity, s.spm.state with
  | .running, .offline => s.qualifySupply
  | .running, .ok => s.watchSupply
  | .running, .derated => s.watchSupply
  | .running, .failed => s.recoverSupply
  | .frozen, _ => s.watchOutput
  | .inactive, _ => s

/-- The measured output: floor(V × I / 10000), clamped; 0 while either is absent (R161). -/
def State.measuredNow (s : State) : Nat :=
  match (s.channel 0).filtered, (s.channel 1).filtered with
  | some v, some i => min 65535 ((v * i).toNat / 10000)
  | _, _ => 0

/-- The measured output is computed and written into the self entry (R161). -/
def State.measureOutput (s : State) : State :=
  State.updSelf { s with spm := { s.spm with output := s.measuredNow } }
    (fun e => e.updSupply (fun p => { p with output := s.measuredNow }))

/-- The sweep-end notice (R114, R152). -/
def State.sweepNotice (s : State) : State := if s.isSupply then s.measureOutput.evalSupply else s

/-! ## AC_WARN and recovery (R155, R157) -/

/-- A setting of the AC_WARN latch is consumed (R155). -/
def State.acWarning (s : State) : State :=
  match s.spm.activity, s.spm.state with
  | .running, .failed => s.restartRecovery .acWarn
  | .running, _ => s.failSupply .acWarn
  | .frozen, _ => s.updSpm (fun p => { p with outEn := false })
  | .inactive, _ => s

/-- The recovery timer expires: OFFLINE, with OUT_EN asserted (R157). -/
def State.recovered (s : State) : State :=
  State.setSupply (s.updSpm (fun p => { p with recovery := none, qualification := 0, outEn := true })) .offline

/-! ## Station life (R151) -/

/-- Entry to JOINED: running, OUT_EN asserted, OFFLINE qualification from 0. -/
def State.startSupply (s : State) : State :=
  s.updSpm (fun p => { p with activity := .running, qualification := 0, outEn := true })

/-- Entry to LEAVING: OFFLINE and capacity 0 are written, the ALERT is queued, and the SPM becomes frozen (R62). -/
def State.leaveSupply (s : State) : State :=
  let t := (s.writeSupply .offline 0).raiseIf (s.spm.state != .offline) (.supplyState .offline)
  (t.updSpm (fun p => { p with activity := .frozen, recovery := none, qualification := 0 })).request (.capacityDrop 0)

/-- The ALERT of the leaving is settled: OUT_EN deasserted, inactive (R62). -/
def State.darkenSupply (s : State) : State := s.updSpm (fun p => { p with activity := .inactive, outEn := false })

/-- A seating loss, or the passage into PARKED: inactive and OFFLINE, OUT_EN deasserted; SUPPLY_STATE where the state
changes (log 40). -/
def State.parkSupply (s : State) : State :=
  (State.writeSupply
    (s.updSpm (fun p => { p with activity := .inactive, recovery := none, qualification := 0, outEn := false }))
      .offline 0).raiseIf (s.spm.state != .offline) (.supplyState .offline)

end Sys2Proof.Machine
end

