-- ==== Sys2Proof/Machine/Uplink.lean ====
section
/-! DEFINITION. The uplink: the lane map (R176), the Lane Map Port (R177 to R180), the offer (R165), XBAR_EN (R166), and
the essential claim that it shares with the fan station (R79). -/

namespace Sys2Proof.Machine

def State.updLmp (s : State) (g : Lmp → Lmp) : State := { s with lmp := g s.lmp }

/-! ## The lane map (R176) -/

/-- The 6 bits of one lane: enable and owner. -/
def laneBits (owner : Option Addr) : Nat :=
  match owner with
  | some a => 32 + a.toNat
  | none => 0

/-- The map of a lane table: lane k in bits 6k + 5 to 6k. -/
def laneMapOf (table : List (Option Addr)) : LaneMap :=
  BitVec.ofNat 48 (((List.range Config.lanes).map (fun k => laneBits (table.getD k none) * 2 ^ (6 * k))).sum)

/-- The all-idle map. -/
def idleMap : LaneMap := 0

/-- A part of a shift: a MAP_CLK period with its level on MAP_DO, or the LOAD strobe, MAP_CLK held high. -/
inductive ShiftPart where
  | bit (mapDo : Bool)
  | load
  deriving DecidableEq, Repr

/-- The length of a part in µs. -/
def ShiftPart.us : ShiftPart → Nat
  | .bit _ => 10
  | .load => 20

/-- The bits driven on MAP_DO, bit 47 first. -/
def mapDo (m : LaneMap) : List Bool := bitsMsb m

/-- A shift on the wires: 48 bits, then the LOAD strobe. -/
def shiftParts (m : LaneMap) : List ShiftPart := (mapDo m).map ShiftPart.bit ++ [.load]

/-- How long a shift lasts, in µs. -/
def shiftUs (m : LaneMap) : Nat := ((shiftParts m).map ShiftPart.us).sum

/-- The map read in on MAP_DI, whose bits come most significant first. -/
def mapRead (mapDi : List Bool) : LaneMap := BitVec.ofNat 48 (mapDi.foldl (fun v b => 2 * v + b.toNat) 0)

/-! ## Shifts (R178, R179) -/

/-- The LMP shifts in JOINED and LEAVING (R177). -/
def State.mayShift (s : State) : Bool := s.station == .joined || s.station == .leaving

/-- A map is handled by the shift state (R178). -/
def Lmp.give (l : Lmp) (m : LaneMap) : Lmp :=
  match l.inFlight with
  | some _ => { l with waiting := some m }
  | none => if l.committed == some m then l else { l with inFlight := some m }

/-- The map that a table change gives. -/
def State.mapNow (s : State) : LaneMap := if s.lmp.forcedIdle then idleMap else laneMapOf s.self.table

/-- At the end of a follow-up in which the own lane table changed (R178). -/
def State.followTable (s : State) (pre : Census) : State :=
  if s.isUplink && s.mayShift && s.self.table != (pre.get s.addr).table then s.updLmp (fun l => l.give s.mapNow) else s

/-- Whether the check of R179 step 1 finds a difference. -/
def Lmp.differs (l : Lmp) (readback : LaneMap) : Bool :=
  l.trusted && l.crossbar == .ok && l.committed != some readback

/-- R179 step 2. -/
def Lmp.commit (l : Lmp) : Lmp := { l with committed := l.inFlight, trusted := true, inFlight := none }

/-- The crossbar state becomes FAULT, in the LMP and in the self entry (R177). -/
def State.crossbarFails (s : State) : State :=
  ((s.updLmp (fun l => { l with crossbar := .fault })).raise .crossbarFault).updSelf
    (fun e => e.updUplink (fun p => { p with crossbar := .fault }))

/-- R179 step 4. Where a fault has already started a shift, the held map has been overtaken and is discarded (log 21).
Where the fault came at the end of a shift of the all-idle map, the emptied table starts none, and the held map is
shifted as step 4 says, though it is older than the fault (log 53). -/
def Lmp.takeWaiting (l : Lmp) : Lmp :=
  match l.waiting, l.inFlight with
  | none, _ => l
  | some _, some _ => { l with waiting := none }
  | some m, none => { l with waiting := none, inFlight := if l.committed == some m then none else some m }

/-! ## The offer (R165) -/

/-- The offer that stands for the state of the station. In LEAVING it is set once, at entry. -/
def State.offerNow (s : State) : Nat :=
  match s.station with
  | .joined => if decide (0 < s.self.held) && s.lmp.crossbar == .ok then s.cfg.lanesConfigured else 0
  | .mute => if s.lmp.crossbar == .fault then 0 else s.self.offer
  | .leaving => s.self.offer
  | .start | .setup | .parked | .listen => 0

/-- The offer is written into the self entry: a local write with its follow-up, and the lane map after it (R165). -/
def State.writeOffer (s : State) (k : Nat) : State :=
  (s.localWrite (fun c => c.setOffer s.addr k)).followTable s.cen

/-- The offer logic; a fall in JOINED requests ALERT LANES_DROP (R165). -/
def State.evalOffer (s : State) : State :=
  let k := s.offerNow
  if k == s.self.offer then s
  else (s.writeOffer k).requestIf (s.station == .joined && decide (k < s.self.offer)) (.lanesDrop k)

/-! ## XBAR_EN (R166) -/

def State.setXbar (s : State) (b : Bool) : State := s.updLmp (fun l => { l with xbarEn := b })

/-- XBAR_EN follows the held level in JOINED; it is kept in LEAVING and MUTE, and deasserted elsewhere. -/
def State.evalXbar (s : State) : State :=
  match s.station with
  | .joined => s.setXbar (decide (0 < s.self.held))
  | .leaving | .mute => s
  | .start | .setup | .parked | .listen => s.setXbar false

/-- The uplink after an event that took the census from `pre`. -/
def State.evalUplink (s : State) (pre : Census) : State :=
  if s.isUplink && s.station.running then ((s.followTable pre).evalOffer).evalXbar else s

/-! ## Station life (R180) -/

/-- The forced all-idle map of the leaving sequence (R63). -/
def State.forceIdle (s : State) : State := s.updLmp (fun l => { l with forcedIdle := true }.give idleMap)

/-- Whether R63 may proceed: the all-idle map is committed and no shift is in flight. -/
def Lmp.isIdle (l : Lmp) : Bool := l.forcedIdle && l.inFlight.isNone && l.committed == some idleMap

/-- A seating loss: a shift is abandoned and the readback is not trusted; XBAR_EN is deasserted (R65, R180). -/
def Lmp.abandon (l : Lmp) : Lmp :=
  { l with inFlight := none, trusted := if l.inFlight.isSome then false else l.trusted, xbarEn := false }

/-! ## The essential claim (R79) -/

/-- The level that a FAN or UPLINK station claims; none in the other roles. -/
def State.essential (s : State) : Option Nat :=
  match s.role with
  | .fan => some (s.cfg.fanCount * s.cfg.wattsPerFan)
  | .uplink => some s.cfg.uplinkPower
  | .blade | .supply => none

/-- The essential claim is requested where the conditions of R79 hold. -/
def State.evalEssential (s : State) : State :=
  match s.essential with
  | none => s
  | some level =>
    s.requestIf (s.station == .joined && s.cen.ownAnnounced && decide (s.self.held < level) && s.self.claim.isNone &&
      (s.slot .powerClaim).isNone) (.powerClaim level)

end Sys2Proof.Machine
end

