-- ==== Sys2Proof/Machine/Life.lean ====
section
/-! DEFINITION. Station life: entries to MUTE, LISTEN, PARKED, JOINED, LEAVING and SETUP, the leaving sequences, seating
loss, and the two resets (chapter 3). -/

namespace Sys2Proof.Machine

/-- The role blocks see the census as it stands after a follow-up (R25). `pre` is the census before the event, `before`
the state in which the event found the station; `force` passes a stop wherever T is 0, `points` names the
clients of a blade that evaluate at it (R98, R174). -/
def State.evalRoles (s : State) (pre : Census) (force : Bool) (points : Points) (before : State) : State :=
  (((s.evalBlade force points before).settleDrive).evalUplink pre).evalEssential

def State.updLife (s : State) (g : Life → Life) : State := { s with life := g s.life }

def State.updPbc (s : State) (g : Pbc → Pbc) : State := { s with pbc := g s.pbc }

/-- The station state held in the self entry (R24, log 26). -/
def State.ownStation (s : State) (p : Option PeerState) : State := s.updSelf (fun e => { e with station := p })

/-! ## MUTE (R10, R17, R66) -/

/-- The PBC's part: flag, cause, an empty queue, MUTE_ENTERED (R10, R17, R18). An own DEPART on the line, where entry to
LISTEN leads at once to MUTE, is dropped unsettled (log 42). -/
def State.muteBus (s : State) (cause : MuteCause) : State :=
  (s.updPbc (fun p => { p with muteFlag := true, muteCause := some cause, queue := .empty, onLine := none,
                               dropDepart := false })).raise (.muteEntered cause)

/-- Station Life's part: timers stopped, any leaving abandoned. -/
def Life.mute (l : Life) : Life :=
  { l with station := .mute, listenTimer := none, bumpTimer := none, leaving := none }

/-- A blade whose sequencer is OFF or in FAULT at entry makes its local write at once, whatever the self entry holds; at
it a sequencer in FAULT moves to OFF (R66, R82). -/
def State.muteFault (s : State) : State := if s.isBlade && s.rsq.state.isOff then s.localZero else s

def State.enterMute (s : State) (cause : MuteCause) : State :=
  let t := ((s.muteBus cause).updLife Life.mute).updCen (fun c => { c with announceTimer := none })
  let t := t.updLmp (fun l => { l with waiting := none })
  t.muteFault.evalRoles s.cen true .both s

/-! ## LISTEN (R44, R56) -/

/-- The self entry at entry to LISTEN: no claim, target or lanes (R44). -/
def Entry.listenSelf (e : Entry) : Entry :=
  Entry.updUplink { e.withoutLaneClaim with claim := none, shed := none, station := none }
    (fun p => { p with table := List.replicate Config.lanes none })

/-- The census at entry to LISTEN (R44, R92, R164). -/
def Census.listen (c : Census) (own : Addr) : Census :=
  { c with entries := (List.replicate Config.stations Entry.vacant).set own.toNat (c.get own).listenSelf, marked := [],
           ownAnnounced := false, deficit := false, overdraw := false, announceTimer := none }

/-- A DEPART left by a seating loss is disposed of: removed now, or when its attempt ends (R20). -/
def State.disposeDepart (s : State) : State :=
  if s.pbc.sending .depart then s.updPbc (fun p => { p with dropDepart := true })
  else if (s.slot .depart).isSome then (s.setSlot .depart none).raise (.frameDropped .depart)
  else s

def State.enterListen (s : State) : State :=
  let t := (s.enterState .listen).updLife (fun l => { l with listenTimer := some listenMs })
  let t := (t.updCen (fun c => c.listen s.addr)).updLmp (fun l => { l with waiting := none, forcedIdle := false })
  let t := { t with client := { t.client with lastSent := 0 } }
  let t := t.disposeDepart.evalRoles t.cen false .none t
  if t.pbc.faultScore == Config.faultMax then t.enterMute .faultScore else t

/-- The join condition (R55). -/
def State.joinCondition (s : State) : Bool := s.seated && !s.ejectorOpen && !s.life.stayParked

/-- The join condition is tested in PARKED (R55). -/
def State.testJoin (s : State) : State := if s.station == .parked && s.joinCondition then s.enterListen else s

/-! ## PARKED from LISTEN, JOINED and LEAVING (R44, R54, R92, R164) -/

/-- Station Life's part. -/
def Life.park (l : Life) : Life := { l with listenTimer := none, bumpTimer := none, leaving := none }

/-- The station becomes PARKED; the queue is left to the caller. -/
def State.becomeParked (s : State) : State :=
  let t := (s.updLife Life.park).enterState .parked
  let t := (t.ownStation none).updCen (fun c => { c.stopTimers with deficit := false, overdraw := false })
  t.evalRoles t.cen false .none t

/-- The queue is cleared without FRAME_DROPPED (R56, log 18); an attempt on the line goes on without its slot (log 43). -/
def State.park (s : State) : State := s.clearQueue.becomeParked

/-! ## Leaving (R59 to R64) -/

def State.setStep (s : State) (step : LeaveStep) : State :=
  s.updLife (fun l => { l with leaving := l.leaving.map (fun v => { v with step := step }) })

/-- The departure of R64: DEPART with the recorded reason. -/
def State.beginDeparture (s : State) : State :=
  match s.life.leaving with
  | some l => (s.setStep .departure).request (.depart l.reason)
  | none => s

/-- POWER_RELEASE(0), where the held level is above 0 or a claim is present (R60, R61, R63). -/
def State.beginRelease (s : State) : State :=
  if decide (0 < s.self.held) || s.self.claim.isSome then (s.setStep .powerRelease).request (.powerRelease 0)
  else s.beginDeparture

/-- The uplink on which the self entry holds lanes or a pending lane claim. -/
def State.lanesOn (s : State) : Option Addr :=
  match s.ownHolding with
  | some (u, _) => some u
  | none => s.self.laneClaim.map (fun q => q.1)

/-- R60 step 1. -/
def State.beginLaneRelease (s : State) : State :=
  match s.lanesOn with
  | some u => (s.setStep .laneRelease).request (.laneRelease u)
  | none => s.beginRelease

/-- R63: the shift of the all-idle map has ended, or none was needed. -/
def State.afterIdleMap (s : State) : State :=
  if s.lmp.isIdle then (s.setXbar false).beginRelease else s.setStep .idleMap

/-- The departure is settled: PARKED, with the stay-parked flag for reason HOST (R64). -/
def State.completeDeparture (s : State) (reason : DepartReason) : State :=
  ((s.updLife (fun l => { l with stayParked := l.stayParked || reason == .host })).park).testJoin

/-- The leaving sequence goes on where what it waits for has come about; a frame is settled when its slot is empty
(R59 to R64). -/
def State.advanceLeaving (s : State) : State :=
  match s.station, s.life.leaving with
  | .leaving, some l =>
    match l.step with
    | .railsOff => if s.rsq.state.isOff then s.beginLaneRelease else s
    | .laneRelease => if (s.slot .laneRelease).isNone then s.beginRelease else s
    | .capacityAlert => if (s.slot .capacityDrop).isNone then s.darkenSupply.beginDeparture else s
    | .lanesAlert => if (s.slot .lanesDrop).isNone then s.forceIdle.afterIdleMap else s
    | .idleMap => if s.lmp.isIdle then s.afterIdleMap else s
    | .powerRelease => if (s.slot .powerRelease).isNone then s.beginDeparture else s
    | .departure => if (s.slot .depart).isNone then s.completeDeparture l.reason else s
  | _, _ => s

/-- The role blocks and the leaving sequence answer an event. -/
def State.react (s : State) (pre : Census) (points : Points) (before : State) : State :=
  (s.evalRoles pre false points before).advanceLeaving

/-- A claim that is not on the line leaves its slot, one on the line loses its follow-on (R59). -/
def State.removeClaim (s : State) (i : SlotId) : State :=
  match s.slot i with
  | none => s
  | some f => if s.pbc.sending i then s.setSlot i (some { f with followOn := none }) else s.setSlot i none

/-- The step with which a role begins its leaving. -/
def firstStep : Role → LeaveStep
  | .blade => .railsOff
  | .fan => .powerRelease
  | .supply => .capacityAlert
  | .uplink => .lanesAlert

/-- The role's actions at entry to LEAVING (R60 to R63). -/
def State.leaveRole (s : State) : State :=
  match s.role with
  | .blade => (s.evalBlade true .both s).advanceLeaving
  | .fan => s.settleDrive.beginRelease
  | .supply => s.leaveSupply
  | .uplink => (if s.self.offer == 0 then s else s.writeOffer 0).request (.lanesDrop 0)

/-- Entry to LEAVING (R59). -/
def State.enterLeaving (s : State) (reason : DepartReason) : State :=
  let t := (s.removeClaim .powerClaim).removeClaim .laneClaim
  let t := t.updLife (fun l => { l with bumpTimer := none,
                                        leaving := some { reason := reason, step := firstStep s.role } })
  ((t.enterState .leaving).ownStation (some .leaving)).leaveRole

/-- Whether an EJECTOR closing cancels the leaving (R60). -/
def State.mayCancel (s : State) : Bool :=
  s.station == .leaving && s.isBlade && s.rsq.state == .stopWait &&
  s.life.leaving.map (fun l => l.reason) == some .ejector

/-- The leaving is cancelled (R60). It is no point of either client but where T changes (R98, R174). -/
def State.cancelLeaving (s : State) : State :=
  let t := (s.updLife (fun l => { l with leaving := none })).enterState .joined
  ((t.ownStation (some .joined)).cancelStop).evalBlade true .none s

/-! ## JOINED (R57) -/

/-- The host target of the join default (field 10). -/
def joinTarget : Nat → HostTarget
  | 0 => .off
  | 1 => .reduced
  | _ => .full

/-- The role duties begin (R57). -/
def State.joinRole (s : State) : State :=
  match s.role with
  | .blade =>
    (State.raise { s with client := { s.client with hostTarget := joinTarget s.cfg.joinDefault } }
      (.airflow s.cfg.zone s.client.zoneAirflow)).evalBlade true .both s
  | .fan => s.settleDrive
  | .supply => s.startSupply
  | .uplink => s.evalUplink s.cen

/-- How many peers are LIVE (R44). -/
def State.livePeers (s : State) : Nat := (allAddrs.filter (fun a => a != s.addr && (s.entry a).isLive)).length

/-- The LISTEN timer expires (R57, R91). -/
def State.enterJoined (s : State) : State :=
  let t := ((s.updLife (fun l => { l with listenTimer := none })).enterState .joined).ownStation (some .joined)
  let t := (t.request .announce).request (.inventory 0)
  let t := t.updCen (fun c => { c with announceTimer := some (s.addr.toNat * announceSlotMs) })
  (((t.raise (.censusBuilt t.livePeers)).shed).recordTally).joinRole

/-! ## PARKED and SETUP from START (R51, R54, R24) -/

/-- The role part of the self entry as it is initialised (R24). -/
def State.initialPart (s : State) : RolePart :=
  match s.role with
  | .blade => .blade { zone := s.cfg.zone, demand := 0, full := s.cfg.fullLevel, reduced := s.cfg.reducedLevel,
                       laneClaim := none }
  | .fan => .fan { zone := s.cfg.zone, airflow := .lost, duty := 0 }
  | .supply => .supply { state := .offline, capacity := 0, output := 0 }
  | .uplink => .uplink (freshUplink .ok)

/-- The priority of the self entry: 0 but for a BLADE. -/
def State.ownPriority (s : State) : Nat := priorityOf s.role s.cfg.priority

/-- The self entry as it is initialised (R24). -/
def State.initialSelf (s : State) : Entry :=
  { Entry.vacant with
    state := .live, policy := some { nPlusOne := s.cfg.nPlusOne, cap := s.cfg.cap }, priority := s.ownPriority,
    held := s.rsq.retained, part := s.initialPart,
    identity := some { moduleKind := s.cfg.moduleKind, revision := s.cfg.hardwareRevision, partName := s.cfg.partName,
                       serial := some s.cfg.serial } }

/-- Both edge latches are consumed without effect at the end of START (R185). -/
def State.consumeLatches (s : State) : State := { s with lnu := { s.lnu with ejectorLatch := false, acLatch := false } }

/-- The boot image becomes the running configuration (R54 step 1). -/
def State.install (s : State) (image : BootImage) : State :=
  s.updLife (fun l => { l with image := some image, config := image })

/-- The role blocks take their idle states (R54 step 6). -/
def State.idleRoles (s : State) : State :=
  match s.role with
  | .blade => { s with client := { s.client with lanesWanted := s.cfg.lanesWanted } }
  | .fan => s.installFans
  | .supply => s.parkSupply
  | .uplink => s

/-- The passage into PARKED from START or SETUP (R54), with the test of the join condition (R55). The tally counts the
self entry from there (R93, log 9). -/
def State.passIntoParked (s : State) (image : BootImage) : State :=
  let t := s.install image
  let t := t.updSelf (fun _ => t.initialSelf)
  let t := t.updPbc (fun p => { p with synced := false })
  let t := State.startSweep { t with msu := .reset }
  (((t.idleRoles.consumeLatches).enterState .parked).recordTally).testJoin

/-- BOOT_CLAMPED for each clamped field (R50). -/
def clampEvents (image : BootImage) (role : Role) : List Event :=
  (image.clampedSlots role).map (fun p => .bootClamped p.1 p.2)

/-- The image is clamped for the role and the station passes into PARKED (R48, R53). -/
def State.commitImage (s : State) (image : BootImage) : State :=
  (s.raiseAll (clampEvents image s.role)).passIntoParked (image.clamp s.role)

/-- Retentions end at entry to SETUP (R51). A retained drive ends with the boot image's values, the counter from 0 and
both compares at 0 (R149). -/
def State.endRetentions (s : State) : State :=
  let t := s.railsOff
  State.endDrive { t with rsq := { t.rsq with retained := 0 }, life := { t.life with retention := false } }

/-- Entry to SETUP (R51). -/
def State.enterSetup (s : State) (cause : SetupCause) (image : BootImage) : State :=
  let t := ((s.raise (.setupEntered cause)).install image).endRetentions
  let t := t.updLife (fun l => { l with setupCause := some cause })
  t.consumeLatches.enterState .setup

/-! ## Seating loss (R20, R65) -/

/-- The PBC at a seating loss: the attempt is abandoned, DEPART(SEATED_LOST) is queued, every other slot cleared (R20). -/
def State.seatLossBus (s : State) : State :=
  let f := match s.slot .depart with
    | some f => { f with contents := .depart .seatedLost, attempts := 0, followOn := none }
    | none => s.fresh (.depart .seatedLost)
  s.updPbc (fun p => { p with onLine := none, dropDepart := false, queue := TxQueue.empty.put .depart (some f) })

/-- What a seating loss does in every state past START. -/
def State.seatLossBlocks (s : State) : State :=
  let t := if s.isBlade then s.forceRailsOff else s
  let t := if t.isFan then t.endDrive.evalOwnAirflow else t
  let t := if t.isSupply then t.parkSupply else t
  let t := t.updLmp Lmp.abandon
  t.updLife (fun l => { l with bumpTimer := none, listenTimer := none, retention := false })

/-- A seating loss (R65); in START there is none. In LISTEN, JOINED and LEAVING the local write comes before the passage into
PARKED, and its follow-up is that of the state it leaves, with the shed in JOINED and LEAVING (log 49). -/
def State.seatingLoss (s : State) : State :=
  let t := s.seatLossBlocks
  match s.station with
  | .start => s
  | .listen | .joined | .leaving => (t.localZero.seatLossBus).becomeParked
  | .parked => t.localZero.evalRoles t.cen false .both s
  | .mute =>
    let u := t.localZero
    (if u.isUplink && u.self.offer != 0 then u.writeOffer 0 else u).evalRoles u.cen false .both u
  | .setup => t

/-! ## Resets (R68, R69) -/

/-- What a warm restart keeps of the Rail Sequencer (R100). -/
def Rsq.retain (r : Rsq) : Rsq :=
  match r.state with
  | .on => { Rsq.reset with state := .on, retained := r.retained }
  | .off => { Rsq.reset with retained := r.retained }
  | .stagger | .ramp _ | .stopWait | .stopping _ | .fault => .reset

/-- Whether a warm restart retains the rails ON. -/
def State.keepsRails (s : State) (straps : Straps) : Bool :=
  straps.role == .blade && s.isBlade && s.rsq.state == .on

/-- Whether a warm restart retains the fan drive: its PWM was running (R149, log 19). -/
def State.keepsFans (s : State) (straps : Straps) : Bool :=
  straps.role == .fan && s.isFan && s.fdu.counter.isSome

/-- A warm restart (R69). -/
def State.warmRestart (s : State) (straps : Straps) : State :=
  let t := State.powerOn straps s.pending
  { t with
    rsq := if straps.role == .blade && s.isBlade then s.rsq.retain else .reset,
    fdu := if s.keepsFans straps then s.fdu.retain else .reset,
    life := { t.life with retention := s.keepsRails straps || s.keepsFans straps } }

end Sys2Proof.Machine
end

