-- ==== Sys2Proof/Machine/ExecBoot.lean ====
section
/-! DEFINITION. Resets, the boot read and the store of the boot image: POWER_ON_START, WARM_RESTART, BOOT_READ_COMPLETE,
BOOT_READ_FAULT, SETUP_STORE_END. -/

namespace Sys2Proof.Machine

/-- R68: every block takes its power-on values; the straps are sampled (R46). -/
def execPowerOnStart (straps : Straps) (s : State) : Host.Outcome State Fault Refusal :=
  .next (State.powerOn straps s.pending)

/-- R69. -/
def execWarmRestart (straps : Straps) (s : State) : Host.Outcome State Fault Refusal := .next (s.warmRestart straps)

/-- What the loader makes of a record (R48). -/
def State.checkRecord (s : State) (record : List Byte) : State :=
  if recordSum record != recordSumHeld record then s.enterSetup .sum BootImage.defaults
  else if byteAt record 0 != 1 then s.enterSetup .version BootImage.defaults
  else if s.life.straps.setupHold then s.enterSetup .hold (BootImage.ofRecord record)
  else s.commitImage (BootImage.ofRecord record)

/-- R48, in START. -/
def execBootReadComplete (record : List Byte) (s : State) : Host.Outcome State Fault Refusal :=
  .next (if s.station == .start then s.newEvent.checkRecord record else s)

/-- R47: the read restarts, and the third fault enters SETUP with cause READ. -/
def State.readFault (s : State) : State :=
  let t := s.updLife (fun l => { l with readFaults := l.readFaults + 1 })
  if 3 ≤ t.life.readFaults then t.enterSetup .read BootImage.defaults else t

def execBootReadFault (s : State) : Host.Outcome State Fault Refusal :=
  .next (if s.station == .start then s.readFault else s)

/-- R52: the write in flight ends; the read-back decides. -/
def State.endStore (s : State) (readBack : Option (List Byte)) : State :=
  match s.life.storing with
  | none => s
  | some record =>
    (s.updLife (fun l => { l with storing := none })).raise
      (if readBack == some record then .setupStored else .setupStoreFailed)

def execSetupStoreEnd (readBack : Option (List Byte)) (s : State) : Host.Outcome State Fault Refusal :=
  .next (s.endStore readBack)

end Sys2Proof.Machine
end

