-- ==== Sys2Proof/Machine/Bus.lean ====
section
/-! DEFINITION. The Peer Bus Controller's events: synchronisation (R2), the start of a frame (R6 to R8), the judgement of
another station's frame (R9, R10), the settlement of an own attempt (R15, R16), and the end of a frame (R11, R17, R19,
R21). -/

namespace Sys2Proof.Machine

/-! ## The start of a frame (R1, R6, R7, R8) -/

/-- Whether the station state lets a slot's frame be sent (R1). -/
def StationState.sends (t : StationState) (i : SlotId) : Bool :=
  match t with
  | .joined | .leaving => true
  | .parked => i == .depart
  | .start | .setup | .listen | .mute => false

/-- The frame that the station may start now: the head of its queue (R6, R12). -/
def State.offered (s : State) : Option (SlotId × QueuedFrame) :=
  if s.pbc.synced && s.pbc.onLine.isNone then
    (s.pbc.queue.head).filter (fun p => s.station.sends p.1)
  else none

/-- The attempt is on the line (R12). -/
def State.putOnLine (s : State) (i : SlotId) (payload : Payload) (bitError : Bool) : State :=
  s.updPbc (fun p => { p with onLine := some { slot := i, payload := payload, bitError := bitError } })

/-- The follow-on of a slot replaces the contents, with the age kept and no attempts counted (R13, R16). -/
def QueuedFrame.promote (f : QueuedFrame) (r : FrameReq) : QueuedFrame :=
  { f with contents := r, attempts := 0, followOn := none }

/-- A lost arbitration is no attempt: the frame stays in its slot, where its follow-on replaces it at once (R7, R13). -/
def State.loseArbitration (s : State) (i : SlotId) (f : QueuedFrame) : State :=
  match f.followOn with
  | none => s
  | some r => s.setSlot i (some (f.promote r))

/-- The start mark and the bits after it (R7, R8). -/
def State.startFrame (s : State) (line : List Bool) : State :=
  match s.offered with
  | none => s
  | some (i, f) =>
    let payload := buildPayload s f.contents
    match readBack 8 (drivenBits s.addr payload) line with
    | .lost => s.loseArbitration i f
    | .clean => s.putOnLine i payload false
    | .bitError => s.putOnLine i payload true

/-! ## Counters (R21) -/

/-- The receive counters, counted while listening or in MUTE. -/
def State.countFrame (s : State) (checkFailed vetoed : Bool) : State :=
  if s.station.counting then
    s.updPbc (fun p =>
      { p with checkFailures := if checkFailed then satInc Config.counterMax p.checkFailures else p.checkFailures,
               vetoes := if vetoed then satInc Config.counterMax p.vetoes else p.vetoes })
  else s

/-! ## Settlement of an own attempt (R15, R16) -/

/-- What takes the slot after an accepted attempt (R15, R16). -/
def QueuedFrame.next (f : QueuedFrame) : Option FrameReq :=
  if f.contents == .inventory 0 then some (.inventory 1) else f.followOn

/-- The frame leaves its slot, or is replaced with a fresh age (R16). -/
def State.settleAccepted (s : State) (i : SlotId) : State :=
  let t := s.updPbc (fun p => { p with faultScore := p.faultScore - 1 })
  match s.slot i with
  | none => t
  | some f => t.setSlot i (f.next.map t.fresh)

/-- The slot after a failed attempt, and whether the frame is dropped (R16). -/
def QueuedFrame.failed (f : QueuedFrame) : Option QueuedFrame × Bool :=
  match f.followOn with
  | some r => (some (f.promote r), false)
  | none => if 3 ≤ f.attempts + 1 then (none, true) else (some { f with attempts := f.attempts + 1 }, false)

/-- A dropped DEPART of the leaving sequence frees the self entry by a local write, followed up as in PARKED
(R64, R92). -/
def State.afterDrop (s : State) (i : SlotId) : State :=
  if i == .depart && s.station == .leaving then (s.updCen (fun c => c.free s.addr)).followUp s.cen .departed else s

/-- The slot of a failed attempt (R16). -/
def State.failSlot (s : State) (i : SlotId) : State :=
  match s.slot i with
  | none => s
  | some f =>
    let t := s.setSlot i f.failed.1
    if f.failed.2 then (t.raise (.frameDropped i.kind)).afterDrop i else t

/-- A DEPART that was on the line at entry to LISTEN is removed when its attempt ends (R20). -/
def State.removeDepart (s : State) (failed : Bool) : State :=
  if s.pbc.dropDepart && s.station == .listen then
    ((s.setSlot .depart none).updPbc (fun p => { p with dropDepart := false })).raiseIf
      (failed && (s.slot .depart).isSome) (.frameDropped .depart)
  else s

/-- A failed attempt: the fault score rises by 4, and at 64 a listening station enters MUTE, with the failed frame cleared
like the rest and no FRAME_DROPPED (R16, R17). -/
def State.settleFailed (s : State) (i : SlotId) : State :=
  let t := s.updPbc (fun p => { p with faultScore := min Config.faultMax (p.faultScore + 4) })
  if t.pbc.faultScore == Config.faultMax && s.station.listening then t.enterMute .faultScore
  else (t.removeDepart true).failSlot i

/-- The demand of an own HEAT that has been accepted becomes the last-sent demand (R15, R129). -/
def State.recordSent (s : State) (p : Payload) : State :=
  match p with
  | .heat _ demand => { s with client := { s.client with lastSent := demand.toNat } }
  | _ => s

/-- The own frame has been accepted: settlement, the own census, and the answer of the blocks (R11, R16). -/
def State.ownAccepted (s : State) (o : OnLine) : State :=
  let t := ((s.settleAccepted o.slot).removeDepart false).recordSent o.payload
  (t.applyFrame s.addr true o.payload).react t.cen .both s

/-- The clients whose frame a slot holds: its drop is a point of their evaluation (R98, R174). -/
def SlotId.points : SlotId → Points
  | .powerClaim | .powerRelease => { power := true, lanes := false }
  | .laneClaim | .laneRelease => { power := false, lanes := true }
  | .capacityDrop | .airflowDrop | .lanesDrop | .depart | .heat | .announce | .inventory | .query => .none

/-- The points that a failed attempt is: none before the third failure, which drops the frame and so settles it (R59,
R98). -/
def State.failurePoints (s : State) (i : SlotId) : Points :=
  if (s.slot i).any (fun f => f.failed.2) then i.points else .none

/-- The own frame has failed: settlement, and the answer of the blocks to it. -/
def State.ownFailed (s : State) (o : OnLine) : State :=
  let t := s.settleFailed o.slot
  if t.station == .mute then t else t.react s.cen (s.failurePoints o.slot) s

/-- The end of the own frame. -/
def State.endOwn (s : State) (o : OnLine) (vetoed : Bool) : State :=
  let failed := vetoed || o.bitError
  let t := (s.updPbc (fun p => { p with onLine := none })).countFrame false failed
  if failed then t.ownFailed o else t.ownAccepted o

/-! ## Another station's frame (R9, R10, R11, R19) -/

/-- An accepted frame of another station reaches the census. -/
def State.hearOther (s : State) (a : Addr) (p : Option Payload) : State :=
  match p with
  | some p => (s.applyFrame a false p).react s.cen .both s
  | none => s

/-- The end of another station's frame at a listening station. -/
def State.endListening (s : State) (f : FrameRead) (p : Option Payload) (vetoed : Bool) : State :=
  let clash := f.sender == s.addr
  let t := s.countFrame (!f.checkPasses) (vetoed || f.bad || clash)
  if clash then t.enterMute .addressClash
  else if vetoed || f.bad then t
  else t.hearOther f.sender p

/-- The end of another station's frame at a station in MUTE (R19). -/
def State.endMuted (s : State) (f : FrameRead) (p : Option Payload) (vetoed : Bool) : State :=
  let t := s.countFrame (!f.checkPasses) vetoed
  if vetoed || f.bad then t else t.hearOther f.sender p

def State.endOther (s : State) (f : FrameRead) (p : Option Payload) (vetoed : Bool) : State :=
  match s.station with
  | .listen | .joined | .leaving => s.endListening f p vetoed
  | .mute => s.endMuted f p vetoed
  | .start | .setup | .parked => s

/-- The own attempt that a frame is the end of: its sender is the station itself and its kind the attempt's; a vetoed frame
may have been garbled after a bit error (log 10). -/
def State.ownAttempt (s : State) (f : FrameRead) (p : Option Payload) : Option OnLine :=
  s.pbc.onLine.filter (fun o =>
    match p with
    | some p => f.sender == s.addr && p.kind == o.payload.kind
    | none => f.sender == s.addr || o.bitError)

/-- The end of the veto window of a frame (R11). A station that does not follow the line, or is not yet synchronised,
takes no part (R1, R2). -/
def State.endFrame (s : State) (f : FrameRead) (p : Option Payload) (vetoed : Bool) : State :=
  if s.pbc.synced && s.station.followsLine then
    match s.ownAttempt f p with
    | some o => s.endOwn o vetoed
    | none => s.endOther f p vetoed
  else s

/-- An accepted frame, with the check bits as this station read them. A listening station that judges it bad, or reads its
own address in it, vetoes it, so it is then accepted nowhere (R9 to R11, log 10). -/
def State.accept (s : State) (sender : Addr) (p : Payload) (check : Half) : State :=
  s.newEvent.endFrame (frameOf sender p check) (some p) false

end Sys2Proof.Machine
end

