-- ==== Sys2Proof/Machine/ExecBus.lean ====
section
/-! DEFINITION. The commands of the bus: FRAME_START, FRAME_VETOED, LINE_SYNCHRONISED and the twelve accepted frames. -/

namespace Sys2Proof.Machine

/-- R6 to R8, R12, R15. -/
def execFrameStart (line : List Bool) (s : State) : Host.Outcome State Fault Refusal := .next (s.startFrame line)

/-- R10, R11, R16, R17, R21. -/
def execFrameVetoed (frame : FrameRead) (s : State) : Host.Outcome State Fault Refusal :=
  .next (s.newEvent.endFrame frame none true)

/-- R2. -/
def State.synchronise (s : State) : State :=
  if s.station.followsLine then s.updPbc (fun p => { p with synced := true }) else s

def execLineSynchronised (s : State) : Host.Outcome State Fault Refusal := .next s.synchronise

/-- R162. -/
def execCapacityDropAccepted (sender : Addr) (subject : Byte) (value check : Half) (s : State) :
    Host.Outcome State Fault Refusal := .next (s.accept sender (.alert 1 subject value) check)

/-- R131. -/
def execAirflowDropAccepted (sender : Addr) (subject : Byte) (value check : Half) (s : State) :
    Host.Outcome State Fault Refusal := .next (s.accept sender (.alert 2 subject value) check)

/-- R171. -/
def execLanesDropAccepted (sender : Addr) (subject : Byte) (value check : Half) (s : State) :
    Host.Outcome State Fault Refusal := .next (s.accept sender (.alert 3 subject value) check)

/-- R75. -/
def execPowerClaimAccepted (sender : Addr) (level check : Half) (s : State) : Host.Outcome State Fault Refusal :=
  .next (s.accept sender (.powerClaim level) check)

/-- R80. -/
def execPowerReleaseAccepted (sender : Addr) (level check : Half) (s : State) : Host.Outcome State Fault Refusal :=
  .next (s.accept sender (.powerRelease level) check)

/-- R30. -/
def execDepartAccepted (sender : Addr) (reason : Byte) (check : Half) (s : State) : Host.Outcome State Fault Refusal :=
  .next (s.accept sender (.depart reason) check)

/-- R168. -/
def execLaneClaimAccepted (sender : Addr) (uplink count : Byte) (check : Half) (s : State) :
    Host.Outcome State Fault Refusal := .next (s.accept sender (.laneClaim uplink count) check)

/-- R170. -/
def execLaneReleaseAccepted (sender : Addr) (uplink : Byte) (check : Half) (s : State) :
    Host.Outcome State Fault Refusal := .next (s.accept sender (.laneRelease uplink) check)

/-- R36. -/
def execHeatAccepted (sender : Addr) (zone demand : Byte) (check : Half) (s : State) :
    Host.Outcome State Fault Refusal := .next (s.accept sender (.heat zone demand) check)

/-- R32 to R35, R38, R40, R43. -/
def execAnnounceAccepted (sender : Addr) (payload : List Byte) (check : Half) (s : State) :
    Host.Outcome State Fault Refusal := .next (s.accept sender (.announce payload) check)

/-- R39, R40. -/
def execInventoryAccepted (sender : Addr) (segment : Byte) (rest : List Byte) (check : Half) (s : State) :
    Host.Outcome State Fault Refusal := .next (s.accept sender (.inventory segment rest) check)

/-- R40. -/
def execQueryAccepted (sender : Addr) (target : Byte) (check : Half) (s : State) : Host.Outcome State Fault Refusal :=
  .next (s.accept sender (.query target) check)

end Sys2Proof.Machine
end

