-- ==== Sys2Proof/Machine/ExecCensus.lean ====
section
/-! DEFINITION. The timers of the census: SILENCE_EXPIRY, STALE_HOLD_EXPIRY, QUERY_QUIET_EXPIRY, ANNOUNCE_TIMER_EXPIRY. A
stopped timer does not expire; a running one is taken whatever time it has left (log 6). -/

namespace Sys2Proof.Machine

/-- R28. -/
def execSilenceExpiry (a : Addr) (s : State) : Host.Outcome State Fault Refusal :=
  .next (if (s.entry a).isLive && (s.entry a).silence.running then
    (s.newEvent.silenceExpires a).react s.cen .both s else s)

/-- R29. -/
def execStaleHoldExpiry (a : Addr) (s : State) : Host.Outcome State Fault Refusal :=
  .next (if (s.entry a).isStale && (s.entry a).staleHold.running then
    (s.newEvent.staleHoldExpires a).react s.cen .both s else s)

/-- R40. -/
def execQueryQuietExpiry (a : Addr) (s : State) : Host.Outcome State Fault Refusal :=
  .next (if (s.entry a).quiet.running then (s.newEvent.quietExpires a).react s.cen .both s else s)

/-- R37. -/
def execAnnounceTimerExpiry (s : State) : Host.Outcome State Fault Refusal :=
  .next (if s.cen.announceTimer.running then s.newEvent.announceExpires.react s.cen .both s else s)

end Sys2Proof.Machine
end

