-- ==== Sys2Proof/Machine/ExecFans.lean ====
section
/-! DEFINITION. The fan drive: GATE_END, FAN_PRESENT_CHANGE, PWM_WRAP, TACH_EDGE. -/

namespace Sys2Proof.Machine

/-- R136, R137. -/
def execGateEnd (s : State) : Host.Outcome State Fault Refusal :=
  .next (if s.isFan && s.fdu.gate.running then s.newEvent.gateEnds else s)

/-- The presence of a configured channel, from the passage into PARKED onward (R134, R182). -/
def State.presenceTaken (s : State) (k : Nat) (was : Debounced) : State :=
  if s.station.running && s.configuredFan k && (s.input (k + 2)).state != was then
    s.presence k (s.fanPresent k) (was != .unsettled)
  else s

def execFanPresentChange (k : Nat) (present : Bool) (s : State) : Host.Outcome State Fault Refusal :=
  .next (if s.isFan && decide (k < Config.fans) then
    (s.newEvent.debounce (k + 2) lineSamples present).presenceTaken k (s.input (k + 2)).state
  else s)

/-- R141, R142. -/
def execPwmWrap (s : State) : Host.Outcome State Fault Refusal := .next s.pwmWraps

/-- R136. -/
def execTachEdge (k : Nat) (s : State) : Host.Outcome State Fault Refusal := .next (s.tachEdge k)

end Sys2Proof.Machine
end

