-- ==== Sys2Proof/Machine/ExecLife.lean ====
section
/-! DEFINITION. Station life: LISTEN_TIMER_EXPIRY, SEATED_CHANGE, EJECTOR_CHANGE, EJECTOR_LATCH_SET, BUMP_WINDOW_EXPIRY. -/

namespace Sys2Proof.Machine

/-- R57. -/
def execListenTimerExpiry (s : State) : Host.Outcome State Fault Refusal :=
  .next (if s.station == .listen && s.life.listenTimer.running then s.newEvent.enterJoined else s)

/-! ## SEATED (R55, R65, R148, R182) -/

/-- Whether a change of SEATED to this state is a seating loss (R65). -/
def seatingLost (was now : Debounced) (retention : Bool) : Bool :=
  now == .no && (was == .yes || (was == .unsettled && retention))

/-- The readers of a change of SEATED. -/
def State.seatedTaken (s : State) (was : Debounced) : State :=
  if seatingLost was (s.input 0).state s.life.retention then s.seatingLoss
  else if (s.input 0).state == was then s
  else s.settleDrive.testJoin

def execSeatedChange (level : Bool) (s : State) : Host.Outcome State Fault Refusal :=
  .next ((s.newEvent.debounce 0 seatedSamples level).seatedTaken (s.input 0).state)

/-! ## EJECTOR (R55, R56, R58, R60, R106, R111, R182) -/

/-- The stop of a PARKED blade with retained rails (R111). -/
def State.stopRetained (s : State) : State := if s.isBlade then (s.stopRails .ejector).armClear else s

/-- An opening, by station state. -/
def State.ejectorOpens (s : State) : State :=
  let t := s.updLife (fun l => { l with stayParked := false })
  match s.station with
  | .parked => t.stopRetained
  | .listen => t.park.stopRetained
  | .joined => if s.life.bumpTimer.running then t else t.enterLeaving .ejector
  | .start | .setup | .leaving | .mute => t

/-- A closing, by station state. -/
def State.ejectorCloses (s : State) : State :=
  match s.station with
  | .parked => s.cancelStop.testJoin
  | .leaving => if s.mayCancel then s.cancelLeaving else s
  | .start | .setup | .listen | .joined | .mute => s

/-- The readers of EJECTOR; settling is no edge, but the join condition is tested (R182). -/
def State.ejectorTaken (s : State) (was : Debounced) : State :=
  match was, (s.input 1).state with
  | .unsettled, _ => s.testJoin
  | .no, .yes => s.ejectorOpens
  | .yes, .no => s.ejectorCloses
  | _, _ => s

def execEjectorChange (isOpen : Bool) (s : State) : Host.Outcome State Fault Refusal :=
  .next ((s.newEvent.debounce 1 lineSamples isOpen).ejectorTaken (s.input 1).state)

/-! ## The ejector latch and the bump window (R58, R184, R185) -/

/-- The latch and its host copy are set. -/
def State.setEjectorLatch (s : State) : State :=
  { s with lnu := { s.lnu with ejectorLatch := true, ejectorCopy := true } }

/-- Station life consumes the latch; in JOINED it starts the bump window, unless one runs. -/
def State.consumeEjector (s : State) : State :=
  let t := { s with lnu := { s.lnu with ejectorLatch := false } }
  if s.station == .joined && !s.life.bumpTimer.running then t.updLife (fun l => { l with bumpTimer := some bumpMs }) else t

def execEjectorLatchSet (s : State) : Host.Outcome State Fault Refusal :=
  .next (if s.station == .start then s.setEjectorLatch else s.setEjectorLatch.consumeEjector)

/-- The window ends: the debounced EJECTOR decides (R58). -/
def State.endBump (s : State) : State :=
  let t := s.updLife (fun l => { l with bumpTimer := none })
  if s.ejectorOpen then t.enterLeaving .ejector else t.raise .ejectorBump

def execBumpWindowExpiry (s : State) : Host.Outcome State Fault Refusal :=
  .next (if s.station == .joined && s.life.bumpTimer.running then s.newEvent.endBump else s)

end Sys2Proof.Machine
end

