-- ==== Sys2Proof/Machine/ExecLines.lean ====
section
/-! DEFINITION. Lines and the lane map: GPI_CHANGE, BLINK_PHASE_CHANGE, SHIFT_END. -/

namespace Sys2Proof.Machine

/-- Whether a pin is a GPI or AC_WARN in a role (R181). -/
def gpiPin (r : Role) (pin : Nat) : Bool :=
  match r with
  | .blade => decide (5 ≤ pin) && decide (pin < Config.inputs)
  | .fan => false
  | .supply => decide (2 ≤ pin) && decide (pin < Config.inputs)
  | .uplink => decide (2 ≤ pin) && decide (pin < Config.inputs)

/-- R182; the combiners and outputs are computed from the input (R187). -/
def execGpiChange (pin : Nat) (level : Bool) (s : State) : Host.Outcome State Fault Refusal :=
  .next (if gpiPin s.role pin then s.debounce pin lineSamples level else s)

/-- R189. -/
def execBlinkPhaseChange (s : State) : Host.Outcome State Fault Refusal :=
  .next { s with lnu := { s.lnu with blinkSecond := !s.lnu.blinkSecond, blinkTimer := some blinkMs } }

/-! ## SHIFT_END (R176, R179, R180) -/

/-- Steps 1 to 3: check, commit, fault with the offer logic after it. -/
def State.settleShift (s : State) (readback : LaneMap) : State :=
  let t := s.updLmp Lmp.commit
  if s.lmp.differs readback then t.crossbarFails.evalUplink s.cen else t

/-- Step 4, in the states in which the LMP starts shifts (R178). -/
def State.shiftWaiting (s : State) : State := if s.mayShift then s.updLmp Lmp.takeWaiting else s

def execShiftEnd (mapDi : List Bool) (s : State) : Host.Outcome State Fault Refusal :=
  .next (if s.lmp.inFlight.isSome then
    (s.newEvent.settleShift (mapRead mapDi)).shiftWaiting.advanceLeaving else s)

end Sys2Proof.Machine
end

