-- ==== Sys2Proof/Machine/ExecMeasure.lean ====
section
/-! DEFINITION. Measurement and supply: SWEEP_INTERVAL_EXPIRY, CONVERSION_COMPLETION, AC_WARN_LATCH_SET,
RECOVERY_TIMER_EXPIRY. -/

namespace Sys2Proof.Machine

/-- R115. -/
def execSweepIntervalExpiry (s : State) : Host.Outcome State Fault Refusal :=
  .next (if s.msu.interval.running then s.startSweep else s)

/-! ## CONVERSION_COMPLETION (R114, R117 to R124) -/

/-- The critical persistence timer follows the number of CRITICAL demand channels (R109). -/
def State.followCritical (s : State) (before : Nat) : State :=
  let now := s.criticalDemand
  if now == 0 then { s with client := { s.client with criticalTimer := none } }
  else if before == 0 then { s with client := { s.client with criticalTimer := some criticalMs } }
  else s

/-- The blade reads the record (R109, R124, R128). -/
def State.bladeReads (s : State) (before : State) : State :=
  if s.isBlade then (s.followCritical before.criticalDemand).react s.cen .none before else s

/-- The next conversion begins, or the sweep ends: the sweep-end notice, then what follows the sweep (R114 to R116). -/
def State.goOn (s : State) (ch : Nat) : State :=
  match s.nextChannel ch with
  | some k => { s with msu := { s.msu with sweep := some k } }
  | none => s.sweepNotice.endSweep

def State.completion (s : State) (raw : Nat) : State :=
  match s.msu.sweep with
  | none => s
  | some ch => ((s.newEvent.completeChannel ch raw).bladeReads s).goOn ch

def execConversionCompletion (raw : BitVec 12) (s : State) : Host.Outcome State Fault Refusal :=
  .next (s.completion raw.toNat)

/-! ## AC_WARN (R155, R184, R185) -/

/-- The latch and its host copy are set. -/
def State.setAcLatch (s : State) : State := { s with lnu := { s.lnu with acLatch := true, acCopy := true } }

/-- The Supply Monitor consumes the latch. -/
def State.consumeAc (s : State) : State := State.acWarning { s with lnu := { s.lnu with acLatch := false } }

/-- The latch follows IN2 in the SUPPLY role (R181). -/
def execAcWarnLatchSet (s : State) : Host.Outcome State Fault Refusal :=
  .next (if s.isSupply then
    (if s.station == .start then s.setAcLatch else s.newEvent.setAcLatch.consumeAc)
  else s)

/-- R157. -/
def execRecoveryTimerExpiry (s : State) : Host.Outcome State Fault Refusal :=
  .next (if s.spm.recovery.running && s.spm.activity == .running && s.spm.state == .failed then
    s.newEvent.recovered else s)

end Sys2Proof.Machine
end

