-- ==== Sys2Proof/Machine/Responses.lean ====
section
/-! DEFINITION. The data of responses (R192, R193, R196, R197), byte by byte; the points that R192 does not settle are in
log 17. -/

namespace Sys2Proof.Machine

/-! ## Codes of enumerated values (R192) -/

/-- By position, in ANNOUNCE's states too (log 17). -/
def StationState.code : StationState → Nat
  | .start => 0 | .setup => 1 | .parked => 2 | .listen => 3 | .joined => 4 | .leaving => 5 | .mute => 6

def SetupCause.code : SetupCause → Nat
  | .hold => 0 | .sum => 1 | .version => 2 | .read => 3

/-- R10 names only ADDRESS_CLASH and R17 only FAULT_SCORE; the two are numbered across the rules, in their order (log 17). -/
def MuteCause.code : MuteCause → Nat
  | .addressClash => 0 | .faultScore => 1

def EntryState.code : EntryState → Nat
  | .vacant => 0 | .live => 1 | .stale => 2

/-- By the position in R95, DEPART's reasons too (log 17). -/
def StopReason.code : StopReason → Nat
  | .mute => 0 | .ejector => 1 | .host => 2 | .overtemp => 3 | .airflow => 4 | .shed => 5

/-- The fields of CENSUS_CORRECTION are first named in three rules, R33, R34 and R35; they are numbered across the three, in
their order (log 17). -/
def CorrectionField.code : CorrectionField → Nat
  | .role => 0 | .held => 1 | .claim => 2 | .lanes => 3 | .laneClaim => 4

/-- The causes of R154 and R155, in the order in which the event table of chapter 8 lists all four. -/
def SupplyCause.code : SupplyCause → Nat
  | .output => 0 | .input => 1 | .temperature => 2 | .acWarn => 3

def ThresholdLevel.code : ThresholdLevel → Nat
  | .clear => 0 | .warn => 1 | .critical => 2

def ChannelStatus.code : ChannelStatus → Nat
  | .unset => 0 | .normal => 1 | .faulted => 2

def RunSign.code : RunSign → Nat
  | .up => 0 | .down => 1 | .none => 2

def FanState.code : FanState → Nat
  | .absent => 0 | .idle => 1 | .spinup => 2 | .running => 3 | .failed => 4

def Activity.code : Activity → Nat
  | .inactive => 0 | .running => 1 | .frozen => 2

def Debounced.code : Debounced → Nat
  | .unsettled => 0 | .yes => 1 | .no => 2

/-- The role of an entry: the code of ANNOUNCE, and 255 for UNKNOWN (log 17). -/
def roleByte (r : Option Role) : Byte :=
  match r with
  | some r => byteOf r.code
  | none => 255

/-- An optional value: presence, then the value or zeros of its length (R192). -/
def optBytes {α : Type} (length : Nat) (enc : α → List Byte) : Option α → List Byte
  | none => 0 :: List.replicate length 0
  | some x => 1 :: enc x

/-- A flag: 1 for set or yes, 0 for clear or no (log 17). -/
def boolByte (b : Bool) : Byte := byteOf (boolCode b)

def timerByte (t : Timer) : Byte := boolByte t.running

def addrByte (a : Addr) : Byte := byteOf a.toNat

/-- A list: the number of its items, then the items (R192). -/
def listBytes {α : Type} (enc : α → List Byte) (xs : List α) : List Byte := byteOf xs.length :: xs.flatMap enc

/-! ## READ_STATUS -/

def State.pgBytes (s : State) : List Byte :=
  if s.isBlade then (List.range 3).map (fun k => byteOf (s.input (k + 2)).state.code) else []

def State.statusBytes (s : State) : List Byte :=
  [byteOf s.station.code, byteOf s.role.code, addrByte s.addr] ++
  optBytes 1 (fun c : SetupCause => [byteOf c.code]) (if s.station == .setup then s.life.setupCause else none) ++
  [byteOf s.pbc.faultScore, boolByte s.pbc.muteFlag] ++
  optBytes 1 (fun c : MuteCause => [byteOf c.code]) s.pbc.muteCause ++
  be16 s.pbc.checkFailures ++ be16 s.pbc.vetoes ++ be16 s.cen.anomalies ++
  (List.range Config.inputs).map (fun k => byteOf (s.input k).state.code) ++ s.pgBytes ++
  [boolByte s.lnu.ejectorCopy, boolByte s.lnu.acCopy, byteOf s.lpt.events.length] ++ be16 s.lpt.overflow

/-! ## READ_ENTRY -/

def policyBytes (p : Policy) : List Byte := boolByte p.nPlusOne :: be16 p.cap

/-- A holding: the uplink and its lanes as the mask byte of ANNOUNCE (log 17). -/
def holdingBytes (h : Addr × List Nat) : List Byte := [addrByte h.1, laneSetByte h.2]

def laneClaimBytes (q : Addr × Nat) : List Byte := [addrByte q.1, byteOf q.2]

/-- An owner slot, as an optional address (log 17). -/
def slotBytesOf (o : Option Addr) : List Byte := optBytes 1 (fun a => [addrByte a]) o

/-- A claim of a lane waiting list: address, priority, count (R167). -/
def Census.laneClaimItem (c : Census) (a : Addr) : List Byte :=
  [addrByte a, byteOf (c.get a).priority, byteOf (((c.get a).laneClaim.map (fun q => q.2)).getD 0)]

/-- The role part of the entry at an address. -/
def Census.partBytes (c : Census) (a : Addr) : List Byte :=
  match (c.get a).part with
  | .unknown => []
  | .blade p =>
    [byteOf p.zone, byteOf p.demand] ++ be16 p.full ++ be16 p.reduced ++ optBytes 2 holdingBytes (c.holding a) ++
    optBytes 2 laneClaimBytes p.laneClaim
  | .fan p => [byteOf p.zone, byteOf p.airflow.code] ++ be16 p.duty
  | .supply p => byteOf p.state.code :: (be16 p.capacity ++ be16 p.output)
  | .uplink p =>
    [byteOf p.offer, byteOf p.crossbar.code] ++ p.table.flatMap slotBytesOf ++
    listBytes c.laneClaimItem (c.laneWaiting a)

/-- The identity status (R39), by its position in the list of R193: ABSENT, PARTIAL, COMPLETE (log 17). -/
def identityCode (i : Option Identity) : Nat :=
  match i with
  | none => 0
  | some i => if i.serial.isSome then 2 else 1

/-- The status byte stands for the presence bytes of the identity and of its serial (log 17). -/
def identityBytes (i : Option Identity) : List Byte :=
  byteOf (identityCode i) ::
  (match i with
    | none => List.replicate 34 0
    | some i => [byteOf i.moduleKind, byteOf i.revision] ++ nameBytes i.partName ++ nameBytes (i.serial.getD []))

/-- What READ_ENTRY adds for the self entry of a SUPPLY. -/
def State.supplyBytes (s : State) (a : Addr) : List Byte :=
  if s.isSupply && a == s.addr then [byteOf s.spm.activity.code, byteOf s.spm.qualification] else []

def State.entryBytes (s : State) (a : Addr) : List Byte :=
  let e := s.entry a
  [byteOf e.state.code, roleByte e.role] ++ optBytes 1 (fun p : PeerState => [byteOf p.code]) e.station ++
  optBytes 3 policyBytes e.policy ++ byteOf e.priority :: be16 e.held ++ optBytes 2 be16 e.claim ++
  optBytes 2 be16 e.shed ++ s.cen.partBytes a ++ identityBytes e.identity ++
  [timerByte e.silence, timerByte e.staleHold, timerByte e.quiet, boolByte e.mismatch] ++ s.supplyBytes a

/-! ## READ_TALLY -/

/-- A claim of the power waiting list: address, priority, held level, claimed level (R73). -/
def WaitingClaim.bytes (q : WaitingClaim) : List Byte :=
  [addrByte q.address, byteOf q.priority] ++ be16 q.held ++ be16 q.level

/-- The values of R73 in its order; the deficit flag, which R193 names beside them, stands at its place there and is not
repeated (log 17). -/
def TallyReport.bytes (r : TallyReport) : List Byte :=
  policyBytes r.policy ++ be32 r.capacity ++ be16 r.reserve ++ be32 r.admission ++ be32 r.shedBudget ++ be32 r.load ++
  be32 r.effLoad ++ [boolByte r.deficit] ++ listBytes WaitingClaim.bytes r.waiting

/-- The tally of the last completed follow-up (R73), and the overdraw flag (R164). -/
def State.tallyBytes (s : State) : List Byte := s.cen.report.bytes ++ [boolByte s.cen.overdraw]

/-! ## READ_CHANNEL -/

/-- The configuration fields of a channel record (R112). Before the passage into PARKED has taken them from the boot image,
in SETUP, they are reported from the image as it stood at entry to SETUP, unclamped (log 54). -/
def State.channelConfigBytes (s : State) (ch : Nat) : List Byte :=
  let b := s.cfg
  [boolByte (b.enabled ch), byteOf (b.channelKind ch)] ++ be16 (b.gain ch) ++ be16Int (b.offset ch) ++
  [byteOf (b.noiseBand ch).toNat] ++ be16Int (b.updateThreshold ch) ++ be16Int (b.jumpLimit ch) ++
  [byteOf (b.debounce ch)] ++ be16Int (b.warnThreshold ch) ++ be16Int (b.criticalThreshold ch) ++
  [byteOf (b.hysteresis ch).toNat, boolByte (b.flag 32 ch)] ++ be16Int (b.demandLimit ch) ++ be16 (b.demandSpan ch)

/-- The working fields of a channel record (R112); the warn and critical flags are 1 where set (log 17). -/
def ChannelRec.bytes (c : ChannelRec) : List Byte :=
  be16 c.raw ++ be16Int c.value ++ [byteOf c.status.code] ++ optBytes 2 be16Int c.filtered ++ be16Int c.bucket ++
  [byteOf c.run, byteOf c.runSign.code, byteOf c.spikes, byteOf c.recovery] ++ optBytes 2 be16Int c.reference ++
  [boolByte c.warn, boolByte c.critical, byteOf c.level.code]

def State.channelBytes (s : State) (ch : Nat) : List Byte := s.channelConfigBytes ch ++ (s.channel ch).bytes

/-! ## READ_FANS and READ_LANES -/

def FanChannel.bytes (c : FanChannel) : List Byte :=
  [byteOf c.state.code, boolByte c.failureMark] ++ be16 c.duty ++ [byteOf c.spinup, byteOf c.lowGates] ++ be16 c.tach ++
  be32 c.rpm ++ be32 c.preload ++ be32 c.shadow

def State.fansBytes (s : State) : List Byte :=
  (List.range Config.fans).flatMap (fun k => (s.fdu.channel k).bytes) ++
  [byteOf s.fdu.airflow.code, boolByte (s.fdu.mode == .retained)]

/-- A lane map, six bytes, most significant first (log 17). -/
def mapBytes (m : LaneMap) : List Byte := be16 (m.toNat / 4294967296) ++ be32 (m.toNat % 4294967296)

def Lmp.bytes (l : Lmp) : List Byte :=
  boolByte l.inFlight.isSome :: (optBytes 6 mapBytes l.inFlight ++ optBytes 6 mapBytes l.committed ++
  optBytes 6 mapBytes l.waiting ++ [boolByte l.trusted, byteOf l.crossbar.code, boolByte l.forcedIdle])

def State.lanesBytes (s : State) (u : Addr) : List Byte :=
  match (s.entry u).part with
  | .uplink _ =>
    roleByte (s.entry u).role :: s.cen.partBytes u ++ (if s.isUplink && u == s.addr then s.lmp.bytes else [])
  | .unknown | .blade _ | .fan _ | .supply _ => [roleByte (s.entry u).role]

/-! ## NEXT_EVENT: codes and values of events (section 11.5) -/

/-- The code of an event, from 1 in the order of section 11.5, and its values; the lanes of LANES_GRANTED are the mask
byte of ANNOUNCE (log 17). -/
def Event.encode : Event → Nat × List Byte
  | .frameDropped k => (1, [byteOf k.code])
  | .muteEntered c => (2, [byteOf c.code])
  | .peerJoined a => (3, [addrByte a])
  | .peerReturned a => (4, [addrByte a])
  | .peerStale a => (5, [addrByte a])
  | .peerExpired a => (6, [addrByte a])
  | .peerDeparted a r => (7, [addrByte a, byteOf r.code])
  | .censusCorrection a f => (8, [addrByte a, byteOf f.code])
  | .policyMismatch a => (9, [addrByte a])
  | .censusBuilt n => (10, [byteOf n])
  | .stationState t => (11, [byteOf t.code])
  | .bootClamped f i => (12, [byteOf f, byteOf i])
  | .setupEntered c => (13, [byteOf c.code])
  | .setupStored => (14, [])
  | .setupStoreFailed => (15, [])
  | .ejectorBump => (16, [])
  | .stopCancelled => (17, [])
  | .powerWaiting v => (18, be16 v)
  | .powerAdmitted v => (19, be16 v)
  | .shedTarget v => (20, be16 v)
  | .budgetDeficit x => (21, be32 x)
  | .budgetRestored => (22, [])
  | .powerCapped v => (23, be16 v)
  | .shutdownRequest r => (24, [byteOf r.code])
  | .sequenceFault k => (25, [byteOf k])
  | .pgLost k => (26, [byteOf k])
  | .railsOn => (27, [])
  | .railsOff => (28, [])
  | .overtempStop => (29, [])
  | .overtempCleared => (30, [])
  | .channelFault ch => (31, [byteOf ch])
  | .channelRecovered ch => (32, [byteOf ch])
  | .threshold ch l => (33, [byteOf ch, byteOf l.code])
  | .airflow z v => (34, [byteOf z, byteOf v.code])
  | .fanFailed k => (35, [byteOf k])
  | .fanInserted k => (36, [byteOf k])
  | .fanRemoved k => (37, [byteOf k])
  | .supplyState t => (38, [byteOf t.code])
  | .supplyFault c => (39, [byteOf c.code])
  | .overdraw m => (40, be32 m)
  | .overdrawClear => (41, [])
  | .lanesGranted u lanes => (42, [addrByte u, laneSetByte lanes])
  | .lanesLost u => (43, [addrByte u])
  | .lanesUnavailable u => (44, [match u with | some a => addrByte a | none => 255])
  | .crossbarFault => (45, [])
  | .eventOverflow n => (46, be16 n)

/-- The data of NEXT_EVENT: events left, then the event, or code 0 (R192). -/
def eventBytes : List Event → List Byte
  | [] => [0, 0]
  | e :: rest => [byteOf rest.length, byteOf e.encode.1] ++ e.encode.2

/-! ## READ_SETUP -/

/-- The value of a field as the image holds it, in the width of its slot (R196). -/
def setupBytes (b : BootImage) (f i : Nat) : List Byte := slotBytes (fieldSpec f) (b.get f i)

end Sys2Proof.Machine
end

