-- ==== Sys2Proof/Machine/ExecPort.lean ====
section
/-! DEFINITION. The commands of the local port (R190 to R197). -/

namespace Sys2Proof.Machine

/-- The response buffer takes a response (R190). -/
def State.respond (s : State) (status : PortStatus) (data : List Byte) : State :=
  { s with lpt := { s.lpt with response := some { status := status, data := data } } }

/-- A command of the port (R190, R191): none in START, BUSY while a store is in flight, REFUSED_STATE where it is not taken,
and otherwise OK with the data of `data` over the state after `run`. -/
def State.command (s : State) (taken : Bool) (run : State → State) (data : State → List Byte) : State :=
  if s.station == .start then s
  else if s.life.storing.isSome then s.respond .busy []
  else if taken then (run s).respond .ok (data s)
  else s.respond .refusedState []

/-- A command that reports nothing. -/
def noData (_ : State) : List Byte := []

/-- A command that reports and changes nothing (R193). -/
def State.report (s : State) (taken : Bool) (data : State → List Byte) : State := s.command taken id data

/-! ## Reads (R193) -/

/-- The host copies are cleared as they are reported (R184). -/
def State.clearCopies (s : State) : State := { s with lnu := { s.lnu with ejectorCopy := false, acCopy := false } }

def execReadStatus (s : State) : Host.Outcome State Fault Refusal :=
  .next (s.command true State.clearCopies State.statusBytes)

/-- An address argument, clamped into 0 to 31 (R191). -/
def addrArg (b : Byte) : Addr := addrOf (min 31 b.toNat)

def execReadEntry (address : Byte) (s : State) : Host.Outcome State Fault Refusal :=
  .next (s.report true (fun t => t.entryBytes (addrArg address)))

def execReadTally (s : State) : Host.Outcome State Fault Refusal := .next (s.report true State.tallyBytes)

def execReadChannel (channel : Byte) (s : State) : Host.Outcome State Fault Refusal :=
  .next (s.report true (fun t => t.channelBytes (min 7 channel.toNat)))

def execReadFans (s : State) : Host.Outcome State Fault Refusal := .next (s.report s.isFan State.fansBytes)

def execReadLanes (uplink : Byte) (s : State) : Host.Outcome State Fault Refusal :=
  .next (s.report true (fun t => t.lanesBytes (addrArg uplink)))

/-! ## NEXT_EVENT (R197) -/

/-- The oldest event leaves, and losses are queued into its place. -/
def Lpt.next (p : Lpt) : Lpt :=
  match p.events with
  | [] => p
  | _ :: rest =>
    if p.overflow == 0 then { p with events := rest }
    else { p with events := rest ++ [.eventOverflow p.overflow], overflow := 0 }

def State.nextEvent (s : State) : State := { s with lpt := s.lpt.next }

def execNextEvent (s : State) : Host.Outcome State Fault Refusal :=
  .next (s.command true State.nextEvent (fun t => eventBytes t.lpt.events))

/-! ## Power and presence (R194) -/

/-- The host target of a SET_POWER level; a code above 2 is FULL (R191). -/
def hostTargetOf (level : Byte) : HostTarget :=
  match level.toNat with
  | 0 => .off
  | 1 => .reduced
  | _ => .full

/-- R96: OFF passes a stop without grace; T is recomposed. -/
def State.takeSetPower (s : State) (target : HostTarget) : State :=
  let t := s.newEvent
  let t := { t with client := { t.client with hostTarget := target } }
  (if target == .off then t.stopRailsNow else t).react s.cen .none s

def execSetPower (level : Byte) (s : State) : Host.Outcome State Fault Refusal :=
  .next (s.command (s.isBlade && s.station.acting) (fun t => t.takeSetPower (hostTargetOf level)) noData)

/-- R106. -/
def execStopReady (s : State) : Host.Outcome State Fault Refusal :=
  .next (s.command (s.isBlade && s.rsq.state == .stopWait) (fun t => t.enterStopping 2) noData)

/-- R59. -/
def execLeave (s : State) : Host.Outcome State Fault Refusal :=
  .next (s.command (s.station == .joined) (fun t => t.newEvent.enterLeaving .host) noData)

/-! ## Lanes, queries, sweeps (R195) -/

/-- R172, R174. -/
def State.takeSetLanes (s : State) (n : Nat) : State :=
  State.evalLaneClient
    { s with client := { s.client with lanesWanted := n,
                                       unavailableReported := s.client.unavailableReported && n != 0 } }

def execSetLanes (count : Byte) (s : State) : Host.Outcome State Fault Refusal :=
  .next (s.command (s.isBlade && s.station.running) (fun t => t.newEvent.takeSetLanes (min 4 count.toNat)) noData)

def execSendQuery (address : Byte) (s : State) : Host.Outcome State Fault Refusal :=
  .next (s.command (s.station == .joined || s.station == .leaving)
    (fun t => t.newEvent.request (.query (addrArg address))) noData)

/-- R116. -/
def execSweepNow (s : State) : Host.Outcome State Fault Refusal :=
  .next (s.command s.station.running State.requestSweep noData)

/-! ## The boot image over the port (R196) -/

/-- The boot image as it stands. -/
def State.image (s : State) : BootImage := s.life.image.getD BootImage.defaults

def State.inSetup (s : State) : Bool := s.station == .setup

def execReadSetup (field index : Byte) (s : State) : Host.Outcome State Fault Refusal :=
  .next (s.report s.inSetup (fun t => setupBytes t.image (fieldOf field) (indexOf (fieldOf field) index)))

/-- A value is written into the image, in the field's own range (R51, R196). -/
def State.writeField (s : State) (f i : Nat) (v : Int) : State :=
  s.updLife (fun l => { l with image := some (s.image.put f i (ownRange f v)) })

def execWriteSetup (field index : Byte) (value : BitVec 32) (s : State) : Host.Outcome State Fault Refusal :=
  .next (s.command s.inSetup
    (fun t => t.writeField (fieldOf field) (indexOf (fieldOf field) index) value.toInt) noData)

/-- R53: the response is built after the passage. -/
def execCommitSetup (s : State) : Host.Outcome State Fault Refusal :=
  .next (s.command s.inSetup (fun t => t.newEvent.commitImage t.image) noData)

/-- R52. -/
def State.beginStore (s : State) : State := s.updLife (fun l => { l with storing := some s.image.toRecord })

def execStoreSetup (s : State) : Host.Outcome State Fault Refusal :=
  .next (s.command s.inSetup State.beginStore noData)

/-! ## RESTART and commands that the port does not know -/

/-- R195: a warm restart, which leaves no response; BUSY while a store is in flight (R191). -/
def execRestart (straps : Straps) (s : State) : Host.Outcome State Fault Refusal :=
  .next (if s.station == .start then s
    else if s.life.storing.isSome then s.respond .busy []
    else s.warmRestart straps)

/-- R191: BUSY, and otherwise UNKNOWN. -/
def execUnknownCommand (_command : Byte) (_arguments : List Byte) (s : State) : Host.Outcome State Fault Refusal :=
  .next (if s.station == .start then s
    else if s.life.storing.isSome then s.respond .busy []
    else s.respond .unknown [])

/-! ## What the host reads (R190) -/

/-- The port address at which the part answers (R190, R51). -/
def State.portAddress (s : State) : Option Nat := if s.station == .start then none else some s.cfg.portAddress

def PortStatus.code : PortStatus → Nat
  | .ok => 0 | .refusedState => 1 | .busy => 2 | .unknown => 3

/-- The first n bytes of a read transaction: status, length, data, then zeros; none where the part does not acknowledge
(R190). -/
def State.readTransaction (s : State) (n : Nat) : Option (List Byte) :=
  if s.station == .start then none
  else s.lpt.response.map (fun r =>
    (byteOf r.status.code :: byteOf r.data.length :: r.data ++ List.replicate n 0).take n)

end Sys2Proof.Machine
end

