-- ==== Sys2Proof/Machine/ExecRails.lean ====
section
/-! DEFINITION. The Rail Sequencer's events: PG_FOUND_GOOD, PG_LOSS, STAGGER_EXPIRY, STEP_ONE_SHOT_EXPIRY,
PG_TIMEOUT_EXPIRY, GRACE_EXPIRY, STEP_OFF_DELAY_EXPIRY, CRITICAL_PERSISTENCE_EXPIRY. -/

namespace Sys2Proof.Machine

/-! ## Power-good returns (R102, R103, R183) -/

/-- PG_k becomes good while its timeout runs: the step passes on. -/
def State.pgGoodTaken (s : State) (k : Nat) : State :=
  if s.rsq.state == .ramp k && s.rsq.pgTimeout.running then s.passOn k else s

def execPgFoundGood (k : Nat) (s : State) : Host.Outcome State Fault Refusal :=
  .next (if s.isBlade && decide (k < 3) then (s.debounce (k + 2) pgSamples true).pgGoodTaken k else s)

/-- The steps that the sequencer watches (R103). -/
def RailState.watches (t : RailState) (k : Nat) : Bool :=
  match t with
  | .ramp j => decide (k < j)
  | .on | .stopWait => true
  | .off | .stagger | .stopping _ | .fault => false

/-- A watched return is lost (R103, R108). -/
def State.pgLostTaken (s : State) (k : Nat) : State :=
  ((s.raise (.pgLost k)).enterFault).react s.cen .none s

/-- Whether the loss of PG_k is a PG loss: it was good, its step is watched, and the station is past START. -/
def State.pgWatched (s : State) (k : Nat) : Bool := s.pgGood k && s.rsq.state.watches k && s.station != .start

def execPgLoss (k : Nat) (s : State) : Host.Outcome State Fault Refusal :=
  .next (if s.isBlade && decide (k < 3) then
    let t := s.newEvent.debounce (k + 2) pgSamples false
    if s.pgWatched k then t.pgLostTaken k else t
  else s)

/-! ## Timers (R101, R102, R106, R107) -/

def execStaggerExpiry (s : State) : Host.Outcome State Fault Refusal :=
  .next (if s.rsq.state == .stagger && s.rsq.stagger.running then s.enterRamp 0 else s)

/-- The PG timeout of step k starts. -/
def State.startPgTimeout (s : State) (k : Nat) : State :=
  { s with rsq := { s.rsq with oneShot := none, pgTimeout := some (s.cfg.pgTimeout k) } }

/-- The step one-shot ends: PG_k is looked at. -/
def State.endOneShot (s : State) : State :=
  match s.rsq.state with
  | .ramp k => if s.pgGood k then s.passOn k else s.startPgTimeout k
  | _ => s

def execStepOneShotExpiry (s : State) : Host.Outcome State Fault Refusal :=
  .next (if s.rsq.oneShot.running then s.endOneShot else s)

/-- The PG timeout ends: SEQUENCE_FAULT and FAULT (R102, R108). -/
def State.endPgTimeout (s : State) : State :=
  match s.rsq.state with
  | .ramp k => ((s.newEvent.raise (.sequenceFault k)).enterFault).react s.cen .none s
  | _ => s

def execPgTimeoutExpiry (s : State) : Host.Outcome State Fault Refusal :=
  .next (if s.rsq.pgTimeout.running then s.endPgTimeout else s)

def execGraceExpiry (s : State) : Host.Outcome State Fault Refusal :=
  .next (if s.rsq.state == .stopWait && s.rsq.grace.running then s.enterStopping 2 else s)

/-- A step-off delay ends: the next enable drops, or OFF is entered and the blade evaluated (R107). -/
def State.endStepOff (s : State) : State :=
  match s.rsq.state with
  | .stopping k => (s.newEvent.stepDown k).react s.cen .none s
  | _ => s

def execStepOffDelayExpiry (s : State) : Host.Outcome State Fault Refusal :=
  .next (if s.rsq.stepOff.running then s.endStepOff else s)

/-! ## Overtemperature (R109) -/

/-- The stop acts on the sequencer; in PARKED and LISTEN it will empty the held level at OFF (R111). -/
def State.overtempStops (s : State) : State :=
  let t := s.stopRails .overtemp
  if s.station.acting then t else t.armClear

/-- The overtemperature stop comes into force. -/
def State.overtempBegins (s : State) : State :=
  State.raise { s with client := { s.client with criticalTimer := none, overtemp := true } } .overtempStop

def execCriticalPersistenceExpiry (s : State) : Host.Outcome State Fault Refusal :=
  .next (if s.client.criticalTimer.running then (s.newEvent.overtempBegins.overtempStops).react s.cen .none s else s)

end Sys2Proof.Machine
end

