-- ==== Sys2Proof/Machine/Dispatch.lean ====
section
/-! DEFINITION. The meaning of every command. -/

namespace Sys2Proof.Machine

def exec (i : Instr) (s : State) : Host.Outcome State Fault Refusal :=
  match i with
  | .powerOnStart straps => Sys2Proof.Machine.execPowerOnStart straps s
  | .warmRestart straps => Sys2Proof.Machine.execWarmRestart straps s
  | .bootReadComplete record => Sys2Proof.Machine.execBootReadComplete record s
  | .bootReadFault => Sys2Proof.Machine.execBootReadFault s
  | .frameStart line => Sys2Proof.Machine.execFrameStart line s
  | .frameVetoed frame => Sys2Proof.Machine.execFrameVetoed frame s
  | .capacityDropAccepted sender subject value check => Sys2Proof.Machine.execCapacityDropAccepted sender subject value check s
  | .airflowDropAccepted sender subject value check => Sys2Proof.Machine.execAirflowDropAccepted sender subject value check s
  | .lanesDropAccepted sender subject value check => Sys2Proof.Machine.execLanesDropAccepted sender subject value check s
  | .powerClaimAccepted sender level check => Sys2Proof.Machine.execPowerClaimAccepted sender level check s
  | .powerReleaseAccepted sender level check => Sys2Proof.Machine.execPowerReleaseAccepted sender level check s
  | .departAccepted sender reason check => Sys2Proof.Machine.execDepartAccepted sender reason check s
  | .laneClaimAccepted sender uplink count check => Sys2Proof.Machine.execLaneClaimAccepted sender uplink count check s
  | .laneReleaseAccepted sender uplink check => Sys2Proof.Machine.execLaneReleaseAccepted sender uplink check s
  | .heatAccepted sender zone demand check => Sys2Proof.Machine.execHeatAccepted sender zone demand check s
  | .announceAccepted sender payload check => Sys2Proof.Machine.execAnnounceAccepted sender payload check s
  | .inventoryAccepted sender segment rest check => Sys2Proof.Machine.execInventoryAccepted sender segment rest check s
  | .queryAccepted sender target check => Sys2Proof.Machine.execQueryAccepted sender target check s
  | .silenceExpiry address => Sys2Proof.Machine.execSilenceExpiry address s
  | .staleHoldExpiry address => Sys2Proof.Machine.execStaleHoldExpiry address s
  | .queryQuietExpiry address => Sys2Proof.Machine.execQueryQuietExpiry address s
  | .announceTimerExpiry => Sys2Proof.Machine.execAnnounceTimerExpiry s
  | .listenTimerExpiry => Sys2Proof.Machine.execListenTimerExpiry s
  | .seatedChange level => Sys2Proof.Machine.execSeatedChange level s
  | .ejectorChange isOpen => Sys2Proof.Machine.execEjectorChange isOpen s
  | .ejectorLatchSet => Sys2Proof.Machine.execEjectorLatchSet s
  | .bumpWindowExpiry => Sys2Proof.Machine.execBumpWindowExpiry s
  | .pgFoundGood step => Sys2Proof.Machine.execPgFoundGood step s
  | .pgLoss step => Sys2Proof.Machine.execPgLoss step s
  | .staggerExpiry => Sys2Proof.Machine.execStaggerExpiry s
  | .stepOneShotExpiry => Sys2Proof.Machine.execStepOneShotExpiry s
  | .pgTimeoutExpiry => Sys2Proof.Machine.execPgTimeoutExpiry s
  | .graceExpiry => Sys2Proof.Machine.execGraceExpiry s
  | .stepOffDelayExpiry => Sys2Proof.Machine.execStepOffDelayExpiry s
  | .criticalPersistenceExpiry => Sys2Proof.Machine.execCriticalPersistenceExpiry s
  | .sweepIntervalExpiry => Sys2Proof.Machine.execSweepIntervalExpiry s
  | .conversionCompletion raw => Sys2Proof.Machine.execConversionCompletion raw s
  | .acWarnLatchSet => Sys2Proof.Machine.execAcWarnLatchSet s
  | .recoveryTimerExpiry => Sys2Proof.Machine.execRecoveryTimerExpiry s
  | .gateEnd => Sys2Proof.Machine.execGateEnd s
  | .fanPresentChange channel present => Sys2Proof.Machine.execFanPresentChange channel present s
  | .pwmWrap => Sys2Proof.Machine.execPwmWrap s
  | .gpiChange pin level => Sys2Proof.Machine.execGpiChange pin level s
  | .blinkPhaseChange => Sys2Proof.Machine.execBlinkPhaseChange s
  | .shiftEnd mapDi => Sys2Proof.Machine.execShiftEnd mapDi s
  | .setupStoreEnd readBack => Sys2Proof.Machine.execSetupStoreEnd readBack s
  | .readStatus => Sys2Proof.Machine.execReadStatus s
  | .readEntry address => Sys2Proof.Machine.execReadEntry address s
  | .readTally => Sys2Proof.Machine.execReadTally s
  | .readChannel channel => Sys2Proof.Machine.execReadChannel channel s
  | .readFans => Sys2Proof.Machine.execReadFans s
  | .readLanes uplink => Sys2Proof.Machine.execReadLanes uplink s
  | .nextEvent => Sys2Proof.Machine.execNextEvent s
  | .setPower level => Sys2Proof.Machine.execSetPower level s
  | .stopReady => Sys2Proof.Machine.execStopReady s
  | .leave => Sys2Proof.Machine.execLeave s
  | .setLanes count => Sys2Proof.Machine.execSetLanes count s
  | .sendQuery address => Sys2Proof.Machine.execSendQuery address s
  | .sweepNow => Sys2Proof.Machine.execSweepNow s
  | .readSetup field index => Sys2Proof.Machine.execReadSetup field index s
  | .writeSetup field index value => Sys2Proof.Machine.execWriteSetup field index value s
  | .commitSetup => Sys2Proof.Machine.execCommitSetup s
  | .storeSetup => Sys2Proof.Machine.execStoreSetup s
  | .restart straps => Sys2Proof.Machine.execRestart straps s
  | .unknownCommand command arguments => Sys2Proof.Machine.execUnknownCommand command arguments s
  | .lineSynchronised => Sys2Proof.Machine.execLineSynchronised s
  | .tachEdge channel => Sys2Proof.Machine.execTachEdge channel s

end Sys2Proof.Machine
end

