-- ==== Sys2Proof/Machine/Step.lean ====
section
/-! DEFINITION. A step: the command at the front of the queue, or one millisecond of time on an empty queue (log 5). -/

namespace Sys2Proof.Machine

/-! ## One millisecond -/

def Entry.run (e : Entry) : Entry :=
  { e with silence := e.silence.run, staleHold := e.staleHold.run, quiet := e.quiet.run }

def Census.run (c : Census) : Census := { c.updAll Entry.run with announceTimer := c.announceTimer.run }

def Life.run (l : Life) : Life := { l with listenTimer := l.listenTimer.run, bumpTimer := l.bumpTimer.run }

def Rsq.run (r : Rsq) : Rsq :=
  { r with stagger := r.stagger.run, oneShot := r.oneShot.run, pgTimeout := r.pgTimeout.run, grace := r.grace.run,
           stepOff := r.stepOff.run }

/-- Every running timer loses a millisecond and waits at 0 for its expiry; the PWM counter runs (log 5). -/
def State.tick (s : State) : State :=
  { s with
    life := s.life.run, cen := s.cen.run,
    client := { s.client with criticalTimer := s.client.criticalTimer.run },
    rsq := s.rsq.run,
    msu := { s.msu with interval := s.msu.interval.run },
    fdu := { s.fdu.runPwm with gate := s.fdu.gate.run },
    spm := { s.spm with recovery := s.spm.recovery.run },
    lnu := { s.lnu with blinkTimer := s.lnu.blinkTimer.run } }

/-! ## The step -/

/-- The command at the front of the queue is taken; an empty queue lets a millisecond pass. -/
def step (s : State) : Host.Outcome State Fault Refusal :=
  match s.pending with
  | [] => .next s.tick
  | c :: rest => exec c { s with pending := rest }

/-- The command that a word spells, put at the front of the queue; s where it spells none. -/
def State.withFetchWord (s : State) (nbits w : Nat) : State :=
  match decodeTableWord nbits w with
  | some c => { s with pending := c :: s.pending }
  | none => s

end Sys2Proof.Machine
end

