-- ==== Sys2Proof/Machine/Flags.lean ====
section
/-! DEFINITION. Signals and outputs, computed from the state that they follow (log 9): THROTTLE (R99), the combiners'
signals (R187), the indicator (R188, R189), the sixteen outputs (R186) and the attention line (R198). -/

namespace Sys2Proof.Machine

/-- The RSQ states in which THROTTLE may be asserted (R99). -/
def RailState.throttles : RailState → Bool
  | .ramp _ | .on | .stopWait => true
  | .off | .stagger | .stopping _ | .fault => false

/-- THROTTLE, in the states in which the client composes its target (R94, R99); THROTTLE_REQ is the same (R187, log 52). -/
def State.throttle (s : State) : Bool :=
  s.isBlade && s.station.acting && s.rsq.state.throttles &&
  (decide (s.self.held < s.cfg.fullLevel) || decide (s.client.target < s.self.held))

/-- The pin of GPI0 by role (R181); none on a FAN. -/
def firstGpi : Role → Option Nat
  | .blade => some 5
  | .fan => none
  | .supply => some 3
  | .uplink => some 2

/-- GPI n as the combiners see it; GPI0 to GPI4 are offered (R181, R187). -/
def State.gpi (s : State) (n : Nat) : Bool :=
  match firstGpi s.role with
  | some first => decide (first + n < Config.inputs) && (s.input (first + n)).isYes
  | none => false

/-- The airflow that the station acts on or reports. -/
def State.airflowIs (s : State) (v : Airflow) : Bool :=
  (s.isBlade && s.client.zoneAirflow == v) || (s.isFan && s.fdu.airflow == v)

/-- LANES_UP (R175). -/
def State.lanesUp (s : State) : Bool :=
  (s.isBlade && s.ownHolding.isSome) || (s.isUplink && decide (0 < s.self.offer))

/-- FAN_FAILED_ANY: a configured channel holds a failure mark. -/
def State.fanFailedAny (s : State) : Bool :=
  s.isFan && (List.range s.cfg.fanCount).any (fun k => (s.fdu.channel k).failureMark)

/-- The signal of a code 1 to 20 (R187); false for every other code. -/
def State.signal (s : State) : Nat → Bool
  | 1 => s.seated
  | 2 => s.ejectorOpen
  | 3 => s.station == .joined
  | 4 => s.station == .mute
  | 5 => s.isBlade && s.rsq.state == .on
  | 6 => s.throttle
  | 7 => s.isBlade && s.rsq.state == .stopWait
  | 8 => s.lanesUp
  | 9 => s.airflowIs .degraded
  | 10 => s.airflowIs .lost
  | 11 => s.anyChannel (fun c => c.level != .clear)
  | 12 => s.anyChannel (fun c => c.level == .critical)
  | 13 => s.fanFailedAny
  | 14 => s.isSupply && (s.spm.state == .ok || s.spm.state == .derated)
  | 15 => s.cen.deficit
  | 16 => s.gpi 0
  | 17 => s.gpi 1
  | 18 => s.gpi 2
  | 19 => s.gpi 3
  | 20 => s.gpi 4
  | _ => false

/-- The signals that a combiner names; a code above 20 in an unclamped image reads as 20 (log 37). -/
def State.named (s : State) (n : Nat) : List Bool :=
  ((List.range 4).map (fun i => min 20 (s.cfg.nat 52 (n * 4 + i)))).filterMap
    (fun code => if code == 0 then none else some (s.signal code))

/-- A combiner before inversion: OR or AND; false where no signal is named (R187). -/
def combine (conjunction : Bool) (signals : List Bool) : Bool :=
  if signals.isEmpty then false else if conjunction then signals.all id else signals.any id

/-- The output of combiner n (R187). -/
def State.combiner (s : State) (n : Nat) : Bool := combine (s.cfg.flag 50 n) (s.named n) != s.cfg.flag 51 n

/-- The conditions of the indicator codes, highest first (R188). -/
def State.indicatorConditions (s : State) : List (Nat × Bool) :=
  let joined := s.station == .joined
  [(15, s.isUplink && s.lmp.crossbar == .fault),
   (14, s.anyChannel (fun c => c.status == .faulted)),
   (13, (s.isBlade && s.station.acting && s.client.zoneAirflow == .lost) ||
        (s.isFan && s.fdu.airflow == .lost && (s.fdu.mode == .drive || s.fdu.mode == .mute))),
   (12, s.cen.deficit),
   (11, s.isBlade && s.rsq.state == .fault),
   (10, s.station == .mute),
   (9, s.station == .leaving),
   (8, s.isBlade && s.rsq.state == .stopWait),
   (7, joined && s.isBlade && s.throttle),
   (6, joined && decide (0 < s.self.held)),
   (5, joined && s.self.claim.isSome),
   (4, joined),
   (3, s.station == .listen),
   (2, s.station == .parked),
   (1, s.station == .setup)]

/-- The indicator code: the highest whose condition holds (R188). -/
def State.indicatorCode (s : State) : Nat :=
  match s.indicatorConditions.find? (fun p => p.2) with
  | some p => p.1
  | none => 0

/-- Indicator bit j (R189). -/
def State.indicatorBit (s : State) (j : Nat) : Bool :=
  let pattern := (s.cfg.nat 53 s.indicatorCode).testBit j
  let mask := (s.cfg.nat 54 s.indicatorCode).testBit j
  pattern != (mask && s.lnu.blinkSecond)

/-- The source of a configured output: constants, combiners, indicator bits; a value outside 0 to 13 is constant 0
(R186). -/
def State.source (s : State) (n : Nat) : Bool :=
  if n == 1 then true
  else if decide (2 ≤ n) && decide (n ≤ 5) then s.combiner (n - 2)
  else if decide (6 ≤ n) && decide (n ≤ 13) then s.indicatorBit (n - 6)
  else false

/-- The outputs that a role fixes (R186). -/
def State.fixedOutput (s : State) (n : Nat) : Option Bool :=
  match s.role, n with
  | .blade, 0 => some (s.rsq.enable 0)
  | .blade, 1 => some (s.rsq.enable 1)
  | .blade, 2 => some (s.rsq.enable 2)
  | .blade, 3 => some s.throttle
  | .supply, 0 => some s.spm.outEn
  | .uplink, 0 => some s.lmp.xbarEn
  | _, _ => none

/-- Whether output n is asserted (R186). -/
def State.output (s : State) (n : Nat) : Bool :=
  match s.fixedOutput n with
  | some b => b
  | none => s.station != .start && s.source (s.cfg.nat 49 n)

/-- The attention line (R198). -/
def State.attention (s : State) : Bool := !s.lpt.events.isEmpty

end Sys2Proof.Machine
end

