-- ==== Sys2Proof/Machine/PortTable.lean ====
section
/-! DEFINITION. The command bytes of the local port, the argument bytes each takes, and the command that a write of the
host names (R190, R192). -/

namespace Sys2Proof.Machine

/-- (command byte, argument bytes), as the table of R192 lists them. -/
def portTable : List (Nat × Nat) :=
  [(0x01, 0), (0x02, 1), (0x03, 0), (0x04, 1), (0x05, 0), (0x06, 1), (0x07, 0)] ++
  [(0x10, 1), (0x11, 0), (0x12, 0), (0x13, 1), (0x14, 1), (0x15, 0)] ++
  [(0x20, 2), (0x21, 6), (0x22, 0), (0x23, 0), (0x30, 0)]

/-- Whether a write of this command byte with this number of argument bytes names a command of the port (R192). -/
def portKnows (command : Byte) (arguments : List Byte) : Bool :=
  portTable.contains (command.toNat, arguments.length)

/-- A four-byte value, most significant byte first. -/
def word32 (b3 b2 b1 b0 : Byte) : BitVec 32 :=
  BitVec.ofNat 32 (b3.toNat * 16777216 + b2.toNat * 65536 + b1.toNat * 256 + b0.toNat)

/-- The commands without arguments, by command byte. The straps are those that a RESTART samples. -/
def bareCommands (straps : Straps) : List (Nat × Instr) :=
  [(0x01, .readStatus), (0x03, .readTally), (0x05, .readFans), (0x07, .nextEvent), (0x11, .stopReady), (0x12, .leave),
   (0x15, .sweepNow), (0x22, .commitSetup), (0x23, .storeSetup), (0x30, .restart straps)]

/-- The commands with one argument byte, by command byte. -/
def byteCommands (x : Byte) : List (Nat × Instr) :=
  [(0x02, .readEntry x), (0x04, .readChannel x), (0x06, .readLanes x), (0x10, .setPower x), (0x13, .setLanes x),
   (0x14, .sendQuery x)]

/-- The command that a command byte and its argument bytes name. -/
def portNamed (straps : Straps) (command : Byte) (arguments : List Byte) : Option Instr :=
  match arguments with
  | [] => (bareCommands straps).lookup command.toNat
  | [x] => (byteCommands x).lookup command.toNat
  | [field, index] => if command == 0x20 then some (.readSetup field index) else none
  | [field, index, b3, b2, b1, b0] =>
    if command == 0x21 then some (.writeSetup field index (word32 b3 b2 b1 b0)) else none
  | _ => none

/-- The command of a command byte and its argument bytes; one that they do not name is unknown (R191). -/
def portCommand (straps : Straps) (command : Byte) (arguments : List Byte) : Instr :=
  (portNamed straps command arguments).getD (.unknownCommand command arguments)

/-- The command of a write transaction, whose bytes follow the address; a write without one is no command (R190). -/
def portWrite (straps : Straps) : List Byte → Option Instr
  | [] => none
  | command :: arguments => some (portCommand straps command arguments)

end Sys2Proof.Machine
end

