-- ==== Sys2Proof/WellFormed.lean ====
section
/-! DEFINITION. Which terms of Instr are commands that the surroundings can give: operands of the length and range that
the manual gives them. exec has a meaning for the others too (log 32). -/

namespace Sys2Proof

/-- The longest run of bits that a transmitter drives after its start mark: key, kind, length, 24 payload bytes and
check (section 1.2). -/
def Config.drivenBitsMax : Nat := 8 + 4 + 5 + 8 * 24 + 16

/-- Operands of the length and range that the manual gives them. -/
def Instr.wf : Instr → Bool
  | .bootReadComplete record => record.length == 512
  | .frameStart line => decide (line.length ≤ Config.drivenBitsMax)
  | .frameVetoed frame => frame.payload.length == frame.length.toNat
  | .announceAccepted _ payload _ => payload.length == 24
  | .inventoryAccepted _ _ rest _ => rest.length == 18
  | .pgFoundGood step => decide (step < 3)
  | .pgLoss step => decide (step < 3)
  | .fanPresentChange channel _ => decide (channel < Config.fans)
  | .gpiChange pin _ => decide (2 ≤ pin) && decide (pin < Config.inputs)
  | .tachEdge channel => decide (channel < Config.fans)
  | .setupStoreEnd (some bytes) => bytes.length == 512
  | .setupStoreEnd none => true
  | .shiftEnd mapDi => mapDi.length == 48
  | .unknownCommand command arguments => !Machine.portKnows command arguments
  | .powerOnStart _ => true
  | .warmRestart _ => true
  | .bootReadFault => true
  | .capacityDropAccepted _ _ _ _ => true
  | .airflowDropAccepted _ _ _ _ => true
  | .lanesDropAccepted _ _ _ _ => true
  | .powerClaimAccepted _ _ _ => true
  | .powerReleaseAccepted _ _ _ => true
  | .departAccepted _ _ _ => true
  | .laneClaimAccepted _ _ _ _ => true
  | .laneReleaseAccepted _ _ _ => true
  | .heatAccepted _ _ _ _ => true
  | .queryAccepted _ _ _ => true
  | .silenceExpiry _ => true
  | .staleHoldExpiry _ => true
  | .queryQuietExpiry _ => true
  | .announceTimerExpiry => true
  | .listenTimerExpiry => true
  | .seatedChange _ => true
  | .ejectorChange _ => true
  | .ejectorLatchSet => true
  | .bumpWindowExpiry => true
  | .staggerExpiry => true
  | .stepOneShotExpiry => true
  | .pgTimeoutExpiry => true
  | .graceExpiry => true
  | .stepOffDelayExpiry => true
  | .criticalPersistenceExpiry => true
  | .sweepIntervalExpiry => true
  | .conversionCompletion _ => true
  | .acWarnLatchSet => true
  | .recoveryTimerExpiry => true
  | .gateEnd => true
  | .pwmWrap => true
  | .blinkPhaseChange => true
  | .readStatus => true
  | .readEntry _ => true
  | .readTally => true
  | .readChannel _ => true
  | .readFans => true
  | .readLanes _ => true
  | .nextEvent => true
  | .setPower _ => true
  | .stopReady => true
  | .leave => true
  | .setLanes _ => true
  | .sendQuery _ => true
  | .sweepNow => true
  | .readSetup _ _ => true
  | .writeSetup _ _ _ => true
  | .commitSetup => true
  | .storeSetup => true
  | .restart _ => true
  | .lineSynchronised => true

end Sys2Proof
end

