-- ==== Sys2Proof/Safety.lean ====
section
/-! DEFINITION. What the statements about the machine speak of: the invariants, the kinds of command, and the
conditions under which a command is taken. -/

namespace Sys2Proof.Machine

/-! ## Invariants -/

/-- The fixed sizes of the part: census entries (R23), inputs (R181), channel records (R112), fan channels (R132), and
the owner slots of every lane table (R167). -/
abbrev State.shaped (s : State) : Prop :=
  s.cen.entries.length = Config.stations ∧ s.lnu.inputs.length = Config.inputs ∧
  s.msu.channels.length = Config.channels ∧ s.fdu.channels.length = Config.fans ∧
  ∀ e ∈ s.cen.entries, e.role = some .uplink → e.table.length = Config.lanes

/-- Every frame of the transmit queue stands in the slot of its kind, its follow-on too (section 1.5). -/
abbrev State.slotted (s : State) : Prop :=
  ∀ i f, s.slot i = some f → f.contents.slot = i ∧ ∀ r, f.followOn = some r → r.slot = i

/-- The queues and counters of the part within their limits: every frame in its own slot, the event queue and its overflow count (R197), the fault
score (R16), the receive counters (R21), the protocol anomalies (R23), the tach counts (R136) and the saturation count
(R140). -/
abbrev State.bounded (s : State) : Prop :=
  s.lpt.events.length ≤ Config.eventPlaces ∧ s.lpt.overflow ≤ Config.counterMax ∧
  s.pbc.faultScore ≤ Config.faultMax ∧ s.pbc.checkFailures ≤ Config.counterMax ∧
  s.pbc.vetoes ≤ Config.counterMax ∧ s.cen.anomalies ≤ Config.counterMax ∧
  (∀ c ∈ s.fdu.channels, c.tach ≤ Config.counterMax) ∧ s.fdu.saturation ≤ 8 ∧ s.slotted

/-- The lane tables of a census as R167 has them in any census: a station owns lanes only while its held level is above 0,
every lane numbered at or above the offer is free, a station owns lanes on one uplink only, and no uplink offers more than
8 lanes (R171). Beside it what these rest on: a lane claim belongs to a station that owns no lanes (R168), and a power claim
lies above the held level (R75). -/
def Census.lanesLawful (c : Census) : Prop :=
  (∀ u k a, (c.get u).table.getD k none = some a → 0 < (c.get a).held) ∧
  (∀ u k, (c.get u).offer ≤ k → (c.get u).table.getD k none = none) ∧
  (∀ u v k j a, (c.get u).table.getD k none = some a → (c.get v).table.getD j none = some a → u = v) ∧
  (∀ u, (c.get u).offer ≤ Config.lanes) ∧
  (∀ a q, (c.get a).laneClaim = some q → ∀ u k, (c.get u).table.getD k none ≠ some a) ∧
  (∀ a x, (c.get a).claim = some x → (c.get a).held < x)

/-- The lane tables are lawful, and in START and SETUP every entry is VACANT (R45, R47). -/
def State.lanesLawful (s : State) : Prop :=
  s.cen.lanesLawful ∧ ((s.station = .start ∨ s.station = .setup) → ∀ a, s.entry a = Entry.vacant)

end Sys2Proof.Machine

namespace Sys2Proof

open Machine

/-! ## Kinds of command -/

/-- The commands of the local port (R192), with the one that names none (R191). -/
def Instr.ofPort : Instr → Bool
  | .readStatus => true
  | .readEntry _ => true
  | .readTally => true
  | .readChannel _ => true
  | .readFans => true
  | .readLanes _ => true
  | .nextEvent => true
  | .setPower _ => true
  | .stopReady => true
  | .leave => true
  | .setLanes _ => true
  | .sendQuery _ => true
  | .sweepNow => true
  | .readSetup _ _ => true
  | .writeSetup _ _ _ => true
  | .commitSetup => true
  | .storeSetup => true
  | .restart _ => true
  | .unknownCommand _ _ => true
  | _ => false

/-- The table of section 11.2: whether a command of the port is refused with REFUSED_STATE in a state past START. -/
def Instr.refusedIn (s : State) : Instr → Bool
  | .readFans => s.role != .fan
  | .setPower _ => s.role != .blade || !(s.station == .joined || s.station == .leaving || s.station == .mute)
  | .stopReady => s.role != .blade || s.rsq.state != .stopWait
  | .leave => s.station != .joined
  | .setLanes _ => s.role != .blade || s.station == .setup
  | .sendQuery _ => !(s.station == .joined || s.station == .leaving)
  | .sweepNow => s.station == .setup
  | .readSetup _ _ => s.station != .setup
  | .writeSetup _ _ _ => s.station != .setup
  | .commitSetup => s.station != .setup
  | .storeSetup => s.station != .setup
  | _ => false

/-- The two kinds of reset (R68, R69), RESTART among them (R195). -/
def Instr.resets : Instr → Bool
  | .powerOnStart _ => true
  | .warmRestart _ => true
  | .restart _ => true
  | _ => false

/-- The commands that may end START or SETUP (R47, R48, R53). -/
def Instr.boots : Instr → Bool
  | .bootReadComplete _ => true
  | .bootReadFault => true
  | .commitSetup => true
  | _ => false

/-- The commands that act on the Measurement Unit, resets and boot aside (R114 to R117). -/
def Instr.measures : Instr → Bool
  | .conversionCompletion _ => true
  | .sweepIntervalExpiry => true
  | .sweepNow => true
  | _ => false

/-- The commands that act on inputs, latches, host copies or the blink phase, resets and boot aside (R182 to R189). -/
def Instr.ofLines : Instr → Bool
  | .readStatus => true
  | .seatedChange _ => true
  | .ejectorChange _ => true
  | .ejectorLatchSet => true
  | .pgFoundGood _ => true
  | .pgLoss _ => true
  | .acWarnLatchSet => true
  | .fanPresentChange _ _ => true
  | .gpiChange _ _ => true
  | .blinkPhaseChange => true
  | _ => false

/-- The sender, the payload and the check bits of a command that hands over an accepted frame. -/
def Instr.acceptedFrame : Instr → Option (Addr × Payload × Half)
  | .capacityDropAccepted a subject value check => some (a, .alert 1 subject value, check)
  | .airflowDropAccepted a subject value check => some (a, .alert 2 subject value, check)
  | .lanesDropAccepted a subject value check => some (a, .alert 3 subject value, check)
  | .powerClaimAccepted a level check => some (a, .powerClaim level, check)
  | .powerReleaseAccepted a level check => some (a, .powerRelease level, check)
  | .departAccepted a reason check => some (a, .depart reason, check)
  | .laneClaimAccepted a uplink count check => some (a, .laneClaim uplink count, check)
  | .laneReleaseAccepted a uplink check => some (a, .laneRelease uplink, check)
  | .heatAccepted a zone demand check => some (a, .heat zone demand, check)
  | .announceAccepted a payload check => some (a, .announce payload, check)
  | .inventoryAccepted a segment rest check => some (a, .inventory segment rest, check)
  | .queryAccepted a target check => some (a, .query target, check)
  | _ => none

end Sys2Proof

namespace Sys2Proof.Machine

/-! ## Conditions under which a command is taken -/

/-- A command of the port is taken and answered otherwise than BUSY: past START, with no store in flight (R190, R191). -/
abbrev State.portFree (s : State) : Prop := s.station ≠ .start ∧ s.life.storing = none

/-- A reset that is carried out: either kind, or RESTART where the port takes it (R68, R69, R195). -/
abbrev restarts (i : Instr) (straps : Straps) (s : State) : Prop :=
  i = .powerOnStart straps ∨ i = .warmRestart straps ∨ (i = .restart straps ∧ s.portFree)

/-- A warm restart of either origin that is carried out (R69, R195). -/
abbrev warmRestarts (i : Instr) (straps : Straps) (s : State) : Prop :=
  i = .warmRestart straps ∨ (i = .restart straps ∧ s.portFree)

/-- An accepted frame of another station reaches this station's census: the station follows the line in a state in which
it hears, and the frame passes its check here (R1, R2, R9, R11, R19). -/
abbrev State.hears (s : State) (a : Addr) (p : Payload) (check : Half) : Prop :=
  s.pbc.synced = true ∧ (s.station = .listen ∨ s.station = .joined ∨ s.station = .leaving ∨ s.station = .mute) ∧
  a ≠ s.addr ∧ check = checkOf a p

/-- The leaving sequence came to its end between two states, so the station has left LEAVING (R64). -/
abbrev leftLeaving (s t : State) : Prop := s.station = .leaving ∧ t.station ≠ .leaving

/-- The station is in PARKED, or has gone on from it because the join condition held (R54, R55, R56). -/
abbrev State.passedIntoParked (t : State) : Prop := t.station = .parked ∨ t.station = .listen ∨ t.station = .mute

/-- The state whose response buffer alone has changed, to this status and data (R190). -/
def State.answered (s : State) (status : PortStatus) (data : List Byte) : State :=
  { s with lpt := { s.lpt with response := some { status := status, data := data } } }

/-- The state in which a debounced input has taken this record and nothing else has come of it but the stamp that a
command which may queue takes (R182, log 29). -/
def State.inputTaken (s : State) (pin : Nat) (x : Input) : State :=
  { s with pbc := { s.pbc with stamp := s.pbc.stamp + 1 },
           lnu := { s.lnu with inputs := s.lnu.inputs.set pin x } }

/-- The response of a command answered OK that reports nothing (R192). -/
def okResponse : Option Response := some { status := .ok, data := [] }

end Sys2Proof.Machine
end

