-- ==== Sys2Proof/Certificates/Slice0/Obligations.lean ====
section
/-! DEFINITION. The statements for the provers. A statement that rests on a choice of the model names its log entry. -/

open Sys2Proof Sys2Proof.Machine

/-! ## The queue of commands and the passing of time -/

/-- A step takes the command at the front of the queue and runs it on the state with the queue's rest. -/
def Obligations.StepRunsFrontCommand : Prop :=
  ∀ (s : State) (c : Instr) (rest : List Instr), s.pending = c :: rest → step s = exec c { s with pending := rest }

/-- On an empty queue a millisecond passes (the model's choice, log 5): every running timer loses one, a timer at 0 waits,
the PWM counter runs on modulo its period with the shadows that a wrap loads, and nothing else moves. -/
def Obligations.EmptyQueueStepIsOneMillisecond : Prop :=
  ∀ s : State, s.pending = [] → ∃ f : Fdu,
    step s = .next { s with
      life := { s.life with listenTimer := s.life.listenTimer.map (· - 1), bumpTimer := s.life.bumpTimer.map (· - 1) },
      cen := { s.cen with
        announceTimer := s.cen.announceTimer.map (· - 1),
        entries := s.cen.entries.map (fun e =>
          { e with silence := e.silence.map (· - 1), staleHold := e.staleHold.map (· - 1),
                   quiet := e.quiet.map (· - 1) }) },
      client := { s.client with criticalTimer := s.client.criticalTimer.map (· - 1) },
      rsq := { s.rsq with stagger := s.rsq.stagger.map (· - 1), oneShot := s.rsq.oneShot.map (· - 1),
                          pgTimeout := s.rsq.pgTimeout.map (· - 1), grace := s.rsq.grace.map (· - 1),
                          stepOff := s.rsq.stepOff.map (· - 1) },
      msu := { s.msu with interval := s.msu.interval.map (· - 1) },
      fdu := f,
      spm := { s.spm with recovery := s.spm.recovery.map (· - 1) },
      lnu := { s.lnu with blinkTimer := s.lnu.blinkTimer.map (· - 1) } } ∧
    (s.fdu.counter = none → f = { s.fdu with gate := s.fdu.gate.map (· - 1) }) ∧
    (∀ c, s.fdu.counter = some c → f = { s.fdu with
      gate := s.fdu.gate.map (· - 1),
      counter := some ((c + pwmCountsPerMs) % (s.fdu.top + 1)),
      channels := (List.range 6).map (fun k =>
        if k < s.fdu.count then { s.fdu.channel k with shadow := (s.fdu.channel k).preload } else s.fdu.channel k) })

/-! ## Invariants -/

/-- The state after reset has the part's sizes, keeps its limits, and has lawful lane tables. -/
def Obligations.ResetKeepsTheInvariants : Prop :=
  State.reset.shaped ∧ State.reset.bounded ∧ State.reset.lanesLawful

/-- Every step keeps the part's sizes: 32 entries, 8 inputs, 8 channel records, 6 fan channels, lane tables of 8 slots. -/
def Obligations.StepKeepsShape : Prop :=
  ∀ s t : State, s.shaped → step s = .next t → t.shaped

/-- Every step keeps every frame in the slot of its kind, the event queue within 16 events and every saturating counter
within its limit: the overflow count, the receive counters, the anomalies and the tach counts at 65535, the fault score at
64, the saturation count at 8. -/
def Obligations.StepKeepsBounds : Prop :=
  ∀ s t : State, s.bounded → step s = .next t → t.bounded

/-- Every step keeps the lane tables lawful: lanes only with held power, none at or above the offer, on one
uplink only, no offer above 8 (an announced claim without held power waits: log 15). -/
def Obligations.StepKeepsLanesLawful : Prop :=
  ∀ s t : State, s.shaped → s.lanesLawful → step s = .next t → t.lanesLawful

/-- The frame of every command: what no command of its kind touches. A drive, a monitor, a port or a sequencer that a role
does not use keeps its reset values past every command but a reset; of the Lane Map Port this holds outside the step of an uplink's own leaving. -/
def Obligations.CommandsLeaveTheRestAlone : Prop :=
  ∀ (i : Instr) (s t : State), exec i s = .next t →
    t.pending = s.pending ∧
    (i.resets = false → t.life.straps = s.life.straps) ∧
    (i.resets = false → i.ofPort = false → t.lpt.response = s.lpt.response) ∧
    (i.resets = false → i.boots = false → t.life.config = s.life.config) ∧
    (i.resets = false → i.boots = false → i.measures = false → t.msu = s.msu) ∧
    (i.resets = false → i.boots = false → i.ofLines = false → t.lnu = s.lnu) ∧
    (i.resets = false → s.role ≠ .blade → s.rsq = Rsq.reset → t.rsq = Rsq.reset) ∧
    (i.resets = false → s.role ≠ .fan → s.fdu = Fdu.reset → t.fdu = Fdu.reset) ∧
    (i.resets = false → s.role ≠ .supply → s.spm = Spm.reset → t.spm = Spm.reset) ∧
    (i.resets = false → s.role ≠ .uplink → s.life.leaving.map (fun l => l.step) ≠ some .lanesAlert → s.lmp = Lmp.reset →
      t.lmp = Lmp.reset)

/-! ## Resets and the boot read -/

/-- R68. Either reset gives the station life its starting values; the straps are those sampled. -/
def Obligations.StationLifeAfterResets : Prop :=
  ∀ (i : Instr) (straps : Straps) (s : State), restarts i straps s →
    ∃ t, exec i s = .next t ∧ t.life.station = .start ∧ t.life.straps = straps ∧ t.life.image = none ∧
      t.life.setupCause = none ∧ t.life.listenTimer = none ∧ t.life.bumpTimer = none ∧ t.rsq.grace = none ∧
      t.life.leaving = none ∧ t.life.stayParked = false ∧ t.lnu.ejectorLatch = false

/-- The blocks that retain nothing have the same values after either reset. -/
def Obligations.BlocksAfterResets : Prop :=
  ∀ (i : Instr) (straps : Straps) (s : State), restarts i straps s →
    ∃ t, exec i s = .next t ∧ t.pending = s.pending ∧
      t.pbc.synced = false ∧ (∀ j, t.slot j = none) ∧ t.pbc.onLine = none ∧ t.pbc.faultScore = 0 ∧
      t.pbc.checkFailures = 0 ∧ t.pbc.vetoes = 0 ∧ t.pbc.muteFlag = false ∧ t.pbc.muteCause = none ∧
      (∀ a, t.entry a =
        { state := .vacant, station := none, policy := none, priority := 3, held := 0, claim := none, shed := none,
          part := .unknown, identity := none, silence := none, staleHold := none, quiet := none, mismatch := false }) ∧
      t.cen.announceTimer = none ∧ t.cen.ownAnnounced = false ∧ t.cen.anomalies = 0 ∧ t.cen.deficit = false ∧
      t.cen.overdraw = false ∧
      t.cen.report = { policy := { nPlusOne := false, cap := 0 }, capacity := 0, reserve := 0, admission := 0,
                       shedBudget := 0, load := 0, effLoad := 0, deficit := false, waiting := [] } ∧
      t.client.hostTarget = .off ∧ t.client.overtemp = false ∧ t.client.criticalTimer = none ∧
      t.client.capped = false ∧ t.client.zoneAirflow = .lost ∧ t.client.lastSent = 0 ∧
      (∀ ch, t.channel ch =
        { raw := 0, value := 0, status := .unset, filtered := none, bucket := 0, run := 0, runSign := .none, spikes := 0,
          recovery := 0, reference := none, warn := false, critical := false }) ∧
      t.msu.sweep = none ∧ t.msu.request = false ∧ t.msu.interval = none ∧
      t.spm = { state := .offline, activity := .inactive, qualification := 0, recovery := none, capacity := 0,
                output := 0, outEn := false } ∧
      t.lmp.inFlight = none ∧ t.lmp.committed = none ∧ t.lmp.waiting = none ∧ t.lmp.trusted = false ∧
      t.lmp.crossbar = .ok ∧ t.lmp.forcedIdle = false ∧ t.lmp.xbarEn = false ∧
      (∀ pin, (t.input pin).state = .unsettled) ∧ t.lnu.ejectorLatch = false ∧ t.lnu.ejectorCopy = false ∧
      t.lnu.acLatch = false ∧ t.lnu.acCopy = false ∧ t.lnu.blinkSecond = false ∧
      t.lpt = { response := none, events := [], overflow := 0 }

/-- R100. The Rail Sequencer after either kind of reset. -/
def Obligations.RailsAfterResets : Prop :=
  ∀ (i : Instr) (straps : Straps) (s : State), restarts i straps s →
    ∃ t, exec i s = .next t ∧
      t.rsq.stagger = none ∧ t.rsq.oneShot = none ∧ t.rsq.pgTimeout = none ∧ t.rsq.grace = none ∧ t.rsq.stepOff = none ∧
      (∀ k, k < 3 → t.rsq.enable k = (t.rsq.state == .on)) ∧
      (i = .powerOnStart straps → t.rsq.state = .off ∧ t.rsq.retained = 0) ∧
      (warmRestarts i straps s → straps.role ≠ s.role → t.rsq.state = .off ∧ t.rsq.retained = 0) ∧
      (warmRestarts i straps s → straps.role = .blade → s.role = .blade →
        (s.rsq.state = .on → t.rsq.state = .on ∧ t.rsq.retained = s.rsq.retained) ∧
        (s.rsq.state = .off → t.rsq.state = .off ∧ t.rsq.retained = s.rsq.retained) ∧
        (s.rsq.state ≠ .on → s.rsq.state ≠ .off → t.rsq.state = .off ∧ t.rsq.retained = 0))

/-- A warm restart of a fan tray whose PWM was running keeps its drive: counter, period top, fan count, polarities and
shadow compares (the preloads repeat them: log 19); every other reset idles the fan drive. The own airflow is LOST (past
a restart that keeps the drive this is the model's choice: log 48). -/
def Obligations.FanDriveAfterResets : Prop :=
  ∀ (i : Instr) (straps : Straps) (s : State), restarts i straps s →
    ∃ t, exec i s = .next t ∧
      (∀ k, (t.fdu.channel k).state = .absent ∧ (t.fdu.channel k).failureMark = false ∧ (t.fdu.channel k).duty = 0 ∧
        (t.fdu.channel k).spinup = 0 ∧ (t.fdu.channel k).lowGates = 0 ∧ (t.fdu.channel k).tach = 0 ∧
        (t.fdu.channel k).rpm = 0) ∧
      t.fdu.zoneDemand = 0 ∧ t.fdu.base = 0 ∧ t.fdu.boost = false ∧ t.fdu.duty = 0 ∧ t.fdu.saturation = 0 ∧
      t.fdu.gate = none ∧ t.fdu.airflow = .lost ∧
      (∀ c, warmRestarts i straps s → straps.role = .fan → s.role = .fan → s.fdu.counter = some c →
        t.fdu.mode = .retained ∧ t.fdu.counter = some c ∧ t.fdu.top = s.fdu.top ∧ t.fdu.count = s.fdu.count ∧
        t.fdu.activeLow = s.fdu.activeLow ∧
        ∀ k, k < Config.fans → (t.fdu.channel k).shadow = (s.fdu.channel k).shadow ∧
          (t.fdu.channel k).preload = (s.fdu.channel k).shadow) ∧
      ((i = .powerOnStart straps ∨ straps.role ≠ .fan ∨ s.role ≠ .fan ∨ s.fdu.counter = none) →
        t.fdu.mode = .none ∧ t.fdu.counter = none ∧
        ∀ k, (t.fdu.channel k).shadow = 0 ∧ (t.fdu.channel k).preload = 0)

/-- The sum of bytes 0 to 509 of a record against bytes 510 and 511 (R48). -/
abbrev Sys2Proof.Machine.sumHolds (record : List Byte) : Prop :=
  ((record.take 510).map (fun b => b.toNat)).sum % 65536 = (record.getD 510 0).toNat * 256 + (record.getD 511 0).toNat

/-- R48. The outcomes of the boot read. Beside them: a first or second read fault only restarts the read. -/
def Obligations.BootReadOutcomes : Prop :=
  ∀ (record : List Byte) (s : State), s.station = .start →
    (∃ t, exec (.bootReadComplete record) s = .next t ∧
      (sumHolds record → record.getD 0 0 = 1 → s.life.straps.setupHold = false →
        t.life.image = some ((BootImage.ofRecord record).clamp s.role) ∧
        t.life.config = (BootImage.ofRecord record).clamp s.role ∧ t.passedIntoParked) ∧
      (sumHolds record → record.getD 0 0 = 1 → s.life.straps.setupHold = true →
        t.life.image = some (BootImage.ofRecord record) ∧ t.station = .setup ∧ t.life.setupCause = some .hold) ∧
      (¬ sumHolds record →
        t.life.image = some BootImage.defaults ∧ t.station = .setup ∧ t.life.setupCause = some .sum) ∧
      (sumHolds record → record.getD 0 0 ≠ 1 →
        t.life.image = some BootImage.defaults ∧ t.station = .setup ∧ t.life.setupCause = some .version)) ∧
    (s.life.readFaults = 2 → ∃ t, exec .bootReadFault s = .next t ∧
      t.life.image = some BootImage.defaults ∧ t.station = .setup ∧ t.life.setupCause = some .read) ∧
    (s.life.readFaults < 2 →
      exec .bootReadFault s = .next { s with life := { s.life with readFaults := s.life.readFaults + 1 } })

/-! ## SETUP and the store -/

/-- What a slot of a field can hold, by its width and sign (R49). -/
abbrev Sys2Proof.Machine.FieldSpec.holds (f : FieldSpec) (v : Int) : Prop :=
  if f.width = 1 then 0 ≤ v ∧ v < 256 else if f.signed then -32768 ≤ v ∧ v < 32768 else 0 ≤ v ∧ v < 65536

/-- The record that STORE_SETUP writes is sound, 512 bytes long, and gives every field back. -/
def Obligations.StoredRecordReadsBack : Prop :=
  ∀ b : BootImage, b.toRecord.length = 512 ∧ b.toRecord.getD 0 0 = 1 ∧ sumHolds b.toRecord ∧
    ∀ f i, (f, i) ∈ fieldSlots → (fieldSpec f).holds (b.get f i) → (BootImage.ofRecord b.toRecord).get f i = b.get f i

/-- The store of the boot image: its beginning in SETUP, BUSY to every command of the port meanwhile, its end by the
read-back, and its loss at a reset. Without a store its end has no effect, nor past START the boot read's (log 6). -/
def Obligations.StoreOfTheBootImage : Prop :=
  ∀ s : State,
    (s.station = .setup → s.life.storing = none →
      exec .storeSetup s = .next { s with life := { s.life with storing := some s.image.toRecord },
                                          lpt := { s.lpt with response := okResponse } }) ∧
    (∀ i, i.ofPort = true → s.station ≠ .start → s.life.storing ≠ none →
      exec i s = .next (s.answered .busy [])) ∧
    (∀ r back, s.life.storing = some r →
      exec (.setupStoreEnd back) s = .next { s with
        life := { s.life with storing := none },
        lpt := s.lpt.push (if back = some r then .setupStored else .setupStoreFailed) }) ∧
    (s.life.storing = none → ∀ back, exec (.setupStoreEnd back) s = .next s) ∧
    (s.station ≠ .start → exec .bootReadFault s = .next s ∧ ∀ record, exec (.bootReadComplete record) s = .next s) ∧
    (∀ straps, (∃ t, exec (.powerOnStart straps) s = .next t ∧ t.life.storing = none) ∧
      ∃ t, exec (.warmRestart straps) s = .next t ∧ t.life.storing = none)

/-- The setup commands. READ_SETUP and WRITE_SETUP: field and index clamped, the value reported as the slot holds it or
written clamped into the field's own range (the uplink addresses by the exception of R50: log 25). COMMIT_SETUP clamps the
image, makes it the running configuration and passes the station into PARKED. -/
def Obligations.SetupOverThePort : Prop :=
  ∀ s : State, s.station = .setup → s.life.storing = none →
    (∀ (field index : Byte) (value : BitVec 32),
      let f := max 1 (min 54 field.toNat)
      let n := min ((fieldSpec f).slots - 1) index.toNat
      let v := max (fieldSpec f).lo (min (fieldSpec f).hi value.toInt)
      exec (.readSetup field index) s = .next (s.answered .ok (slotBytes (fieldSpec f) (s.image.get f n))) ∧
      exec (.writeSetup field index value) s = .next { s with
        life := { s.life with image := some (s.image.put f n (if (f = 18 ∨ f = 19) ∧ 32 ≤ v then 255 else v)) },
        lpt := { s.lpt with response := okResponse } }) ∧
    ∃ t, exec .commitSetup s = .next t ∧ t.life.image = some (s.image.clamp s.role) ∧
      t.life.config = s.image.clamp s.role ∧ t.passedIntoParked ∧ t.lpt.response = okResponse

/-! ## The local port -/

/-- A write names its command by the command byte and the number of argument bytes, most significant byte first, and any
other write is the unknown command; one without a byte is no command. In START the port does not answer; past it an
unknown command is answered UNKNOWN and a command that is not taken REFUSED_STATE, and neither has any effect. -/
def Obligations.PortTakesCommandsAndAnswers : Prop :=
  (∀ straps : Straps, portWrite straps [] = none ∧
    portWrite straps [0x01] = some .readStatus ∧ portWrite straps [0x03] = some .readTally ∧
    portWrite straps [0x05] = some .readFans ∧ portWrite straps [0x07] = some .nextEvent ∧
    portWrite straps [0x11] = some .stopReady ∧ portWrite straps [0x12] = some .leave ∧
    portWrite straps [0x15] = some .sweepNow ∧ portWrite straps [0x22] = some .commitSetup ∧
    portWrite straps [0x23] = some .storeSetup ∧ portWrite straps [0x30] = some (.restart straps) ∧
    (∀ x, portWrite straps [0x02, x] = some (.readEntry x) ∧ portWrite straps [0x04, x] = some (.readChannel x) ∧
      portWrite straps [0x06, x] = some (.readLanes x) ∧ portWrite straps [0x10, x] = some (.setPower x) ∧
      portWrite straps [0x13, x] = some (.setLanes x) ∧ portWrite straps [0x14, x] = some (.sendQuery x)) ∧
    (∀ f n, portWrite straps [0x20, f, n] = some (.readSetup f n)) ∧
    (∀ f n b3 b2 b1 b0, portWrite straps [0x21, f, n, b3, b2, b1, b0] =
      some (.writeSetup f n (BitVec.ofNat 32 (b3.toNat * 16777216 + b2.toNat * 65536 + b1.toNat * 256 + b0.toNat)))) ∧
    (∀ c arguments, portKnows c arguments = false →
      portWrite straps (c :: arguments) = some (.unknownCommand c arguments)) ∧
    (∀ c arguments, portKnows c arguments = true ↔ (c.toNat, arguments.length) ∈
      [(1, 0), (2, 1), (3, 0), (4, 1), (5, 0), (6, 1), (7, 0), (16, 1), (17, 0), (18, 0), (19, 1), (20, 1), (21, 0),
       (32, 2), (33, 6), (34, 0), (35, 0), (48, 0)])) ∧
  ∀ (i : Instr) (s : State), i.ofPort = true →
    (s.station = .start → exec i s = .next s) ∧
    (s.portFree → (∃ command arguments, i = .unknownCommand command arguments) →
      exec i s = .next (s.answered .unknown [])) ∧
    (s.portFree → i.refusedIn s = true →
      exec i s = .next (s.answered .refusedState []))

/-- The read commands report and change nothing but the response; READ_STATUS also clears the host copies. Arguments are
clamped. The tally reported is that of the last completed follow-up (the events that count as one: log 9). -/
def Obligations.ReadsReportAndChangeNothing : Prop :=
  (∀ (s : State) (pre : Census) (k : Follow), let t := s.followUp pre k
    t.cen.report = { policy := t.policy, capacity := t.cen.capacity, reserve := t.cen.reserve t.policy,
                     admission := t.cen.admission t.policy, shedBudget := t.cen.shedBudget t.policy, load := t.cen.load,
                     effLoad := t.cen.effLoad, deficit := t.cen.deficit,
                     waiting := t.cen.waiting.map (fun a =>
                       { address := a, priority := (t.entry a).priority, held := (t.entry a).held,
                         level := (t.entry a).claim.getD 0 }) }) ∧
  ∀ s : State, s.portFree →
    exec .readStatus s = .next { s with
      lnu := { s.lnu with ejectorCopy := false, acCopy := false },
      lpt := { s.lpt with response := some { status := .ok, data := s.statusBytes } } } ∧
    (∀ address : Byte, exec (.readEntry address) s = .next (s.answered .ok (s.entryBytes (BitVec.ofNat 5 (min 31 address.toNat))))) ∧
    exec .readTally s = .next (s.answered .ok (s.cen.report.bytes ++ [if s.cen.overdraw then 1 else 0])) ∧
    (∀ channel : Byte, exec (.readChannel channel) s = .next (s.answered .ok (s.channelBytes (min 7 channel.toNat)))) ∧
    (s.role = .fan → exec .readFans s = .next (s.answered .ok s.fansBytes)) ∧
    (∀ uplink : Byte, exec (.readLanes uplink) s = .next (s.answered .ok (s.lanesBytes (BitVec.ofNat 5 (min 31 uplink.toNat)))))

/-- The event queue and the attention line (R197, R198; some event codes: log 17): raising an event, NEXT_EVENT, the attention line, and what a reset leaves. -/
def Obligations.EventQueueAndAttention : Prop :=
  (∀ (s : State) (e : Event),
    (s.lpt.events.length < 16 → s.raise e = { s with lpt := { s.lpt with events := s.lpt.events ++ [e] } }) ∧
    (16 ≤ s.lpt.events.length →
      s.raise e = { s with lpt := { s.lpt with overflow := if s.lpt.overflow < 65535 then s.lpt.overflow + 1
                                                           else s.lpt.overflow } })) ∧
  (∀ s : State, s.portFree → s.lpt.events = [] →
    exec .nextEvent s = .next (s.answered .ok [0, 0])) ∧
  (∀ (s : State) (e : Event) (rest : List Event), s.portFree → s.lpt.events = e :: rest →
    exec .nextEvent s = .next { s with lpt :=
      { response := some { status := .ok, data := byteOf rest.length :: byteOf e.encode.1 :: e.encode.2 },
        events := if s.lpt.overflow = 0 then rest else rest ++ [.eventOverflow s.lpt.overflow], overflow := 0 } }) ∧
  (∀ s : State, s.attention = true ↔ s.lpt.events ≠ []) ∧
  (∀ (i : Instr) (straps : Straps) (s : State), restarts i straps s →
    ∃ t, exec i s = .next t ∧ t.lpt = { response := none, events := [], overflow := 0 } ∧ t.attention = false)

/-- SET_POWER sets the host target at once; OFF takes a running or ramping sequencer straight to STOPPING, while the
held level is above 0. -/
def Obligations.SetPowerTakesTheHostTarget : Prop :=
  ∀ (level : Byte) (s : State), s.life.storing = none → s.role = .blade →
    (s.station = .joined ∨ s.station = .leaving ∨ s.station = .mute) →
    ∃ t, exec (.setPower level) s = .next t ∧ t.lpt.response = okResponse ∧
      (level.toNat = 0 → t.client.hostTarget = .off) ∧ (level.toNat = 1 → t.client.hostTarget = .reduced) ∧
      (2 ≤ level.toNat → t.client.hostTarget = .full) ∧
      (level.toNat = 0 → 0 < s.self.held →
        ((s.rsq.state = .on ∨ s.rsq.state = .stopWait) → t.rsq.state = .stopping 2 ∧ t.rsq.grace = none) ∧
        (∀ k, s.rsq.state = .ramp k → t.rsq.state = .stopping k))

/-- LEAVE: the station enters LEAVING with reason HOST, the announce timer runs on, the bump window stops, and claims that
are not on the line leave their slots. -/
def Obligations.LeaveEntersLeaving : Prop :=
  ∀ s : State, s.station = .joined → s.life.storing = none →
    ∃ t, exec .leave s = .next t ∧ t.lpt.response = okResponse ∧ t.station = .leaving ∧
      t.life.leaving.map (fun l => l.reason) = some .host ∧ t.life.bumpTimer = none ∧
      t.cen.announceTimer = s.cen.announceTimer ∧
      ∀ i, (i = .powerClaim ∨ i = .laneClaim) → (s.pbc.sending i = false → t.slot i = none) ∧
        ∀ f, s.pbc.sending i = true → s.slot i = some f → t.slot i = some { f with followOn := none }

/-- SET_LANES sets the lanes wanted, clamped to 4, with the unavailable-reported flag cleared at 0; where the lane client
does not evaluate, that is all. SEND_QUERY requests QUERY: it takes an empty slot, replaces a frame off the line, or
becomes the follow-on of one on it. -/
def Obligations.SetLanesAndSendQuery : Prop :=
  ∀ (b : Byte) (s : State), s.portFree →
    (s.role = .blade → s.station ≠ .setup → ∃ t, exec (.setLanes b) s = .next t ∧ t.lpt.response = okResponse ∧
      t.client.lanesWanted = min 4 b.toNat ∧ (b.toNat = 0 → t.client.unavailableReported = false) ∧
      t.station = s.station ∧ t.cen = s.cen ∧ t.rsq = s.rsq ∧ t.pbc.onLine = s.pbc.onLine ∧
      ((s.station ≠ .joined ∨ s.cen.ownAnnounced = false) → t = { s with
        client := { s.client with
          lanesWanted := min 4 b.toNat,
          unavailableReported := s.client.unavailableReported && decide (b.toNat ≠ 0) },
        pbc := { s.pbc with stamp := s.pbc.stamp + 1 },
        lpt := { s.lpt with response := okResponse } })) ∧
    ((s.station = .joined ∨ s.station = .leaving) → ∃ t, exec (.sendQuery b) s = .next t ∧
      t.lpt = { s.lpt with response := okResponse } ∧ t.cen = s.cen ∧ t.life = s.life ∧
      (∀ i, i ≠ .query → t.slot i = s.slot i) ∧
      let q : FrameReq := .query (BitVec.ofNat 5 (min 31 b.toNat))
      (s.slot .query = none → ∃ f, t.slot .query = some f ∧ f.contents = q ∧ f.attempts = 0 ∧ f.followOn = none) ∧
      (∀ f, s.slot .query = some f → s.pbc.sending .query = false →
        t.slot .query = some { f with contents := q, attempts := 0 }) ∧
      (∀ f, s.slot .query = some f → s.pbc.sending .query = true → (∀ n, f.contents ≠ .inventory n) →
        t.slot .query = some { f with followOn := some q }))

/-! ## Station life -/

/-- The end of LISTEN: JOINED with its frames requested, the announce timer at 20 ms for each address, and the duties of
the role begun. -/
def Obligations.ListenEndsInJoined : Prop :=
  ∀ s : State,
    (s.station = .listen → s.life.listenTimer ≠ none → ∃ t, exec .listenTimerExpiry s = .next t ∧ t.station = .joined ∧
      t.life.listenTimer = none ∧ t.cen.announceTimer = some (s.addr.toNat * 20) ∧
      (t.slot .announce).isSome = true ∧ (t.slot .inventory).isSome = true ∧
      (s.role = .blade → (s.cfg.joinDefault = 0 → t.client.hostTarget = .off) ∧
        (s.cfg.joinDefault = 1 → t.client.hostTarget = .reduced) ∧
        (2 ≤ s.cfg.joinDefault → t.client.hostTarget = .full)) ∧
      (s.role = .supply → t.spm.activity = .running ∧ t.spm.outEn = true ∧ t.spm.qualification = 0)) ∧
    ((s.station ≠ .listen ∨ s.life.listenTimer = none) → exec .listenTimerExpiry s = .next s)

/-- A seating loss in every state past START, by a change of SEATED or by its settling false after a restart that retained
rails or fan drive: rails, fans, OUT_EN, XBAR_EN and shifts end at once, and the bump window and LISTEN timer stop; what the
station does beside that depends on its state. -/
def Obligations.SeatingLossEndsEverything : Prop :=
  ∀ s : State, s.shaped → s.station ≠ .start →
    (s.seated = true ∨ ((s.input 0).state = .unsettled ∧ s.life.retention = true)) →
    ∃ t, exec (.seatedChange false) s = .next t ∧ (t.input 0).state = .no ∧
      t.life.bumpTimer = none ∧ t.life.listenTimer = none ∧
      (s.role = .blade → t.rsq.state = .off ∧ t.rsq.retained = 0 ∧ t.rsq.grace = none ∧ t.rsq.stepOff = none) ∧
      (s.role = .fan → ∀ k, (t.fdu.channel k).duty = 0 ∧ (t.fdu.channel k).shadow = 0) ∧
      (s.role = .supply → t.spm.outEn = false ∧ t.spm.activity = .inactive ∧ t.spm.state = .offline) ∧
      t.lmp.xbarEn = false ∧ t.lmp.inFlight = none ∧
      ((s.station = .listen ∨ s.station = .joined ∨ s.station = .leaving) →
        t.station = .parked ∧ t.life.leaving = none ∧ t.self.held = 0 ∧ t.self.claim = none ∧ t.pbc.onLine = none ∧
        (∀ i, i ≠ .depart → t.slot i = none) ∧
        ∃ f, t.slot .depart = some f ∧ f.contents = .depart .seatedLost ∧ f.attempts = 0 ∧ f.followOn = none) ∧
      ((s.station = .parked ∨ s.station = .mute) → t.station = s.station ∧ t.self.held = 0 ∧ t.self.claim = none) ∧
      (s.station = .setup → t.station = .setup)

/-- A PARKED station whose join condition comes to hold at a change of SEATED or EJECTOR enters LISTEN, or MUTE where its
fault score is 64. -/
def Obligations.JoinConditionLeadsToListen : Prop :=
  ∀ (i : Instr) (s : State), s.shaped → s.station = .parked → s.life.stayParked = false →
    ((i = .seatedChange true ∧ s.seated = false ∧ s.ejectorOpen = false) ∨
      (i = .ejectorChange false ∧ s.seated = true ∧ (s.input 1).state ≠ .no)) →
    ∃ t, exec i s = .next t ∧
      (s.pbc.faultScore = 64 → t.station = .mute ∧ t.pbc.muteCause = some .faultScore ∧ ∀ j, t.slot j = none) ∧
      (s.pbc.faultScore ≠ 64 → t.station = .listen ∧ t.life.listenTimer = some 1280 ∧ t.cen.ownAnnounced = false ∧
        t.cen.announceTimer = none ∧ t.cen.deficit = false ∧ t.cen.overdraw = false ∧
        ∀ a, a ≠ s.addr → t.entry a = Entry.vacant)

/-- A debounced EJECTOR opening: JOINED without a bump window enters LEAVING, LISTEN goes back to PARKED with its queue
cleared, and a PARKED blade whose rails are ON stops with reason EJECTOR, as it does from LISTEN; in every other case the
opening has no effect but on the input and the stay-parked flag. -/
def Obligations.EjectorOpeningLeaves : Prop :=
  ∀ s : State, s.shaped → (s.input 1).state = .no → ∃ x : Input, x.state = .yes ∧
    let o := { s.inputTaken 1 x with life := { s.life with stayParked := false } }
    (s.station = .joined → s.life.bumpTimer = none → ∃ t, exec (.ejectorChange true) s = .next t ∧
      t.station = .leaving ∧ t.life.leaving.map (fun l => l.reason) = some .ejector ∧ t.ejectorOpen = true ∧
      t.life.stayParked = false) ∧
    (s.station = .listen → ∃ t, exec (.ejectorChange true) s = .next t ∧ t.station = .parked ∧
      t.life.listenTimer = none ∧ (∀ i, t.slot i = none) ∧ t.ejectorOpen = true ∧ t.life.stayParked = false ∧
      (s.role = .blade → s.rsq.state = .on → 0 < s.self.held →
        t.rsq.state = .stopWait ∧ t.rsq.stopReason = some .ejector ∧ t.rsq.clearOnOff = true)) ∧
    ((s.station = .start ∨ s.station = .setup ∨ s.station = .leaving ∨ s.station = .mute ∨
        (s.station = .joined ∧ s.life.bumpTimer ≠ none) ∨
        (s.station = .parked ∧ (s.role ≠ .blade ∨ s.rsq.state = .off ∨ s.rsq.state = .fault))) →
      exec (.ejectorChange true) s = .next o) ∧
    (s.station = .parked → s.role = .blade →
      (s.rsq.state = .on → exec (.ejectorChange true) s = .next { o with
        rsq := { s.rsq with state := .stopWait, stagger := none, oneShot := none, pgTimeout := none,
                            grace := some (s.cfg.nat 13 0 * 1000), stepOff := none, stopReason := some .ejector,
                            clearOnOff := true },
        lpt := s.lpt.push (.shutdownRequest .ejector) }) ∧
      (∀ g, s.rsq.state = .stopWait → s.rsq.grace = some g → g ≤ s.cfg.nat 13 0 * 1000 →
        exec (.ejectorChange true) s = .next { o with rsq := { s.rsq with clearOnOff := true } }) ∧
      (∀ k, s.rsq.state = .stopping k →
        exec (.ejectorChange true) s = .next { o with rsq := { s.rsq with clearOnOff := true } }))

/-- A debounced EJECTOR closing withdraws what an opening began: a leaving for reason EJECTOR of a blade in STOP_WAIT
returns to JOINED, and a stop with reason EJECTOR, there or in PARKED, returns to ON with STOP_CANCELLED and RAILS_ON
(their order: log 16); a stop with another reason goes on. In every other case but a join from PARKED it has no effect
but on the input. -/
def Obligations.EjectorClosingCancels : Prop :=
  ∀ s : State, s.shaped → (s.input 1).state = .yes → ∃ x : Input, x.state = .no ∧
    let o := s.inputTaken 1 x
    let cancels := s.role = .blade ∧ s.rsq.state = .stopWait ∧ s.life.leaving.map (fun l => l.reason) = some .ejector
    (s.station = .leaving → cancels → ∃ t, exec (.ejectorChange false) s = .next t ∧ t.station = .joined ∧
      t.life.leaving = none ∧ t.self.station = some .joined ∧
      (0 < s.self.held → s.rsq.stopReason = some .ejector →
        (0 < t.client.target → t.rsq.state = .on ∧ t.rsq.grace = none ∧ t.rsq.stopReason = none ∧
          ∃ es : List Event, t.lpt = es.foldl Lpt.push
            (((s.lpt.push (.stationState .joined)).push .stopCancelled).push .railsOn)) ∧
        (t.client.target = 0 → t.rsq.state = .stopWait ∧ t.rsq.stopReason = t.client.stopReason)) ∧
      (0 < s.self.held → s.rsq.stopReason ≠ some .ejector → t.rsq.state = .stopWait)) ∧
    (s.station = .leaving → ¬ cancels → exec (.ejectorChange false) s = .next o) ∧
    (s.station = .parked → s.seated = false ∨ s.life.stayParked = true →
      (s.rsq.state = .stopWait → s.rsq.stopReason = some .ejector → exec (.ejectorChange false) s = .next { o with
        rsq := { s.rsq with state := .on, stagger := none, oneShot := none, pgTimeout := none, grace := none,
                            stepOff := none, stopReason := none, clearOnOff := false },
        lpt := (s.lpt.push .stopCancelled).push .railsOn }) ∧
      ((s.rsq.state ≠ .stopWait ∨ s.rsq.stopReason ≠ some .ejector) → exec (.ejectorChange false) s = .next o)) ∧
    ((s.station = .start ∨ s.station = .setup ∨ s.station = .listen ∨ s.station = .joined ∨ s.station = .mute) →
      exec (.ejectorChange false) s = .next o)

/-- What a leaving waits for, and what follows it, with every frame in its own slot (StepKeepsBounds): a blade releases its
lanes, then its level, then departs; a supply turns its output off and departs; an uplink loads the all-idle map, releases
and departs. A frame is settled when its slot is empty (log 34). The own DEPART accepted ends the leaving in PARKED, with the
stay-parked flag for reason HOST. -/
def Obligations.LeavingFollowsItsSteps : Prop :=
  ∀ (s : State) (l : Leaving), s.station = .leaving → s.life.leaving = some l → s.slotted →
    let t := s.advanceLeaving
    let departs (u : State) : Prop :=
      u.life.leaving = some { l with step := .departure } ∧ u.holdsRequest (.depart l.reason) = true
    let releases (u : State) : Prop :=
      if 0 < s.self.held ∨ s.self.claim ≠ none then
        u.life.leaving = some { l with step := .powerRelease } ∧ u.holdsRequest (.powerRelease 0) = true
      else departs u
    let ends (u : State) : Prop :=
      u.passedIntoParked ∧ u.life.leaving = none ∧ u.life.stayParked = (s.life.stayParked || l.reason == .host) ∧
        (u.life.stayParked = true → u.station = .parked)
    (l.step = .railsOff → s.rsq.state ≠ .off → s.rsq.state ≠ .fault → t = s) ∧
    (l.step = .railsOff → s.rsq.state = .off ∨ s.rsq.state = .fault →
      (∀ u, s.lanesOn = some u →
        t.life.leaving = some { l with step := .laneRelease } ∧ t.holdsRequest (.laneRelease u) = true) ∧
      (s.lanesOn = none → releases t)) ∧
    (l.step = .laneRelease → (s.slot .laneRelease ≠ none → t = s) ∧ (s.slot .laneRelease = none → releases t)) ∧
    (l.step = .capacityAlert → (s.slot .capacityDrop ≠ none → t = s) ∧
      (s.slot .capacityDrop = none → departs t ∧ t.spm.outEn = false ∧ t.spm.activity = .inactive)) ∧
    (l.step = .lanesAlert → (s.slot .lanesDrop ≠ none → t = s) ∧
      (s.slot .lanesDrop = none → t.lmp.forcedIdle = true ∧
        (s.lmp.inFlight = none → s.lmp.committed = some idleMap → releases t ∧ t.lmp.xbarEn = false) ∧
        (s.lmp.inFlight = none → s.lmp.committed ≠ some idleMap →
          t.life.leaving = some { l with step := .idleMap } ∧ t.lmp.inFlight = some idleMap) ∧
        (∀ m, s.lmp.inFlight = some m →
          t.life.leaving = some { l with step := .idleMap } ∧ t.lmp.inFlight = some m ∧
            t.lmp.waiting = some idleMap))) ∧
    (l.step = .idleMap → (s.lmp.isIdle = false → t = s) ∧
      (s.lmp.isIdle = true → releases t ∧ t.lmp.xbarEn = false)) ∧
    (l.step = .powerRelease → (s.slot .powerRelease ≠ none → t = s) ∧ (s.slot .powerRelease = none → departs t)) ∧
    (l.step = .departure → (s.slot .depart ≠ none → t = s) ∧ (s.slot .depart = none → ends t)) ∧
    (∀ (f : QueuedFrame) (reason : Byte) (check : Half), l.step = .departure → s.pbc.synced = true →
      s.pbc.onLine = some { slot := .depart, payload := .depart reason, bitError := false } →
      s.slot .depart = some f → f.followOn = none →
      ∃ u, exec (.departAccepted s.addr reason check) s = .next u ∧ ends u)

/-- The ejector latch is caught with its host copy, held through START and consumed in every later state, where JOINED
starts the bump window; at its end the debounced EJECTOR decides. -/
def Obligations.EjectorLatchAndBumpWindow : Prop :=
  ∀ s : State,
    (s.station = .start → exec .ejectorLatchSet s = .next { s with
      lnu := { s.lnu with ejectorLatch := true, ejectorCopy := true } }) ∧
    (s.station ≠ .start → exec .ejectorLatchSet s = .next { s with
      lnu := { s.lnu with ejectorLatch := false, ejectorCopy := true },
      life := { s.life with bumpTimer := if s.station = .joined ∧ s.life.bumpTimer = none then some 200
                                         else s.life.bumpTimer } }) ∧
    (s.station = .joined → s.life.bumpTimer ≠ none → s.ejectorOpen = true → ∃ t, exec .bumpWindowExpiry s = .next t ∧
      t.station = .leaving ∧ t.life.leaving.map (fun l => l.reason) = some .ejector ∧ t.life.bumpTimer = none) ∧
    (s.station = .joined → s.life.bumpTimer ≠ none → s.ejectorOpen = false → ∃ t, exec .bumpWindowExpiry s = .next t ∧
      t.life = { s.life with bumpTimer := none } ∧ t.lpt = s.lpt.push .ejectorBump ∧ t.cen = s.cen ∧ t.rsq = s.rsq ∧
      t.pbc.queue = s.pbc.queue) ∧
    ((s.station ≠ .joined ∨ s.life.bumpTimer = none) → exec .bumpWindowExpiry s = .next s)

/-! ## Rails -/

/-- The sequencer that has just entered a step of its ramp (R102). -/
def Sys2Proof.Machine.Rsq.ramping (r : Rsq) (cfg : BootImage) (k : Nat) : Rsq :=
  { r with state := .ramp k, stagger := none, oneShot := some (cfg.stepDelay k), pgTimeout := none, grace := none,
           stepOff := none, stopReason := none }

/-- The sequencer that has just entered ON. -/
def Sys2Proof.Machine.Rsq.nowOn (r : Rsq) : Rsq :=
  { r with state := .on, stagger := none, oneShot := none, pgTimeout := none, grace := none, stepOff := none,
           stopReason := none }

/-- The ramp: the stagger ends in RAMP(0); at the end of a step's one-shot a good PG passes on and another starts the
timeout; a PG that becomes good while the timeout runs passes on; after step 2 the rails are ON. -/
def Obligations.RampTakesTheRailsUp : Prop :=
  ∀ s : State,
    (s.rsq.state = .stagger → s.rsq.stagger ≠ none →
      exec .staggerExpiry s = .next { s with rsq := s.rsq.ramping s.cfg 0 }) ∧
    ((s.rsq.state ≠ .stagger ∨ s.rsq.stagger = none) → exec .staggerExpiry s = .next s) ∧
    (∀ k, s.rsq.state = .ramp k → s.rsq.oneShot ≠ none →
      (s.pgGood k = false → exec .stepOneShotExpiry s = .next { s with
        rsq := { s.rsq with oneShot := none, pgTimeout := some (s.cfg.pgTimeout k) } }) ∧
      (s.pgGood k = true → k < 2 → exec .stepOneShotExpiry s = .next { s with rsq := s.rsq.ramping s.cfg (k + 1) }) ∧
      (s.pgGood k = true → k = 2 → exec .stepOneShotExpiry s = .next { s with
        rsq := s.rsq.nowOn, lpt := s.lpt.push .railsOn })) ∧
    (s.rsq.oneShot = none → exec .stepOneShotExpiry s = .next s) ∧
    (∀ k, s.shaped → s.role = .blade → k < 3 → ∃ t, exec (.pgFoundGood k) s = .next t ∧ t.pgGood k = true ∧
      (s.rsq.state = .ramp k → s.rsq.pgTimeout ≠ none → k < 2 → t.rsq = s.rsq.ramping s.cfg (k + 1) ∧ t.lpt = s.lpt) ∧
      (s.rsq.state = .ramp k → s.rsq.pgTimeout ≠ none → k = 2 →
        t.rsq = s.rsq.nowOn ∧ t.lpt = s.lpt.push .railsOn) ∧
      ((s.rsq.state ≠ .ramp k ∨ s.rsq.pgTimeout = none) → t.rsq = s.rsq ∧ t.lpt = s.lpt) ∧
      t.cen = s.cen ∧ t.client = s.client ∧ t.pbc = s.pbc ∧ t.life = s.life)

/-- A PG timeout, and the loss of a watched PG, enter FAULT with every rail deasserted and the host target OFF; where the
held level is 0 the FAULT is left at once for OFF (R101). The loss of a PG that is not watched changes its input alone. -/
def Obligations.LostPowerGoodEntersFault : Prop :=
  ∀ s : State,
    (∀ k, s.rsq.state = .ramp k → s.rsq.pgTimeout ≠ none → ∃ t, exec .pgTimeoutExpiry s = .next t ∧
      (leftLeaving s t ∨ (t.client.hostTarget = .off ∧ (∀ j, t.rsq.enable j = false) ∧
        (0 < s.self.held → t.rsq.state = .fault) ∧
        (s.self.held = 0 → s.role = .blade → s.station.running = true → t.rsq.state = .off)))) ∧
    (s.rsq.pgTimeout = none → exec .pgTimeoutExpiry s = .next s) ∧
    (∀ k, k < 3 → s.shaped → s.role = .blade → s.pgGood k = true → s.station ≠ .start →
      ((∃ j, s.rsq.state = .ramp j ∧ k < j) ∨ s.rsq.state = .on ∨ s.rsq.state = .stopWait) →
      ∃ t, exec (.pgLoss k) s = .next t ∧ (t.input (k + 2)).state = .no ∧
        (leftLeaving s t ∨ (t.client.hostTarget = .off ∧ (∀ j, t.rsq.enable j = false) ∧
          (0 < s.self.held → t.rsq.state = .fault) ∧
          (s.self.held = 0 → s.station ≠ .setup → t.rsq.state = .off)))) ∧
    (∀ k, k < 3 → s.shaped → s.role = .blade →
      (s.rsq.state = .off ∨ s.rsq.state = .stagger ∨ s.rsq.state = .fault ∨ ∃ j, s.rsq.state = .stopping j) →
      ∃ t, exec (.pgLoss k) s = .next t ∧ (t.input (k + 2)).state = .no ∧ t.rsq = s.rsq ∧ t.lpt = s.lpt ∧
        t.client = s.client ∧ t.cen = s.cen)

/-- STOP_READY and the end of the grace take STOP_WAIT to STOPPING(2): EN2 is deasserted, the grace timer stops, the
step-off delay of step 2 starts, and nothing else changes. The rails come down in order: STOPPING(k) ends in
STOPPING(k - 1), and after step 0 in OFF, from which only a start of R101 in JOINED leads on. -/
def Obligations.StopsTakeTheRailsDown : Prop :=
  ∀ s : State,
    (s.portFree → s.role = .blade → s.rsq.state = .stopWait → exec .stopReady s = .next { s with
      rsq := { s.rsq with state := .stopping 2, stagger := none, oneShot := none, pgTimeout := none, grace := none,
                          stepOff := some (s.cfg.stepOffDelay 2), stopReason := none },
      lpt := { s.lpt with response := okResponse } }) ∧
    (s.rsq.state = .stopWait → s.rsq.grace ≠ none → exec .graceExpiry s = .next { s with
      rsq := { s.rsq with state := .stopping 2, stagger := none, oneShot := none, pgTimeout := none, grace := none,
                          stepOff := some (s.cfg.stepOffDelay 2), stopReason := none } }) ∧
    ((s.rsq.state ≠ .stopWait ∨ s.rsq.grace = none) → exec .graceExpiry s = .next s) ∧
    (∀ k, s.rsq.state = .stopping k → s.rsq.stepOff ≠ none →
      ∃ t, exec .stepOffDelayExpiry s = .next t ∧
        (0 < k → 0 < s.self.held →
          t.rsq.state = .stopping (k - 1) ∧ t.rsq.stepOff = some (s.cfg.stepOffDelay (k - 1))) ∧
        (k = 0 → t.rsq.state = .off ∨ (s.station = .joined ∧ (t.rsq.state = .stagger ∨ t.rsq.state = .ramp 0)))) ∧
    (s.rsq.stepOff = none → exec .stepOffDelayExpiry s = .next s)

/-- The critical persistence timer ends: the overtemperature stop comes into force; from ON the blade enters STOP_WAIT
with at most 5 s of grace, and with the rails OFF the stop lasts just while a demand channel is CRITICAL. -/
def Obligations.CriticalPersistenceStops : Prop :=
  ∀ s : State,
    (s.client.criticalTimer ≠ none → s.role = .blade → s.station ≠ .start → s.station ≠ .setup →
      ∃ t, exec .criticalPersistenceExpiry s = .next t ∧ t.client.criticalTimer = none ∧
        (s.rsq.state = .on → 0 < s.self.held → t.client.overtemp = true ∧ t.rsq.state = .stopWait ∧
          t.rsq.grace = some (min (s.cfg.nat 13 0 * 1000) 5000)) ∧
        (s.rsq.state = .off → t.client.overtemp = decide (0 < s.criticalDemand))) ∧
    (s.client.criticalTimer = none → exec .criticalPersistenceExpiry s = .next s)

/-! ## The clients' wanted requests -/

/-- R97, R173. The wanted requests of the power client and of the lane client, case by case. -/
def Obligations.WantedRequests : Prop :=
  (∀ (T h : Nat) (c : Option Nat) (off : Bool),
    (h < T → c ≠ some T → wantedPower T h c off = some (.powerClaim T)) ∧
    (h < T → c = some T → wantedPower T h c off = none) ∧
    (T = h → 0 < T → c ≠ none → wantedPower T h c off = some (.powerRelease h)) ∧
    (T = h → 0 < T → c = none → wantedPower T h c off = none) ∧
    (0 < T → T < h → wantedPower T h c off = some (.powerRelease T)) ∧
    (T = 0 → 0 < h → off = false → c ≠ none → wantedPower T h c off = some (.powerRelease h)) ∧
    (T = 0 → 0 < h → off = false → c = none → wantedPower T h c off = none) ∧
    (T = 0 → 0 < h → off = true → wantedPower T h c off = some (.powerRelease 0)) ∧
    (T = 0 → h = 0 → c ≠ none → wantedPower T h c off = some (.powerRelease 0)) ∧
    (T = 0 → h = 0 → c = none → wantedPower T h c off = none)) ∧
  (∀ r : RailState, r.isOff = true ↔ r = .off ∨ r = .fault) ∧
  (∀ (h w : Nat) (H : Option (Addr × List Nat)) (Q : Option (Addr × Nat)) (live : Bool) (chosen : Option Addr),
    (h = 0 → wantedLanes h w H Q live chosen = none) ∧
    (0 < h → ∀ u S, H = some (u, S) → w < S.length → wantedLanes h w H Q live chosen = some (.laneRelease u)) ∧
    (0 < h → ∀ u S, H = some (u, S) → S.length ≤ w → wantedLanes h w H Q live chosen = none) ∧
    (0 < h → H = none → ∀ u n, Q = some (u, n) → w = 0 → wantedLanes h w H Q live chosen = some (.laneRelease u)) ∧
    (0 < h → H = none → ∀ u n, Q = some (u, n) → 0 < w → live = true → wantedLanes h w H Q live chosen = none) ∧
    (0 < h → H = none → ∀ u n, Q = some (u, n) → 0 < w → live = false →
      wantedLanes h w H Q live chosen = some (.laneRelease u)) ∧
    (0 < h → H = none → Q = none → w = 0 → wantedLanes h w H Q live chosen = none) ∧
    (0 < h → H = none → Q = none → 0 < w → ∀ c, chosen = some c →
      wantedLanes h w H Q live chosen = some (.laneClaim c w)) ∧
    (0 < h → H = none → Q = none → 0 < w → chosen = none → wantedLanes h w H Q live chosen = none))

/-! ## Measurement -/

/-- R117. A conversion completion records its code; a valid code gives the converted value, clamped by kind, and the filter
and the thresholds take the sample or the invalid sample. The other records stand. -/
def Obligations.ConversionRecordsItsCode : Prop :=
  ∀ (raw : BitVec 12) (s : State) (ch : Nat), s.shaped → s.msu.sweep = some ch → ch < 8 →
    let v : Int := ((raw.toNat * s.cfg.gain ch / 4096 : Nat) : Int) + s.cfg.offset ch
    let w : Int := if s.cfg.channelKind ch = 0 then max (-32768) (min 32767 v) else max 0 (min 32767 v)
    let valid : Bool := decide (1 ≤ raw.toNat) && decide (raw.toNat ≤ 4094)
    ∃ t, exec (.conversionCompletion raw) s = .next t ∧ (t.channel ch).raw = raw.toNat ∧
      (t.channel ch).value = (if valid then w else (s.channel ch).value) ∧
      t.channel ch =
        (({ s.channel ch with raw := raw.toNat, value := if valid then w else (s.channel ch).value }).filter s.cfg ch
          (if valid then some w else none)).evaluate s.cfg ch ∧
      ∀ k, k ≠ ch → t.channel k = s.channel k

/-- R118 to R123. The filter: the first sample of an UNSET channel, the three bands of a NORMAL one, invalid samples, the
way to FAULTED at the fourth, and the recovery; then the threshold flags. -/
def Obligations.FilterBandsAndThresholds : Prop :=
  (∀ (c : ChannelRec) (b : BootImage) (ch : Nat) (s : Int),
    let N := b.noiseBand ch
    let faulted := { c with status := .faulted, spikes := 4, recovery := 0, reference := none }
    let rejected := if c.spikes < 3 then { c with spikes := c.spikes + 1 } else faulted
    let q := match c.reference with
      | none => 1
      | some r => if -N ≤ s - r ∧ s - r ≤ N then c.recovery + 1 else 1
    (c.status = .unset → c.filter b ch (some s) =
      { c with status := .normal, filtered := some s, bucket := 0, run := 0, runSign := .none, spikes := 0 }) ∧
    (c.status ≠ .faulted → c.filter b ch none = rejected) ∧
    (∀ f, c.status = .normal → c.filtered = some f → 0 ≤ N → N ≤ b.jumpLimit ch →
      (b.jumpLimit ch < s - f ∨ s - f < -(b.jumpLimit ch)) → c.filter b ch (some s) = rejected) ∧
    (c.status = .faulted → c.filter b ch none = { c with recovery := 0, reference := none }) ∧
    (c.status = .faulted → 0 ≤ N →
      (q < 4 → c.filter b ch (some s) = { c with recovery := q, reference := some s }) ∧
      (4 ≤ q → c.filter b ch (some s) =
        { c with status := .normal, filtered := some s, bucket := 0, run := 0, runSign := .none, spikes := 0,
                 recovery := 0, reference := none }))) ∧
  ∀ (c : ChannelRec) (b : BootImage) (ch : Nat) (f s : Int), c.status = .normal → c.filtered = some f →
    let d := s - f
    let N := b.noiseBand ch
    let U := b.updateThreshold ch
    let clear := { c with run := 0, runSign := .none, spikes := 0 }
    let sign : RunSign := if 0 < d then .up else .down
    let r := if c.runSign = sign then c.run + 1 else 1
    (-N ≤ d → d ≤ N →
      (U ≤ c.bucket + d → c.filter b ch (some s) = { clear with filtered := some (f + 1), bucket := 0 }) ∧
      (c.bucket + d < U → c.bucket + d ≤ -U →
        c.filter b ch (some s) = { clear with filtered := some (f - 1), bucket := 0 }) ∧
      (c.bucket + d < U → -U < c.bucket + d → c.filter b ch (some s) = { clear with bucket := c.bucket + d })) ∧
    (0 ≤ N → (d < -N ∨ N < d) → -(b.jumpLimit ch) ≤ d → d ≤ b.jumpLimit ch →
      (b.debounce ch ≤ r → c.filter b ch (some s) = { clear with filtered := some s, bucket := 0 }) ∧
      (r < b.debounce ch → c.filter b ch (some s) = { c with run := r, runSign := sign, spikes := 0 })) ∧
    ((c.evaluate b ch).warn = (if c.warn then !(decide (f ≤ b.warnThreshold ch - b.hysteresis ch) &&
        decide (f < b.warnThreshold ch)) else decide (b.warnThreshold ch ≤ f)) ∧
      (c.evaluate b ch).critical = (if c.critical then !(decide (f ≤ b.criticalThreshold ch - b.hysteresis ch) &&
        decide (f < b.criticalThreshold ch)) else decide (b.criticalThreshold ch ≤ f))) ∧
    (c.level = .critical ↔ c.critical = true) ∧ (c.level = .warn ↔ c.critical = false ∧ c.warn = true) ∧
    (c.level = .clear ↔ c.critical = false ∧ c.warn = false) ∧
    (∀ e : ChannelRec, e.status ≠ .normal → e.evaluate b ch = e)

/-- R127. The demand of a demand channel. -/
def Obligations.ChannelDemandByMargin : Prop :=
  ∀ (c : ChannelRec) (b : BootImage) (ch : Nat),
    (c.status = .unset → c.demand b ch = 0) ∧ (c.status = .faulted → c.demand b ch = 255) ∧
    (∀ f, c.status = .normal → c.filtered = some f →
      let m := b.demandLimit ch - f
      let span : Int := b.demandSpan ch
      (span ≤ m → c.demand b ch = 0) ∧
      (m ≤ 0 → 0 < span → c.demand b ch = 255) ∧
      (0 < m → m < span →
        255 * (span - m) ≤ (c.demand b ch : Int) * span ∧ (c.demand b ch : Int) * span < 255 * (span - m) + span)) ∧
    (b.isDemand ch = true ↔ 1 ≤ b.get 21 ch ∧ 1 ≤ b.get 32 ch)

/-- The sweeps: the interval's end starts one at the lowest enabled channel; a completion goes on to the next enabled
channel, or ends the sweep, which starts the interval timer or the sweep remembered. SWEEP_NOW starts a sweep of an idle
Measurement Unit at once, and one that sweeps remembers it. -/
def Obligations.SweepsFollowOneAnother : Prop :=
  ∀ s : State,
    (s.msu.interval ≠ none →
      (∀ ch rest, s.enabledChannels = ch :: rest → exec .sweepIntervalExpiry s = .next { s with
        msu := { s.msu with sweep := some ch, interval := none } }) ∧
      (s.enabledChannels = [] → exec .sweepIntervalExpiry s = .next { s with
        msu := { s.msu with sweep := none, interval := some s.cfg.sweepInterval } })) ∧
    (s.msu.interval = none → exec .sweepIntervalExpiry s = .next s) ∧
    (∀ raw, s.msu.sweep = none → exec (.conversionCompletion raw) s = .next s) ∧
    (∀ raw ch, s.msu.sweep = some ch → ∃ t, exec (.conversionCompletion raw) s = .next t ∧
      (∀ k, s.nextChannel ch = some k → t.msu.sweep = some k ∧ t.msu.request = s.msu.request) ∧
      (s.nextChannel ch = none → s.msu.request = false →
        t.msu.sweep = none ∧ t.msu.interval = some s.cfg.sweepInterval) ∧
      (s.nextChannel ch = none → s.msu.request = true →
        t.msu.request = false ∧ t.msu.sweep = s.enabledChannels.head?)) ∧
    (s.portFree → s.station ≠ .setup →
      (∀ ch, s.msu.sweep = some ch → exec .sweepNow s = .next { s with
        msu := { s.msu with request := true }, lpt := { s.lpt with response := okResponse } }) ∧
      (∀ ch rest, s.msu.sweep = none → s.enabledChannels = ch :: rest → exec .sweepNow s = .next { s with
        msu := { s.msu with sweep := some ch, interval := none }, lpt := { s.lpt with response := okResponse } }) ∧
      (s.msu.sweep = none → s.enabledChannels = [] → exec .sweepNow s = .next { s with
        msu := { s.msu with interval := some s.cfg.sweepInterval }, lpt := { s.lpt with response := okResponse } }))

/-! ## Supplies -/

/-- AC_WARN and the recovery timer of a supply. -/
def Obligations.AcWarnFailsAndRecoveryRestores : Prop :=
  ∀ s : State, s.role = .supply →
    (s.station = .start → exec .acWarnLatchSet s = .next { s with
      lnu := { s.lnu with acLatch := true, acCopy := true } }) ∧
    (s.station ≠ .start → ∃ t, exec .acWarnLatchSet s = .next t ∧
      t.lnu = { s.lnu with acLatch := false, acCopy := true } ∧
      (s.spm.activity = .running → s.spm.state ≠ .failed →
        t.spm = { s.spm with state := .failed, qualification := 0, recovery := some 5000, capacity := 0,
                             outEn := false }) ∧
      (s.spm.activity = .running → s.spm.state = .failed → t.spm = { s.spm with recovery := some 5000 }) ∧
      (s.spm.activity = .frozen → t.spm = { s.spm with outEn := false } ∧ t.pbc.queue = s.pbc.queue) ∧
      (s.spm.activity = .inactive → t.spm = s.spm ∧ t.lpt = s.lpt)) ∧
    (s.spm.recovery ≠ none → s.spm.activity = .running → s.spm.state = .failed →
      ∃ t, exec .recoveryTimerExpiry s = .next t ∧
        t.spm = { s.spm with state := .offline, qualification := 0, recovery := none, capacity := 0, outEn := true }) ∧
    (s.spm.recovery = none → exec .recoveryTimerExpiry s = .next s)

/-- The end of a sweep of a supply: the measured output, the state of a running Supply Monitor judged on the channels as
settled, and the output watch of a frozen one (where both causes hold in FAILED, one event: log 31). -/
def Obligations.SweepEndJudgesTheSupply : Prop :=
  ∀ (raw : BitVec 12) (s : State) (ch : Nat), s.role = .supply → s.msu.sweep = some ch → s.nextChannel ch = none →
    ∃ t, exec (.conversionCompletion raw) s = .next t ∧
      (∀ v i, (t.channel 0).filtered = some v → (t.channel 1).filtered = some i →
        t.spm.output = min 65535 ((v * i).toNat / 10000)) ∧
      (((t.channel 0).filtered = none ∨ (t.channel 1).filtered = none) → t.spm.output = 0) ∧
      (s.spm.activity = .running → (s.spm.state = .ok ∨ s.spm.state = .derated) →
        ((t.outputOutOfWindow = true ∨ t.inputLow = true ∨ t.temperature = .critical) →
          t.spm.state = .failed ∧ t.spm.outEn = false ∧ t.spm.recovery = some 5000 ∧ t.spm.qualification = 0 ∧
          t.spm.capacity = 0) ∧
        (t.outputOutOfWindow = false → t.inputLow = false → t.temperature ≠ .critical →
          (s.spm.state = .ok → t.temperature = .warn →
            t.spm.state = .derated ∧ t.spm.capacity = s.cfg.rated * s.cfg.derate / 100) ∧
          (s.spm.state = .derated → t.temperature = .clear → t.spm.state = .ok ∧ t.spm.capacity = s.cfg.rated) ∧
          ((s.spm.state = .ok ∧ t.temperature = .clear ∨ s.spm.state = .derated ∧ t.temperature = .warn) →
            t.spm.state = s.spm.state ∧ t.spm.capacity = s.spm.capacity))) ∧
      (s.spm.activity = .running → s.spm.state = .offline → t.inputLow = false → t.temperature ≠ .critical →
        (t.qualifies = false → t.spm.state = .offline ∧ t.spm.qualification = 0) ∧
        (t.qualifies = true → s.spm.qualification < 2 →
          t.spm.state = .offline ∧ t.spm.qualification = s.spm.qualification + 1) ∧
        (t.qualifies = true → s.spm.qualification = 2 → t.temperature = .clear →
          t.spm.state = .ok ∧ t.spm.capacity = s.cfg.rated ∧ t.spm.qualification = 0) ∧
        (t.qualifies = true → s.spm.qualification = 2 → t.temperature = .warn →
          t.spm.state = .derated ∧ t.spm.capacity = s.cfg.rated * s.cfg.derate / 100 ∧ t.spm.qualification = 0)) ∧
      (s.spm.activity = .running → s.spm.state = .offline → (t.inputLow = true ∨ t.temperature = .critical) →
        t.spm.state = .failed ∧ t.spm.outEn = false ∧ t.spm.recovery = some 5000 ∧ t.spm.qualification = 0 ∧
        t.spm.capacity = 0) ∧
      (s.spm.activity = .running → s.spm.state = .failed →
        t.spm = { s.spm with output := t.spm.output,
                             recovery := if t.inputGood = false ∨ t.temperature = .critical then some 5000
                                         else s.spm.recovery }) ∧
      (s.spm.activity = .frozen →
        t.spm = { s.spm with output := t.spm.output,
                             outEn := s.spm.outEn && !(t.outputOutOfWindow || t.inputLow ||
                                                       t.temperature == .critical) } ∧
        t.pbc.queue = s.pbc.queue ∧ t.self.supply.map (fun p => (p.state, p.capacity)) =
          s.self.supply.map (fun p => (p.state, p.capacity))) ∧
      (s.spm.activity = .inactive → t.spm = { s.spm with output := t.spm.output })

/-! ## Fans -/

/-- A gate end: speeds, spin-up and judging of every configured channel, and the gate that opens. -/
def Obligations.GateEndSettlesTheFans : Prop :=
  ∀ s : State,
    (s.role = .fan → s.fdu.gate ≠ none → ∃ t, exec .gateEnd s = .next t ∧ t.fdu.gate = some 480 ∧
      ∀ k, k < s.cfg.fanCount → k < 6 →
        let c := s.fdu.channel k
        let d := t.fdu.channel k
        let low := d.rpm < s.cfg.maxRpm * c.duty / 1000 * 60 / 100
        d.rpm = c.tach * 125 / s.cfg.pulses ∧ d.tach = 0 ∧ d.dutyChanged = false ∧
        (c.state = .spinup → 1 < c.spinup → d.state = .spinup ∧ d.spinup = c.spinup - 1) ∧
        (c.state = .spinup → c.spinup = 1 → c.ranWholeGate = false → d.state = .running ∧ d.ranWholeGate = true) ∧
        (c.state = .running → c.ranWholeGate = true → c.dutyChanged = false →
          (¬ low → d.state = .running ∧ d.lowGates = 0) ∧
          (low → c.lowGates < 2 → d.state = .running ∧ d.lowGates = c.lowGates + 1) ∧
          (low → c.lowGates = 2 → d.state = .failed ∧ d.failureMark = true ∧ d.lowGates = 0)) ∧
        (c.state = .running → (c.ranWholeGate = false ∨ c.dutyChanged = true) →
          d.state = .running ∧ d.lowGates = c.lowGates) ∧
        ((c.state = .absent ∨ c.state = .idle ∨ c.state = .failed) → d.state = c.state)) ∧
    ((s.role ≠ .fan ∨ s.fdu.gate = none) → exec .gateEnd s = .next s)

/-- The fan update of a gate end under the drive condition: zone demand, boost, duty, compares and saturation. -/
def Obligations.FanUpdateFollowsTheZone : Prop :=
  ∀ s : State, s.role = .fan → s.fdu.gate ≠ none → s.fdu.mode = .drive → ∃ t, exec .gateEnd s = .next t ∧
    (∀ a p, (s.entry a).part = .blade p → ((s.entry a).state = .live ∨ (s.entry a).state = .stale) →
      p.zone = s.cfg.zone → p.demand ≤ t.fdu.zoneDemand) ∧
    (t.fdu.zoneDemand = 0 ∨ ∃ e p, e ∈ s.cen.entries ∧ e.part = .blade p ∧ (e.state = .live ∨ e.state = .stale) ∧
      p.zone = s.cfg.zone ∧ p.demand = t.fdu.zoneDemand) ∧
    (t.fdu.boost = true ↔
      (∃ k, k < s.cfg.fanCount ∧ ((t.fdu.channel k).state = .failed ∨ (t.fdu.channel k).state = .absent)) ∨
      (∃ a p, a ≠ s.addr ∧ (s.entry a).part = .fan p ∧ p.zone = s.cfg.zone ∧
        (((s.entry a).state = .live ∧ (p.airflow = .degraded ∨ p.airflow = .lost)) ∨ (s.entry a).state = .stale))) ∧
    t.fdu.base = (if t.fdu.boost then min 1000 (s.cfg.minDuty + (1000 - s.cfg.minDuty) * t.fdu.zoneDemand / 255 + 250)
      else s.cfg.minDuty + (1000 - s.cfg.minDuty) * t.fdu.zoneDemand / 255) ∧
    t.fdu.duty = (if s.fdu.duty < t.fdu.base then min t.fdu.base (s.fdu.duty + 100)
      else max t.fdu.base (s.fdu.duty - 25)) ∧
    (∀ k, k < 6 → (t.fdu.channel k).state.driven = true →
      (t.fdu.channel k).duty = t.fdu.duty ∧ (t.fdu.channel k).preload = t.fdu.duty * (s.fdu.top + 1) / 1000) ∧
    t.fdu.saturation = (if t.fdu.duty = 1000 then min 8 (s.fdu.saturation + 1) else 0)

/-- The presence of a configured fan: a removal clears its channel, an insertion spins it up or leaves it idle. -/
def Obligations.FanPresenceFollowsTheInput : Prop :=
  ∀ (s : State) (k : Nat), s.shaped → s.role = .fan → s.station ≠ .start → s.station ≠ .setup → k < s.cfg.fanCount →
    k < 6 →
    ((s.input (k + 2)).state = .yes → (s.fdu.channel k).state ≠ .absent →
      ∃ t, exec (.fanPresentChange k false) s = .next t ∧
        (let d := t.fdu.channel k;
          d.state = .absent ∧ d.failureMark = false ∧ d.duty = 0 ∧ d.spinup = 0 ∧ d.lowGates = 0 ∧ d.preload = 0 ∧
          d.shadow = 0)) ∧
    ((s.input (k + 2)).state = .no → (s.fdu.channel k).state = .absent →
      ∃ t, exec (.fanPresentChange k true) s = .next t ∧
        (let d := t.fdu.channel k;
          (s.fdu.mode = .drive → d.state = .spinup ∧ d.spinup = 5 ∧ d.lowGates = 0 ∧ d.duty = s.fdu.duty ∧
            d.preload = s.fdu.duty * (s.fdu.top + 1) / 1000 ∧ d.shadow = (s.fdu.channel k).shadow) ∧
          (s.fdu.mode = .mute → d.state = .spinup ∧ d.spinup = 5 ∧ d.lowGates = 0 ∧ d.duty = s.fdu.duty ∧
            d.preload = s.fdu.top + 1 ∧ d.shadow = s.fdu.top + 1) ∧
          ((s.fdu.mode = .none ∨ s.fdu.mode = .retained) → d = { s.fdu.channel k with state := .idle }))) ∧
    (∀ present, ∃ t, exec (.fanPresentChange k present) s = .next t ∧ ∀ j, j ≠ k →
      t.fdu.channel j = s.fdu.channel j)

/-- A tach edge counts within a gate on a configured channel, saturating; a PWM wrap loads the preloads of the channels in
force. Neither changes anything else. -/
def Obligations.TachEdgesAndWraps : Prop :=
  ∀ s : State, s.shaped →
    (∀ k, k < s.cfg.fanCount → k < 6 → s.fdu.gate ≠ none → ∃ f, exec (.tachEdge k) s = .next { s with fdu := f } ∧
      f.channel k = { s.fdu.channel k with tach := if (s.fdu.channel k).tach < 65535 then (s.fdu.channel k).tach + 1
                                                   else (s.fdu.channel k).tach } ∧
      (∀ j, j ≠ k → f.channel j = s.fdu.channel j) ∧ { f with channels := s.fdu.channels } = s.fdu) ∧
    (∀ k, (s.cfg.fanCount ≤ k ∨ s.fdu.gate = none) → exec (.tachEdge k) s = .next s) ∧
    (s.fdu.counter ≠ none → ∃ f, exec .pwmWrap s = .next { s with fdu := f } ∧ f.counter = some 0 ∧
      (∀ k, k < 6 → f.channel k = if k < s.fdu.count then { s.fdu.channel k with shadow := (s.fdu.channel k).preload }
        else s.fdu.channel k) ∧
      { f with channels := s.fdu.channels, counter := s.fdu.counter } = s.fdu) ∧
    (s.fdu.counter = none → exec .pwmWrap s = .next s)

/-- R143. A channel's drive output and the level at its pin. -/
def Obligations.PwmOutputsSpreadOverThePeriod : Prop :=
  ∀ (f : Fdu) (k c : Nat), f.counter = some c →
    (k < f.count → (f.pwmActive k = true ↔
      (c + k * (f.top + 1) / f.count) % (f.top + 1) < (f.channel k).shadow)) ∧
    (f.count ≤ k → f.pwmActive k = false) ∧
    (f.activeLow.getD k false = false → f.pwmPin k = f.pwmActive k) ∧
    (f.activeLow.getD k false = true → f.pwmPin k = !f.pwmActive k)

/-! ## Lines and the lane map -/

/-- R189. The blink phase, the indicator bits and the outputs that take them. -/
def Obligations.IndicatorFollowsItsTable : Prop :=
  (∀ s : State, exec .blinkPhaseChange s = .next { s with
    lnu := { s.lnu with blinkSecond := !s.lnu.blinkSecond, blinkTimer := some 500 } }) ∧
  (∀ (i : Instr) (straps : Straps) (s : State), restarts i straps s →
    ∃ t, exec i s = .next t ∧ t.lnu.blinkSecond = false ∧ t.lnu.blinkTimer = some 500) ∧
  (∀ (s : State) (j : Nat), j < 8 → s.source (j + 6) = s.indicatorBit j) ∧
  (∀ (s : State) (j : Nat),
    ((s.cfg.nat 54 s.indicatorCode).testBit j = false → s.indicatorBit j = (s.cfg.nat 53 s.indicatorCode).testBit j) ∧
    ((s.cfg.nat 54 s.indicatorCode).testBit j = true → s.lnu.blinkSecond = false →
      s.indicatorBit j = (s.cfg.nat 53 s.indicatorCode).testBit j) ∧
    ((s.cfg.nat 54 s.indicatorCode).testBit j = true → s.lnu.blinkSecond = true →
      s.indicatorBit j = !(s.cfg.nat 53 s.indicatorCode).testBit j))

/-- THROTTLE, the outputs that a role fixes, the sources of the others, the combiners (a field out of its range reads as
clamping would make it: log 37; THROTTLE_REQ with THROTTLE: log 52), and the indicator code as the highest whose condition holds. -/
def Obligations.OutputsFollowTheirSignals : Prop :=
  ∀ s : State,
    (s.throttle = true ↔ s.role = .blade ∧ (s.station = .joined ∨ s.station = .leaving ∨ s.station = .mute) ∧
      ((∃ k, s.rsq.state = .ramp k) ∨ s.rsq.state = .on ∨ s.rsq.state = .stopWait) ∧
      (s.self.held < s.cfg.fullLevel ∨ s.client.target < s.self.held)) ∧
    (s.role = .blade → (∀ k, k < 3 → s.output k = s.rsq.enable k) ∧ s.output 3 = s.throttle) ∧
    (s.role = .supply → s.output 0 = s.spm.outEn) ∧ (s.role = .uplink → s.output 0 = s.lmp.xbarEn) ∧
    (∀ n, (s.role = .fan ∨ 4 ≤ n ∨ (s.role ≠ .blade ∧ 0 < n)) →
      (s.station = .start → s.output n = false) ∧
      (s.station ≠ .start → s.output n = s.source (s.cfg.nat 49 n))) ∧
    s.source 0 = false ∧ s.source 1 = true ∧ (∀ c, c < 4 → s.source (c + 2) = s.combiner c) ∧
    (∀ j, j < 8 → s.source (j + 6) = s.indicatorBit j) ∧ (∀ n, 14 ≤ n → s.source n = false) ∧
    (∀ c, let x := if s.named c = [] then false
                   else if 1 ≤ s.cfg.get 50 c then (s.named c).all id else (s.named c).any id
      s.combiner c = if 1 ≤ s.cfg.get 51 c then !x else x) ∧
    (s.signal 1 = s.seated ∧ s.signal 2 = s.ejectorOpen ∧ (s.signal 3 = true ↔ s.station = .joined) ∧
      (s.signal 4 = true ↔ s.station = .mute) ∧ (s.signal 5 = true ↔ s.role = .blade ∧ s.rsq.state = .on) ∧
      s.signal 6 = s.throttle ∧ (s.signal 7 = true ↔ s.role = .blade ∧ s.rsq.state = .stopWait) ∧
      (s.signal 8 = true ↔ (s.role = .blade ∧ s.ownHolding ≠ none) ∨ (s.role = .uplink ∧ 0 < s.self.offer)) ∧
      (s.signal 9 = true ↔ (s.role = .blade ∧ s.client.zoneAirflow = .degraded) ∨
        (s.role = .fan ∧ s.fdu.airflow = .degraded)) ∧
      (s.signal 10 = true ↔ (s.role = .blade ∧ s.client.zoneAirflow = .lost) ∨
        (s.role = .fan ∧ s.fdu.airflow = .lost)) ∧
      (s.signal 11 = true ↔ ∃ ch ∈ s.enabledChannels, (s.channel ch).level ≠ .clear) ∧
      (s.signal 12 = true ↔ ∃ ch ∈ s.enabledChannels, (s.channel ch).level = .critical) ∧
      (s.signal 13 = true ↔ s.role = .fan ∧ ∃ k, k < s.cfg.fanCount ∧ (s.fdu.channel k).failureMark = true) ∧
      (s.signal 14 = true ↔ s.role = .supply ∧ (s.spm.state = .ok ∨ s.spm.state = .derated)) ∧
      s.signal 15 = s.cen.deficit ∧
      ∀ n, n < 5 → (s.role = .blade → s.signal (16 + n) = (decide (n < 3) && (s.input (5 + n)).isYes)) ∧
        (s.role = .supply → s.signal (16 + n) = (s.input (3 + n)).isYes) ∧
        (s.role = .uplink → s.signal (16 + n) = (s.input (2 + n)).isYes) ∧
        (s.role = .fan → s.signal (16 + n) = false)) ∧
    s.indicatorCode =
      (if s.role = .uplink ∧ s.lmp.crossbar = .fault then 15
       else if ∃ ch ∈ s.enabledChannels, (s.channel ch).status = .faulted then 14
       else if (s.role = .blade ∧ (s.station = .joined ∨ s.station = .leaving ∨ s.station = .mute) ∧
           s.client.zoneAirflow = .lost) ∨
         (s.role = .fan ∧ s.fdu.airflow = .lost ∧ (s.fdu.mode = .drive ∨ s.fdu.mode = .mute)) then 13
       else if s.cen.deficit = true then 12
       else if s.role = .blade ∧ s.rsq.state = .fault then 11
       else if s.station = .mute then 10
       else if s.station = .leaving then 9
       else if s.role = .blade ∧ s.rsq.state = .stopWait then 8
       else if s.station = .joined ∧ s.throttle = true then 7
       else if s.station = .joined ∧ 0 < s.self.held then 6
       else if s.station = .joined ∧ s.self.claim ≠ none then 5
       else if s.station = .joined then 4
       else if s.station = .listen then 3
       else if s.station = .parked then 2
       else if s.station = .setup then 1
       else 0)

/-- A general-purpose input or AC_WARN settles at a level, and nothing else changes; a pin that is neither in its role, and
a tray's, does nothing (log 7 for the run of samples, log 32 for the pins). -/
def Obligations.GeneralInputsSettle : Prop :=
  (∀ (s : State) (pin : Nat) (level : Bool), s.shaped → pin < 8 →
    ((s.role = .blade ∧ 5 ≤ pin) ∨ (s.role = .supply ∧ 2 ≤ pin) ∨ (s.role = .uplink ∧ 2 ≤ pin)) →
    ∃ x, exec (.gpiChange pin level) s = .next { s with lnu := { s.lnu with inputs := s.lnu.inputs.set pin x } } ∧
      x.state = if level then .yes else .no) ∧
  (∀ (s : State) (pin : Nat) (level : Bool), (s.role = .fan ∨ pin < 2 ∨ 8 ≤ pin ∨ (s.role = .blade ∧ pin < 5)) →
    exec (.gpiChange pin level) s = .next s)

/-- The end of a shift: the map in flight is committed and trusted, and a trusted read-back that differs from the map
committed before puts the crossbar in FAULT (without a shift there is no end: log 6). A map goes over the wires bit 47 first,
out on MAP_DO as on MAP_DI, in 500 µs with the LOAD strobe. In a map, lane k stands in bits 6k + 5 to 6k: enable above the
owner's address, and 0 for a free slot. -/
def Obligations.ShiftEndCommitsTheMap : Prop :=
  (∀ (mapDi : List Bool) (s : State), let readback := mapRead mapDi
    (∀ m, s.lmp.inFlight = some m → ∃ t, exec (.shiftEnd mapDi) s = .next t ∧ t.lmp.committed = some m ∧
      t.lmp.trusted = true ∧
      (s.lmp.trusted = true → s.lmp.crossbar = .ok → s.lmp.committed ≠ some readback → t.lmp.crossbar = .fault) ∧
      ((s.lmp.trusted = false ∨ s.lmp.crossbar = .fault ∨ s.lmp.committed = some readback) →
        t.lmp.crossbar = s.lmp.crossbar)) ∧
    (s.lmp.inFlight = none → exec (.shiftEnd mapDi) s = .next s)) ∧
  (∀ m : LaneMap, (mapDo m).length = 48 ∧ (∀ j, j < 48 → (mapDo m)[j]? = some (m.getLsbD (47 - j))) ∧
    mapRead (mapDo m) = m ∧ shiftParts m = (mapDo m).map ShiftPart.bit ++ [.load] ∧ shiftUs m = 500) ∧
  (∀ (table : List (Option Addr)) (k : Nat), k < 8 →
      (∀ a, table.getD k none = some a → (laneMapOf table).getLsbD (6 * k + 5) = true ∧
        ∀ j, j < 5 → (laneMapOf table).getLsbD (6 * k + j) = a.getLsbD j) ∧
      (table.getD k none = none → ∀ j, j < 6 → (laneMapOf table).getLsbD (6 * k + j) = false))

/-! ## The bus -/

/-- Synchronisation, and the start of a frame: nothing is sent where no frame is offered; bits that read as driven put the
attempt on the line, a recessive key bit read dominant loses and leaves the frame in its slot, or its follow-on in its
place, and any other difference is a bit error. -/
def Obligations.SynchronisationAndFrameStart : Prop :=
  ∀ (s : State) (line : List Bool),
    ((s.station = .start ∨ s.station = .setup) → exec .lineSynchronised s = .next s) ∧
    (s.station ≠ .start → s.station ≠ .setup →
      exec .lineSynchronised s = .next { s with pbc := { s.pbc with synced := true } }) ∧
    (s.offered = none → exec (.frameStart line) s = .next s) ∧
    (∀ i f, s.offered = some (i, f) →
      let driven := drivenBits s.addr (buildPayload s f.contents)
      (line <+: driven → exec (.frameStart line) s = .next { s with
        pbc := { s.pbc with onLine := some { slot := i, payload := buildPayload s f.contents, bitError := false } } }) ∧
      (∀ pre d r ds rs, driven = pre ++ d :: ds → line = pre ++ r :: rs → d ≠ r →
        (pre.length < 8 → d = true →
          (f.followOn = none → exec (.frameStart line) s = .next s) ∧
          (∀ r, f.followOn = some r → exec (.frameStart line) s = .next (s.setSlot i
            (some { f with contents := r, attempts := 0, followOn := none })))) ∧
        ((8 ≤ pre.length ∨ d = false) → exec (.frameStart line) s = .next { s with
          pbc := { s.pbc with onLine := some { slot := i, payload := buildPayload s f.contents, bitError := true } } })))

/-- The settlement of an own attempt. Accepted, the fault score falls by 1; vetoed, it rises by 4, and at 64 a listening
station enters MUTE with its queue cleared; otherwise an ANNOUNCE, INVENTORY or QUERY keeps its slot for its first two
failures and leaves it at the third. -/
def Obligations.OwnAttemptIsSettled : Prop :=
  ∀ (s : State) (o : OnLine), s.pbc.synced = true → s.station ≠ .start → s.station ≠ .setup → s.pbc.onLine = some o →
    (∀ i p check, i.acceptedFrame = some (s.addr, p, check) → p.kind = o.payload.kind → o.bitError = false →
      ∃ t, exec i s = .next t ∧ t.pbc.onLine = none ∧ t.pbc.faultScore = s.pbc.faultScore - 1) ∧
    (∀ frame : FrameRead, frame.sender = s.addr → ∃ t, exec (.frameVetoed frame) s = .next t ∧ t.pbc.onLine = none ∧
      t.pbc.faultScore = min 64 (s.pbc.faultScore + 4) ∧
      (s.station.counting = true →
        t.pbc.vetoes = if s.pbc.vetoes < 65535 then s.pbc.vetoes + 1 else s.pbc.vetoes) ∧
      (s.station.listening = true → 60 ≤ s.pbc.faultScore →
        t.station = .mute ∧ t.pbc.muteFlag = true ∧ t.pbc.muteCause = some .faultScore ∧ ∀ j, t.slot j = none) ∧
      (∀ f, (o.slot = .announce ∨ o.slot = .inventory ∨ o.slot = .query) → s.slot o.slot = some f →
        f.followOn = none → s.station.listening = true → s.pbc.faultScore < 60 →
        leftLeaving s t ∨
          ((f.attempts < 2 → t.slot o.slot = some { f with attempts := f.attempts + 1 }) ∧
            (f.attempts = 2 → t.slot o.slot = none))))

/-- Frames of others that this station does not accept: a vetoed frame changes the receive counters alone, and a frame
that bears the own address while none is being sent takes a listening station to MUTE. -/
def Obligations.VetoedFramesAndAddressClash : Prop :=
  ∀ (s : State) (frame : FrameRead), s.pbc.synced = true → s.pbc.onLine = none →
    (s.station.counting = true → (frame.sender ≠ s.addr ∨ s.station = .mute) →
      ∃ t, exec (.frameVetoed frame) s = .next t ∧
        t = { s with pbc := { s.pbc with stamp := t.pbc.stamp, checkFailures := t.pbc.checkFailures,
                                         vetoes := t.pbc.vetoes } } ∧
        t.pbc.vetoes = (if s.pbc.vetoes < 65535 then s.pbc.vetoes + 1 else s.pbc.vetoes) ∧
        t.pbc.checkFailures = (if frame.checkPasses = false ∧ s.pbc.checkFailures < 65535
          then s.pbc.checkFailures + 1 else s.pbc.checkFailures)) ∧
    (s.station.listening = true → ∀ i, i = .frameVetoed frame ∨ (∃ p check, i.acceptedFrame = some (s.addr, p, check)) →
      (i = .frameVetoed frame → frame.sender = s.addr) →
      ∃ t, exec i s = .next t ∧ t.station = .mute ∧ t.pbc.muteFlag = true ∧ t.pbc.muteCause = some .addressClash ∧
        t.pbc.faultScore = s.pbc.faultScore ∧ (∀ j, t.slot j = none) ∧ t.life.listenTimer = none ∧
        t.life.bumpTimer = none ∧ t.life.leaving = none ∧ t.cen.announceTimer = none)

/-! ## Accepted frames of peers -/

/-- Every accepted frame but DEPART makes its sender's entry LIVE, ends its stale hold and restarts its silence timer at
1920 ms, whatever its contents. -/
def Obligations.AcceptedFrameMakesItsSenderLive : Prop :=
  ∀ (i : Instr) (a : Addr) (p : Payload) (check : Half) (s : State), i.acceptedFrame = some (a, p, check) →
    p.kind ≠ .depart → s.shaped → s.hears a p check →
    ∃ t, exec i s = .next t ∧ (leftLeaving s t ∨
      ((t.entry a).state = .live ∧ (t.entry a).silence = some 1920 ∧ (t.entry a).staleHold = none))

/-- POWER_CLAIM and POWER_RELEASE. A claim at or below the held level withdraws; one above it waits, or has been admitted
by the walk. A release lowers the held level and withdraws the claim. -/
def Obligations.PowerFramesMoveTheHeldLevel : Prop :=
  ∀ (a : Addr) (level check : Half) (s : State), s.shaped →
    let h := (s.entry a).held
    let x := min 4095 level.toNat
    (s.hears a (.powerClaim level) check → ∃ t, exec (.powerClaimAccepted a level check) s = .next t ∧
      (leftLeaving s t ∨
        ((∀ p, (s.entry a).part ≠ .supply p) →
          (x ≤ h → (t.entry a).held = h ∧ (t.entry a).claim = none) ∧
          (h < x → ((t.entry a).held = h ∧ (t.entry a).claim = some x) ∨
            ((t.entry a).held = x ∧ (t.entry a).claim = none))) ∧
        (∀ p, (s.entry a).part = .supply p →
          t.cen.anomalies = if s.cen.anomalies < 65535 then s.cen.anomalies + 1 else s.cen.anomalies))) ∧
    (s.hears a (.powerRelease level) check → ∃ t, exec (.powerReleaseAccepted a level check) s = .next t ∧
      (leftLeaving s t ∨ ((t.entry a).held = min h x ∧ (t.entry a).claim = none)))

/-- The frames that report: ALERT with its three codes, and HEAT. Each writes its field of the sender's role part, within
its range; a code fault and a role that does not match count one anomaly. -/
def Obligations.ReportsReachTheSendersEntry : Prop :=
  ∀ (a : Addr) (b1 b2 : Byte) (value check : Half) (s : State), s.shaped →
    let faulty (t : State) : Prop := t.cen.anomalies = if s.cen.anomalies < 65535 then s.cen.anomalies + 1
      else s.cen.anomalies
    (s.hears a (.alert 1 b1 value) check → ∃ t, exec (.capacityDropAccepted a b1 value check) s = .next t ∧
      (leftLeaving s t ∨
        ((∀ p, (s.entry a).part = .supply p → b1 = 0 →
          (t.entry a).part = .supply { p with capacity := min 4095 value.toNat }) ∧
        (((∀ p, (s.entry a).part ≠ .supply p) ∨ b1 ≠ 0) → faulty t)))) ∧
    (s.hears a (.alert 2 b1 value) check → ∃ t, exec (.airflowDropAccepted a b1 value check) s = .next t ∧
      (leftLeaving s t ∨
        ((∀ p v, (s.entry a).part = .fan p → 1 ≤ p.zone → p.zone ≤ 4 → b1.toNat = p.zone →
          Airflow.ofCode value.toNat = some v → (t.entry a).part = .fan { p with airflow := v }) ∧
        (((∀ p, (s.entry a).part = .fan p → p.zone ≠ b1.toNat) ∨ Airflow.ofCode value.toNat = none) → faulty t)))) ∧
    (s.hears a (.alert 3 b1 value) check → ∃ t, exec (.lanesDropAccepted a b1 value check) s = .next t ∧
      (leftLeaving s t ∨
        (((s.entry a).uplink.isSome = true → b1 = 0 → (t.entry a).offer = min 8 value.toNat) ∧
        (((s.entry a).uplink.isSome = false ∨ b1 ≠ 0) → faulty t)))) ∧
    (s.hears a (.heat b1 b2) check → ∃ t, exec (.heatAccepted a b1 b2 check) s = .next t ∧
      (leftLeaving s t ∨
        ((∀ p, (s.entry a).blade = some p → 1 ≤ b1.toNat → b1.toNat ≤ 4 →
          (t.entry a).blade.map (fun q => (q.zone, q.demand)) = some (b1.toNat, b2.toNat)) ∧
        (∀ r, (s.entry a).role = some r → r ≠ .blade → faulty t) ∧
        ((b1.toNat = 0 ∨ 4 < b1.toNat) → faulty t))))

/-- DEPART vacates its sender's entry; LANE_CLAIM is taken or served (unless this station's own offer changes at the same
event), LANE_RELEASE frees; INVENTORY fills the identity;
QUERY starts the quiet timer of its target and has the target answer. -/
def Obligations.DepartLaneAndIdentityFrames : Prop :=
  ∀ (a : Addr) (b1 b2 : Byte) (rest : List Byte) (check : Half) (s : State), s.shaped →
    (s.hears a (.depart b1) check → 1 ≤ b1.toNat → b1.toNat ≤ 3 → (s.entry a).state ≠ .vacant →
      ∃ t, exec (.departAccepted a b1 check) s = .next t ∧ (leftLeaving s t ∨ t.entry a = Entry.vacant)) ∧
    (s.hears a (.laneClaim b1 b2) check → b1.toNat < 32 → (s.entry a).blade.isSome = true → 0 < (s.entry a).held →
      let u : Addr := BitVec.ofNat 5 b1.toNat
      let n := min (max 1 (min 4 b2.toNat)) (s.entry u).offer
      (s.entry u).state = .live → 0 < (s.entry u).offer → (s.entry u).offer ≤ 8 →
      ∃ t, exec (.laneClaimAccepted a b1 b2 check) s = .next t ∧ (leftLeaving s t ∨
        (t.entry a).laneClaim = some (u, n) ∨
        ((t.entry a).laneClaim = none ∧ ((t.entry u).lanesOf a).length = n) ∨
        (u = s.addr ∧ (t.entry u).offer ≠ (s.entry u).offer))) ∧
    (s.hears a (.laneRelease b1) check → b1.toNat < 32 →
      let u : Addr := BitVec.ofNat 5 b1.toNat
      ∃ t, exec (.laneReleaseAccepted a b1 check) s = .next t ∧ (leftLeaving s t ∨
        ((t.entry u).lanesOf a = [] ∧ ∀ n, (t.entry a).laneClaim ≠ some (u, n)))) ∧
    (s.hears a (.inventory b1 rest) check → ∃ t, exec (.inventoryAccepted a b1 rest check) s = .next t ∧
      (leftLeaving s t ∨
        ((b1.toNat = 0 → (t.entry a).identity = some { moduleKind := byteAt rest 0, revision := byteAt rest 1,
                                                       partName := nameOf (rest.drop 2), serial := none }) ∧
        (b1.toNat = 1 → (t.entry a).identity =
          (s.entry a).identity.map (fun d => { d with serial := some (nameOf rest) })) ∧
        (2 ≤ b1.toNat → (t.entry a).identity = (s.entry a).identity)))) ∧
    (s.hears a (.query b1) check → b1.toNat < 32 →
      let u : Addr := BitVec.ofNat 5 b1.toNat
      ∃ t, exec (.queryAccepted a b1 check) s = .next t ∧ (leftLeaving s t ∨
        ((t.entry u).quiet = some 640 ∧
        (u = s.addr → s.station ≠ .mute → (t.slot .inventory).isSome = true))))

/-- ANNOUNCE: a sound payload overwrites the sender's station state, policy, priority, levels and role part, a blade's lanes
among them: an honoured holding is taken, another frees its lanes, and a lane claim waits or is served (one without held
power waits: log 15; lanes that this station's own offer changes at the same event stand aside). A code fault counts one
anomaly and leaves them. In either case a peer whose identity is not complete is asked for it. -/
def Obligations.AnnounceOverwritesTheEntry : Prop :=
  ∀ (a : Addr) (payload : List Byte) (check : Half) (s : State), s.shaped → s.hears a (.announce payload) check →
    ∃ t, exec (.announceAccepted a payload check) s = .next t ∧ (leftLeaving s t ∨
      ((∀ body, decodeAnnounce payload = some body →
        (t.entry a).station = some body.station ∧ (t.entry a).policy = some body.policy ∧
        (t.entry a).priority = body.priority ∧ (t.entry a).role = body.part.role ∧
        (body.claim = none → (t.entry a).held = body.held ∧ (t.entry a).claim = none) ∧
        (∀ x, body.claim = some x → ((t.entry a).held = body.held ∧ (t.entry a).claim = some x) ∨
          ((t.entry a).held = x ∧ (t.entry a).claim = none)) ∧
        (∀ p, body.part = .supply p → (t.entry a).part = .supply p) ∧
        (∀ p, body.part = .fan p → (t.entry a).part = .fan p) ∧
        (∀ p, body.part = .uplink p → (t.entry a).offer = p.offer ∧
          (t.entry a).uplink.map (fun q => q.crossbar) = some p.crossbar) ∧
        (∀ p, body.part = .blade p →
          (∀ u lanes, body.holding = some (u, lanes) → 0 < body.held → u ≠ a → (s.entry u).uplink.isSome = true →
            (∀ k ∈ lanes, k < (s.entry u).offer) →
            ((t.entry a).laneClaim = none ∧ (t.entry u).lanesOf a = lanes ∧ ∀ v, v ≠ u → (t.entry v).lanesOf a = []) ∨
            (u = s.addr ∧ (t.entry u).offer ≠ (s.entry u).offer)) ∧
          ((body.holding = none ∨ ∃ u lanes, body.holding = some (u, lanes) ∧
              (body.held = 0 ∨ (s.entry u).uplink.isSome = false ∨ ∃ k ∈ lanes, (s.entry u).offer ≤ k)) →
            body.laneClaim = none → (t.entry a).laneClaim = none ∧ ∀ v, (t.entry v).lanesOf a = []) ∧
          (∀ u n, body.laneClaim = some (u, n) → u ≠ a → (s.entry u).state = .live →
            0 < (s.entry u).offer → (s.entry u).offer ≤ 8 →
            (t.entry a).laneClaim = some (u, min n (s.entry u).offer) ∨
            ((t.entry a).laneClaim = none ∧ ((t.entry u).lanesOf a).length = min n (s.entry u).offer) ∨
            (u = s.addr ∧ (t.entry u).offer ≠ (s.entry u).offer)) ∧
          (∀ u n, body.laneClaim = some (u, n) → body.held = 0 → body.claim = none → ∀ v, (t.entry v).lanesOf a = []) ∧
          (∀ u n, body.laneClaim = some (u, n) → ((s.entry u).state ≠ .live ∨ (s.entry u).offer = 0) →
            u ≠ a → (t.entry a).laneClaim = none ∧ ∀ v, (t.entry v).lanesOf a = [])) ∧
        (∀ p, body.part = .blade p → ∃ q, (t.entry a).part = .blade q ∧ q.zone = p.zone ∧ q.demand = p.demand ∧
          q.full = p.full ∧ q.reduced = p.reduced)) ∧
      (decodeAnnounce payload = none →
        t.cen.anomalies = (if s.cen.anomalies < 65535 then s.cen.anomalies + 1 else s.cen.anomalies) ∧
        (t.entry a).station = (s.entry a).station ∧ (t.entry a).policy = (s.entry a).policy ∧
        (t.entry a).priority = (s.entry a).priority ∧ (t.entry a).role = (s.entry a).role) ∧
      (s.station = .joined → (s.entry a).identityComplete = false → (s.entry a).quiet = none →
        (t.slot .query).isSome = true)))

/-- The timers of the census at their ends: silence makes an entry STALE, with a stale hold of 30 s for a BLADE or SUPPLY;
the stale hold vacates; the quiet timer stops; the announce timer starts its round of 640 ms with ANNOUNCE requested. A
timer that is not running does nothing. -/
def Obligations.CensusTimersAtTheirEnds : Prop :=
  ∀ (a : Addr) (s : State), s.shaped →
    ((s.entry a).state = .live → (s.entry a).silence ≠ none → ∃ t, exec (.silenceExpiry a) s = .next t ∧
      (leftLeaving s t ∨ ((t.entry a).state = .stale ∧ (t.entry a).silence = none ∧
        (t.entry a).staleHold =
          (if (s.entry a).role = some .blade ∨ (s.entry a).role = some .supply then some 30000 else none)))) ∧
    (((s.entry a).state ≠ .live ∨ (s.entry a).silence = none) → exec (.silenceExpiry a) s = .next s) ∧
    ((s.entry a).state = .stale → (s.entry a).staleHold ≠ none → ∃ t, exec (.staleHoldExpiry a) s = .next t ∧
      (leftLeaving s t ∨ t.entry a = Entry.vacant)) ∧
    (((s.entry a).state ≠ .stale ∨ (s.entry a).staleHold = none) → exec (.staleHoldExpiry a) s = .next s) ∧
    ((s.entry a).quiet ≠ none → ∃ t, exec (.queryQuietExpiry a) s = .next t ∧ (t.entry a).quiet = none) ∧
    ((s.entry a).quiet = none → exec (.queryQuietExpiry a) s = .next s) ∧
    (s.cen.announceTimer ≠ none → ∃ t, exec .announceTimerExpiry s = .next t ∧
      (leftLeaving s t ∨ (t.cen.announceTimer = some 640 ∧
        (s.station.listening = true → (t.slot .announce).isSome = true)))) ∧
    (s.cen.announceTimer = none → exec .announceTimerExpiry s = .next s)

/-! ## The power tally -/

/-- R71. The reserve and the two budgets, over the capacity that LIVE supplies in OK or DERATED contribute. -/
def Obligations.BudgetsFromCapacityAndPolicy : Prop :=
  ∀ (c : Census) (p : Policy),
    (∀ (e : Entry) (q : SupplyPart), e.part = .supply q → e.contribution =
      if e.state = .live ∧ (q.state = .ok ∨ q.state = .derated) then q.capacity else 0) ∧
    (∀ e : Entry, (∀ q, e.part ≠ .supply q) → e.contribution = 0) ∧
    c.capacity = (c.entries.map Entry.contribution).sum ∧
    (p.nPlusOne = false → c.reserve p = 0) ∧
    (p.nPlusOne = true → (∀ e ∈ c.entries, e.contribution ≤ c.reserve p) ∧
      (c.reserve p = 0 ∨ ∃ e ∈ c.entries, e.contribution = c.reserve p)) ∧
    c.admission p = (if p.cap ≠ 0 ∧ p.cap < c.capacity - c.reserve p then p.cap else c.capacity - c.reserve p) ∧
    c.shedBudget p = (if p.cap ≠ 0 ∧ p.cap < c.capacity then p.cap else c.capacity) ∧
    c.reserve p ≤ c.capacity ∧ c.admission p ≤ c.shedBudget p

/-- R76's guarantee: whatever the list, the walk never takes the committed load above the budget, and where the load is
within it, the load stays there; it changes held levels and claims of the listed claimants alone. -/
def Obligations.AdmissionStaysWithinTheBudget : Prop :=
  ∀ (c : Census) (budget : Nat) (list : List Addr), c.entries.length = 32 →
    (Census.walk budget list c).load ≤ max c.load budget ∧
    (∀ a, a ∉ list → (Census.walk budget list c).get a = c.get a) ∧
    ∀ a, (Census.walk budget list c).get a = c.get a ∨
      ∃ x, (c.get a).claim = some x ∧ (Census.walk budget list c).get a = { c.get a with held := x, claim := none }

/-- The shed computation ends within the shed budget or with its candidates exhausted; no effective level rises, and only
candidates are touched. -/
def Obligations.ShedReachesItsBudgetOrExhausts : Prop :=
  ∀ (c : Census) (budget : Nat), c.entries.length = 32 →
    ((c.shedAll budget).effLoad ≤ budget ∨ ∀ a ∈ c.candidates, ((c.shedAll budget).get a).effective = 0) ∧
    (∀ a, ((c.shedAll budget).get a).effective ≤ (c.get a).effective) ∧
    (∀ a, a ∉ c.candidates → (c.shedAll budget).get a = c.get a) ∧
    (∀ a, { (c.shedAll budget).get a with shed := none } = { c.get a with shed := none })
end

