-- ==== Sys2Proof/Laws/Basics.lean ====
section
/-! SUPPORT. What the named operations over queues, counters, census entries, fan channels and inputs do: reading back
what was written, lengths and limits kept, bits read back as they went out, the commands a port write names. -/

namespace Sys2Proof.Machine

set_option linter.all false
set_option Elab.async false

/-! ## Counters and the event queue -/

theorem satInc_le {limit x : Nat} (h : x ≤ limit) : satInc limit x ≤ limit := by
  unfold satInc; split <;> omega

/-- The limits of R197. -/
def Lpt.within (p : Lpt) : Prop := p.events.length ≤ Config.eventPlaces ∧ p.overflow ≤ Config.counterMax

theorem Lpt.push_within {p : Lpt} (e : Event) (h : p.within) : (p.push e).within := by
  unfold Lpt.push
  split
  · refine ⟨?_, h.2⟩
    simp only [List.length_append, List.length_cons, List.length_nil]
    omega
  · exact ⟨h.1, satInc_le h.2⟩

theorem Lpt.pushAll_within (es : List Event) : ∀ {p : Lpt}, p.within → (es.foldl Lpt.push p).within := by
  induction es with
  | nil => exact fun h => h
  | cons e es ih => exact fun h => ih (Lpt.push_within e h)

/-! ## The transmit queue -/

theorem TxQueue.get_put_self (q : TxQueue) (i : SlotId) (f : Option QueuedFrame) : (q.put i f).get i = f := by
  cases i <;> rfl

theorem TxQueue.get_put_other (q : TxQueue) {i j : SlotId} (f : Option QueuedFrame) (h : j ≠ i) :
    (q.put i f).get j = q.get j := by
  cases i <;> cases j <;> first | rfl | exact absurd rfl h

theorem TxQueue.get_empty (i : SlotId) : TxQueue.empty.get i = none := by cases i <;> rfl

/-! ## Entries of the census -/

theorem Census.upd_length (c : Census) (a : Addr) (f : Entry → Entry) :
    (c.upd a f).entries.length = c.entries.length := by
  simp [Census.upd]

theorem Census.updAll_length (c : Census) (f : Entry → Entry) : (c.updAll f).entries.length = c.entries.length := by
  simp [Census.updAll]

theorem Census.get_upd_self {c : Census} (h : c.entries.length = Config.stations) (a : Addr) (f : Entry → Entry) :
    (c.upd a f).get a = f (c.get a) := by
  have ha : a.toNat < c.entries.length := by rw [h]; exact a.isLt
  simp [Census.upd, Census.get, List.getD_eq_getElem?_getD, List.getElem?_set, ha]

theorem Census.get_upd_other (c : Census) {a b : Addr} (f : Entry → Entry) (h : b ≠ a) :
    (c.upd a f).get b = c.get b := by
  have hab : a.toNat ≠ b.toNat := fun e => h (BitVec.eq_of_toNat_eq e.symm)
  simp [Census.upd, Census.get, List.getD_eq_getElem?_getD, List.getElem?_set, hab]

theorem Census.get_updAll {c : Census} (f : Entry → Entry) (h : c.entries.length = Config.stations) (a : Addr) :
    (c.updAll f).get a = f (c.get a) := by
  have ha : a.toNat < c.entries.length := by rw [h]; exact a.isLt
  simp [Census.updAll, Census.get, List.getD_eq_getElem?_getD, List.getElem?_eq_getElem, ha]

theorem Census.mark_get (c : Census) (u a : Addr) : (c.mark u).get a = c.get a := rfl

theorem Census.markIf_get (c : Census) (b : Bool) (u a : Addr) : (c.markIf b u).get a = c.get a := by
  unfold Census.markIf; split <;> rfl

theorem Census.walk_length (budget : Nat) (list : List Addr) :
    ∀ c : Census, (Census.walk budget list c).entries.length = c.entries.length := by
  induction list with
  | nil => exact fun c => rfl
  | cons a rest ih =>
    intro c
    unfold Census.walk
    split
    · exact ih c
    · split
      · exact (ih _).trans (Census.upd_length c a _)
      · rfl

theorem Census.shedPass_length (budget : Nat) (level : Entry → Nat) (list : List Addr) :
    ∀ c : Census, (Census.shedPass budget level list c).entries.length = c.entries.length := by
  induction list with
  | nil => exact fun c => rfl
  | cons a rest ih =>
    intro c
    unfold Census.shedPass
    split
    · rfl
    · exact (ih _).trans (Census.upd_length c a _)

/-! ## The lane walk -/

/-- A claim of a station that holds no power, or for which too few lanes are free, stops the walk (R167, R169). -/
theorem Census.laneWalk_stops {c : Census} {u v a : Addr} {n : Nat} (rest : List Addr)
    (h : (c.get a).laneClaim = some (v, n)) (hn : (c.get a).held = 0 ∨ (c.get u).freeLanes.length < n) :
    Census.laneWalk u (a :: rest) c = c := by
  have : ¬(0 < (c.get a).held ∧ n ≤ (c.get u).freeLanes.length) := by omega
  simp [Census.laneWalk, h, this]

theorem Census.laneWalk_length (u : Addr) (list : List Addr) :
    ∀ c : Census, (Census.laneWalk u list c).entries.length = c.entries.length := by
  induction list with
  | nil => exact fun c => rfl
  | cons a rest ih =>
    intro c
    unfold Census.laneWalk
    split
    · exact ih c
    · dsimp only
      split
      · exact (ih _).trans ((Census.upd_length _ u _).trans (Census.upd_length c a _))
      · rfl

/-- No uplink is configured to offer more lanes than there are (R167). -/
theorem BootImage.lanesConfigured_le (b : BootImage) : b.lanesConfigured ≤ Config.lanes := Nat.min_le_left _ _

/-! ## Fan channels -/

theorem Fdu.mapChannels_length (f : Fdu) (g : Nat → FanChannel → FanChannel) :
    (f.mapChannels g).channels.length = Config.fans := by
  simp [Fdu.mapChannels]

theorem Fdu.mapChannels_channel (f : Fdu) (g : Nat → FanChannel → FanChannel) {k : Nat} (h : k < Config.fans) :
    (f.mapChannels g).channel k = g k (f.channel k) := by
  simp [Fdu.mapChannels, Fdu.channel, List.getD_eq_getElem?_getD, h]

theorem Fdu.updChannel_length (f : Fdu) (k : Nat) (g : FanChannel → FanChannel) :
    (f.updChannel k g).channels.length = f.channels.length := by
  simp [Fdu.updChannel]

theorem Fdu.updChannel_self {f : Fdu} {k : Nat} (g : FanChannel → FanChannel) (h : k < f.channels.length) :
    (f.updChannel k g).channel k = g (f.channel k) := by
  simp [Fdu.updChannel, Fdu.channel, List.getD_eq_getElem?_getD, List.getElem?_set, h]

theorem Fdu.updChannel_other (f : Fdu) {j k : Nat} (g : FanChannel → FanChannel) (h : j ≠ k) :
    (f.updChannel k g).channel j = f.channel j := by
  simp [Fdu.updChannel, Fdu.channel, List.getD_eq_getElem?_getD, List.getElem?_set, Ne.symm h]

/-! ## Inputs -/

theorem State.debounce_length (s : State) (pin n : Nat) (level : Bool) :
    (s.debounce pin n level).lnu.inputs.length = s.lnu.inputs.length := by
  simp [State.debounce]

theorem State.debounce_other (s : State) {pin j : Nat} (n : Nat) (level : Bool) (h : j ≠ pin) :
    (s.debounce pin n level).input j = s.input j := by
  simp [State.debounce, State.input, List.getD_eq_getElem?_getD, List.getElem?_set, Ne.symm h]

theorem State.debounce_self {s : State} {pin : Nat} (n : Nat) (level : Bool) (h : pin < s.lnu.inputs.length) :
    (s.debounce pin n level).input pin = (s.input pin).settle n level := by
  simp [State.debounce, State.input, List.getD_eq_getElem?_getD, List.getElem?_set, h]

/-- An input that has read at least j samples of a level, and has taken it where a whole run of n is read. -/
def Input.reading (x : Input) (n j : Nat) (level : Bool) : Prop :=
  x.level = level ∧ j ≤ x.count ∧ (n ≤ x.count → x.state = if level then .yes else .no)

theorem Input.sample_reading {n : Nat} (h : 0 < n) (level : Bool) (x : Input) : (x.sample n level).reading n 1 level := by
  refine ⟨rfl, ?_, fun hn => ?_⟩
  · simp only [Input.sample]; split <;> omega
  · simp only [Input.sample] at hn ⊢; rw [if_pos (decide_eq_true hn)]

theorem Input.sample_more {n j : Nat} {level : Bool} {x : Input} (hj : 0 < j) (hjn : j < n) (h : x.reading n j level) :
    (x.sample n level).reading n (j + 1) level := by
  obtain ⟨hl, hc, _⟩ := h
  have hp : 0 < x.count := by omega
  refine ⟨rfl, ?_, fun hn => ?_⟩
  · simp only [Input.sample, hl]; simp [hp]; omega
  · simp only [Input.sample] at hn ⊢; rw [if_pos (decide_eq_true hn)]

theorem Input.samples_reading {n : Nat} {level : Bool} (m : Nat) :
    ∀ (j : Nat) (x : Input), 0 < j → j + m ≤ n → x.reading n j level →
      (Input.samples n level m x).reading n (j + m) level := by
  induction m with
  | zero => exact fun j x _ _ h => h
  | succ m ih =>
    intro j x hj hn h
    have := ih (j + 1) (x.sample n level) (by omega) (by omega) (Input.sample_more hj (by omega) h)
    rw [Nat.add_right_comm] at this
    exact this

/-- A whole run of samples settles the input at its level (R182, R183). -/
theorem Input.settle_state {n : Nat} (h : 0 < n) (level : Bool) (x : Input) :
    (x.settle n level).state = if level then .yes else .no := by
  obtain ⟨m, rfl⟩ : ∃ m, n = m + 1 := ⟨n - 1, by omega⟩
  have r := Input.samples_reading m 1 (x.sample (m + 1) level) (by omega) (by omega) (Input.sample_reading h level x)
  exact r.2.2 (by have := r.2.1; rw [Nat.add_comm] at this; exact this)

/-! ## Bits in the order they go over a wire -/

/-- The first n bits of a word, most significant first, read as a number. -/
theorem foldl_bits_front {w : Nat} (x : BitVec w) (n : Nat) (h : n ≤ w) :
    ((List.range n).map (fun i => x.getLsbD (w - 1 - i))).foldl (fun v b => 2 * v + b.toNat) 0 = x.toNat >>> (w - n) := by
  induction n with
  | zero => simp [Nat.shiftRight_eq_div_pow, Nat.div_eq_of_lt x.isLt]
  | succ n ih =>
    rw [List.range_succ, List.map_append, List.foldl_append, ih (Nat.le_of_succ_le h)]
    have e : w - n = (w - 1 - n) + 1 := by omega
    have e' : w - (n + 1) = w - 1 - n := by omega
    simp only [List.map_cons, List.map_nil, List.foldl_cons, List.foldl_nil, e, e', Nat.shiftRight_succ]
    have hb : (x.getLsbD (w - 1 - n)).toNat = (x.toNat >>> (w - 1 - n)) % 2 := by
      rw [BitVec.getLsbD, Nat.testBit_eq_decide_div_mod_eq, Nat.shiftRight_eq_div_pow]
      rcases Nat.mod_two_eq_zero_or_one (x.toNat / 2 ^ (w - 1 - n)) with h0 | h1 <;> simp [*]
    rw [hb]; omega

/-- All bits of a word, most significant first, read as a number give the word. -/
theorem foldl_bitsMsb {w : Nat} (x : BitVec w) : (bitsMsb x).foldl (fun v b => 2 * v + b.toNat) 0 = x.toNat := by
  have h := foldl_bits_front x w (Nat.le_refl w)
  rwa [Nat.sub_self, Nat.shiftRight_zero] at h

theorem sum_map_const {α : Type} (n : Nat) (f : α → Nat) (xs : List α) (h : ∀ x, f x = n) :
    (xs.map f).sum = n * xs.length := by
  induction xs with
  | nil => simp
  | cons x xs ih => simp [h, ih, Nat.mul_add]; omega

/-! ## Port writes -/

/-- A write whose command byte and number of arguments the table of R192 lacks names no command. -/
theorem portNamed_unknown (straps : Straps) {c : Byte} {args : List Byte} (h : portKnows c args = false) :
    portNamed straps c args = none := by
  have e : ∀ n : Nat, (c == BitVec.ofNat 8 n) = true → c.toNat = n % 256 := fun n hn => by simp [beq_iff_eq.mp hn]
  unfold portNamed
  split <;> simp [portKnows, portTable] at h
  · simp [bareCommands, h]
  · simp [byteCommands, h]
  · rw [if_neg]; exact fun hc => h (e 0x20 hc)
  · rw [if_neg]; exact fun hc => h (e 0x21 hc)
  · rfl

end Sys2Proof.Machine
end

