-- ==== Sys2Proof/Laws/State.lean ====
section
/-! SUPPORT. What an update of one part of State leaves as it was, and what it makes of that part: one lemma for each
field and each update, true by rfl. -/

namespace Sys2Proof.Machine

set_option linter.all false
set_option Elab.async false

/-! ## State.raise -/

@[simp] theorem State.raise_life (s : State) (e : Event) : (s.raise e).life = s.life := rfl
@[simp] theorem State.raise_pbc (s : State) (e : Event) : (s.raise e).pbc = s.pbc := rfl
@[simp] theorem State.raise_cen (s : State) (e : Event) : (s.raise e).cen = s.cen := rfl
@[simp] theorem State.raise_client (s : State) (e : Event) : (s.raise e).client = s.client := rfl
@[simp] theorem State.raise_rsq (s : State) (e : Event) : (s.raise e).rsq = s.rsq := rfl
@[simp] theorem State.raise_msu (s : State) (e : Event) : (s.raise e).msu = s.msu := rfl
@[simp] theorem State.raise_fdu (s : State) (e : Event) : (s.raise e).fdu = s.fdu := rfl
@[simp] theorem State.raise_spm (s : State) (e : Event) : (s.raise e).spm = s.spm := rfl
@[simp] theorem State.raise_lmp (s : State) (e : Event) : (s.raise e).lmp = s.lmp := rfl
@[simp] theorem State.raise_lnu (s : State) (e : Event) : (s.raise e).lnu = s.lnu := rfl
@[simp] theorem State.raise_lpt (s : State) (e : Event) : (s.raise e).lpt = s.lpt.push e := rfl
@[simp] theorem State.raise_pending (s : State) (e : Event) : (s.raise e).pending = s.pending := rfl

/-! ## State.raiseAll -/

@[simp] theorem State.raiseAll_life (s : State) (es : List Event) : (s.raiseAll es).life = s.life := rfl
@[simp] theorem State.raiseAll_pbc (s : State) (es : List Event) : (s.raiseAll es).pbc = s.pbc := rfl
@[simp] theorem State.raiseAll_cen (s : State) (es : List Event) : (s.raiseAll es).cen = s.cen := rfl
@[simp] theorem State.raiseAll_client (s : State) (es : List Event) : (s.raiseAll es).client = s.client := rfl
@[simp] theorem State.raiseAll_rsq (s : State) (es : List Event) : (s.raiseAll es).rsq = s.rsq := rfl
@[simp] theorem State.raiseAll_msu (s : State) (es : List Event) : (s.raiseAll es).msu = s.msu := rfl
@[simp] theorem State.raiseAll_fdu (s : State) (es : List Event) : (s.raiseAll es).fdu = s.fdu := rfl
@[simp] theorem State.raiseAll_spm (s : State) (es : List Event) : (s.raiseAll es).spm = s.spm := rfl
@[simp] theorem State.raiseAll_lmp (s : State) (es : List Event) : (s.raiseAll es).lmp = s.lmp := rfl
@[simp] theorem State.raiseAll_lnu (s : State) (es : List Event) : (s.raiseAll es).lnu = s.lnu := rfl
@[simp] theorem State.raiseAll_lpt (s : State) (es : List Event) : (s.raiseAll es).lpt = es.foldl Lpt.push s.lpt := rfl
@[simp] theorem State.raiseAll_pending (s : State) (es : List Event) : (s.raiseAll es).pending = s.pending := rfl

/-! ## State.updCen -/

@[simp] theorem State.updCen_life (s : State) (f : Census → Census) : (s.updCen f).life = s.life := rfl
@[simp] theorem State.updCen_pbc (s : State) (f : Census → Census) : (s.updCen f).pbc = s.pbc := rfl
@[simp] theorem State.updCen_cen (s : State) (f : Census → Census) : (s.updCen f).cen = f s.cen := rfl
@[simp] theorem State.updCen_client (s : State) (f : Census → Census) : (s.updCen f).client = s.client := rfl
@[simp] theorem State.updCen_rsq (s : State) (f : Census → Census) : (s.updCen f).rsq = s.rsq := rfl
@[simp] theorem State.updCen_msu (s : State) (f : Census → Census) : (s.updCen f).msu = s.msu := rfl
@[simp] theorem State.updCen_fdu (s : State) (f : Census → Census) : (s.updCen f).fdu = s.fdu := rfl
@[simp] theorem State.updCen_spm (s : State) (f : Census → Census) : (s.updCen f).spm = s.spm := rfl
@[simp] theorem State.updCen_lmp (s : State) (f : Census → Census) : (s.updCen f).lmp = s.lmp := rfl
@[simp] theorem State.updCen_lnu (s : State) (f : Census → Census) : (s.updCen f).lnu = s.lnu := rfl
@[simp] theorem State.updCen_lpt (s : State) (f : Census → Census) : (s.updCen f).lpt = s.lpt := rfl
@[simp] theorem State.updCen_pending (s : State) (f : Census → Census) : (s.updCen f).pending = s.pending := rfl

/-! ## State.updEntry -/

@[simp] theorem State.updEntry_life (s : State) (a : Addr) (f : Entry → Entry) : (s.updEntry a f).life = s.life := rfl
@[simp] theorem State.updEntry_pbc (s : State) (a : Addr) (f : Entry → Entry) : (s.updEntry a f).pbc = s.pbc := rfl
@[simp] theorem State.updEntry_cen (s : State) (a : Addr) (f : Entry → Entry) : (s.updEntry a f).cen = s.cen.upd a f := rfl
@[simp] theorem State.updEntry_client (s : State) (a : Addr) (f : Entry → Entry) : (s.updEntry a f).client = s.client := rfl
@[simp] theorem State.updEntry_rsq (s : State) (a : Addr) (f : Entry → Entry) : (s.updEntry a f).rsq = s.rsq := rfl
@[simp] theorem State.updEntry_msu (s : State) (a : Addr) (f : Entry → Entry) : (s.updEntry a f).msu = s.msu := rfl
@[simp] theorem State.updEntry_fdu (s : State) (a : Addr) (f : Entry → Entry) : (s.updEntry a f).fdu = s.fdu := rfl
@[simp] theorem State.updEntry_spm (s : State) (a : Addr) (f : Entry → Entry) : (s.updEntry a f).spm = s.spm := rfl
@[simp] theorem State.updEntry_lmp (s : State) (a : Addr) (f : Entry → Entry) : (s.updEntry a f).lmp = s.lmp := rfl
@[simp] theorem State.updEntry_lnu (s : State) (a : Addr) (f : Entry → Entry) : (s.updEntry a f).lnu = s.lnu := rfl
@[simp] theorem State.updEntry_lpt (s : State) (a : Addr) (f : Entry → Entry) : (s.updEntry a f).lpt = s.lpt := rfl
@[simp] theorem State.updEntry_pending (s : State) (a : Addr) (f : Entry → Entry) : (s.updEntry a f).pending = s.pending := rfl

/-! ## State.updSelf -/

@[simp] theorem State.updSelf_life (s : State) (f : Entry → Entry) : (s.updSelf f).life = s.life := rfl
@[simp] theorem State.updSelf_pbc (s : State) (f : Entry → Entry) : (s.updSelf f).pbc = s.pbc := rfl
@[simp] theorem State.updSelf_cen (s : State) (f : Entry → Entry) : (s.updSelf f).cen = s.cen.upd s.addr f := rfl
@[simp] theorem State.updSelf_client (s : State) (f : Entry → Entry) : (s.updSelf f).client = s.client := rfl
@[simp] theorem State.updSelf_rsq (s : State) (f : Entry → Entry) : (s.updSelf f).rsq = s.rsq := rfl
@[simp] theorem State.updSelf_msu (s : State) (f : Entry → Entry) : (s.updSelf f).msu = s.msu := rfl
@[simp] theorem State.updSelf_fdu (s : State) (f : Entry → Entry) : (s.updSelf f).fdu = s.fdu := rfl
@[simp] theorem State.updSelf_spm (s : State) (f : Entry → Entry) : (s.updSelf f).spm = s.spm := rfl
@[simp] theorem State.updSelf_lmp (s : State) (f : Entry → Entry) : (s.updSelf f).lmp = s.lmp := rfl
@[simp] theorem State.updSelf_lnu (s : State) (f : Entry → Entry) : (s.updSelf f).lnu = s.lnu := rfl
@[simp] theorem State.updSelf_lpt (s : State) (f : Entry → Entry) : (s.updSelf f).lpt = s.lpt := rfl
@[simp] theorem State.updSelf_pending (s : State) (f : Entry → Entry) : (s.updSelf f).pending = s.pending := rfl

/-! ## State.anomaly -/

@[simp] theorem State.anomaly_life (s : State) : (s.anomaly).life = s.life := rfl
@[simp] theorem State.anomaly_pbc (s : State) : (s.anomaly).pbc = s.pbc := rfl
@[simp] theorem State.anomaly_cen (s : State) : (s.anomaly).cen = { s.cen with anomalies := satInc Config.counterMax s.cen.anomalies } := rfl
@[simp] theorem State.anomaly_client (s : State) : (s.anomaly).client = s.client := rfl
@[simp] theorem State.anomaly_rsq (s : State) : (s.anomaly).rsq = s.rsq := rfl
@[simp] theorem State.anomaly_msu (s : State) : (s.anomaly).msu = s.msu := rfl
@[simp] theorem State.anomaly_fdu (s : State) : (s.anomaly).fdu = s.fdu := rfl
@[simp] theorem State.anomaly_spm (s : State) : (s.anomaly).spm = s.spm := rfl
@[simp] theorem State.anomaly_lmp (s : State) : (s.anomaly).lmp = s.lmp := rfl
@[simp] theorem State.anomaly_lnu (s : State) : (s.anomaly).lnu = s.lnu := rfl
@[simp] theorem State.anomaly_lpt (s : State) : (s.anomaly).lpt = s.lpt := rfl
@[simp] theorem State.anomaly_pending (s : State) : (s.anomaly).pending = s.pending := rfl

/-! ## State.updLife -/

@[simp] theorem State.updLife_life (s : State) (g : Life → Life) : (s.updLife g).life = g s.life := rfl
@[simp] theorem State.updLife_pbc (s : State) (g : Life → Life) : (s.updLife g).pbc = s.pbc := rfl
@[simp] theorem State.updLife_cen (s : State) (g : Life → Life) : (s.updLife g).cen = s.cen := rfl
@[simp] theorem State.updLife_client (s : State) (g : Life → Life) : (s.updLife g).client = s.client := rfl
@[simp] theorem State.updLife_rsq (s : State) (g : Life → Life) : (s.updLife g).rsq = s.rsq := rfl
@[simp] theorem State.updLife_msu (s : State) (g : Life → Life) : (s.updLife g).msu = s.msu := rfl
@[simp] theorem State.updLife_fdu (s : State) (g : Life → Life) : (s.updLife g).fdu = s.fdu := rfl
@[simp] theorem State.updLife_spm (s : State) (g : Life → Life) : (s.updLife g).spm = s.spm := rfl
@[simp] theorem State.updLife_lmp (s : State) (g : Life → Life) : (s.updLife g).lmp = s.lmp := rfl
@[simp] theorem State.updLife_lnu (s : State) (g : Life → Life) : (s.updLife g).lnu = s.lnu := rfl
@[simp] theorem State.updLife_lpt (s : State) (g : Life → Life) : (s.updLife g).lpt = s.lpt := rfl
@[simp] theorem State.updLife_pending (s : State) (g : Life → Life) : (s.updLife g).pending = s.pending := rfl

/-! ## State.updPbc -/

@[simp] theorem State.updPbc_life (s : State) (g : Pbc → Pbc) : (s.updPbc g).life = s.life := rfl
@[simp] theorem State.updPbc_pbc (s : State) (g : Pbc → Pbc) : (s.updPbc g).pbc = g s.pbc := rfl
@[simp] theorem State.updPbc_cen (s : State) (g : Pbc → Pbc) : (s.updPbc g).cen = s.cen := rfl
@[simp] theorem State.updPbc_client (s : State) (g : Pbc → Pbc) : (s.updPbc g).client = s.client := rfl
@[simp] theorem State.updPbc_rsq (s : State) (g : Pbc → Pbc) : (s.updPbc g).rsq = s.rsq := rfl
@[simp] theorem State.updPbc_msu (s : State) (g : Pbc → Pbc) : (s.updPbc g).msu = s.msu := rfl
@[simp] theorem State.updPbc_fdu (s : State) (g : Pbc → Pbc) : (s.updPbc g).fdu = s.fdu := rfl
@[simp] theorem State.updPbc_spm (s : State) (g : Pbc → Pbc) : (s.updPbc g).spm = s.spm := rfl
@[simp] theorem State.updPbc_lmp (s : State) (g : Pbc → Pbc) : (s.updPbc g).lmp = s.lmp := rfl
@[simp] theorem State.updPbc_lnu (s : State) (g : Pbc → Pbc) : (s.updPbc g).lnu = s.lnu := rfl
@[simp] theorem State.updPbc_lpt (s : State) (g : Pbc → Pbc) : (s.updPbc g).lpt = s.lpt := rfl
@[simp] theorem State.updPbc_pending (s : State) (g : Pbc → Pbc) : (s.updPbc g).pending = s.pending := rfl

/-! ## State.updFdu -/

@[simp] theorem State.updFdu_life (s : State) (g : Fdu → Fdu) : (s.updFdu g).life = s.life := rfl
@[simp] theorem State.updFdu_pbc (s : State) (g : Fdu → Fdu) : (s.updFdu g).pbc = s.pbc := rfl
@[simp] theorem State.updFdu_cen (s : State) (g : Fdu → Fdu) : (s.updFdu g).cen = s.cen := rfl
@[simp] theorem State.updFdu_client (s : State) (g : Fdu → Fdu) : (s.updFdu g).client = s.client := rfl
@[simp] theorem State.updFdu_rsq (s : State) (g : Fdu → Fdu) : (s.updFdu g).rsq = s.rsq := rfl
@[simp] theorem State.updFdu_msu (s : State) (g : Fdu → Fdu) : (s.updFdu g).msu = s.msu := rfl
@[simp] theorem State.updFdu_fdu (s : State) (g : Fdu → Fdu) : (s.updFdu g).fdu = g s.fdu := rfl
@[simp] theorem State.updFdu_spm (s : State) (g : Fdu → Fdu) : (s.updFdu g).spm = s.spm := rfl
@[simp] theorem State.updFdu_lmp (s : State) (g : Fdu → Fdu) : (s.updFdu g).lmp = s.lmp := rfl
@[simp] theorem State.updFdu_lnu (s : State) (g : Fdu → Fdu) : (s.updFdu g).lnu = s.lnu := rfl
@[simp] theorem State.updFdu_lpt (s : State) (g : Fdu → Fdu) : (s.updFdu g).lpt = s.lpt := rfl
@[simp] theorem State.updFdu_pending (s : State) (g : Fdu → Fdu) : (s.updFdu g).pending = s.pending := rfl

/-! ## State.updSpm -/

@[simp] theorem State.updSpm_life (s : State) (g : Spm → Spm) : (s.updSpm g).life = s.life := rfl
@[simp] theorem State.updSpm_pbc (s : State) (g : Spm → Spm) : (s.updSpm g).pbc = s.pbc := rfl
@[simp] theorem State.updSpm_cen (s : State) (g : Spm → Spm) : (s.updSpm g).cen = s.cen := rfl
@[simp] theorem State.updSpm_client (s : State) (g : Spm → Spm) : (s.updSpm g).client = s.client := rfl
@[simp] theorem State.updSpm_rsq (s : State) (g : Spm → Spm) : (s.updSpm g).rsq = s.rsq := rfl
@[simp] theorem State.updSpm_msu (s : State) (g : Spm → Spm) : (s.updSpm g).msu = s.msu := rfl
@[simp] theorem State.updSpm_fdu (s : State) (g : Spm → Spm) : (s.updSpm g).fdu = s.fdu := rfl
@[simp] theorem State.updSpm_spm (s : State) (g : Spm → Spm) : (s.updSpm g).spm = g s.spm := rfl
@[simp] theorem State.updSpm_lmp (s : State) (g : Spm → Spm) : (s.updSpm g).lmp = s.lmp := rfl
@[simp] theorem State.updSpm_lnu (s : State) (g : Spm → Spm) : (s.updSpm g).lnu = s.lnu := rfl
@[simp] theorem State.updSpm_lpt (s : State) (g : Spm → Spm) : (s.updSpm g).lpt = s.lpt := rfl
@[simp] theorem State.updSpm_pending (s : State) (g : Spm → Spm) : (s.updSpm g).pending = s.pending := rfl

/-! ## State.updLmp -/

@[simp] theorem State.updLmp_life (s : State) (g : Lmp → Lmp) : (s.updLmp g).life = s.life := rfl
@[simp] theorem State.updLmp_pbc (s : State) (g : Lmp → Lmp) : (s.updLmp g).pbc = s.pbc := rfl
@[simp] theorem State.updLmp_cen (s : State) (g : Lmp → Lmp) : (s.updLmp g).cen = s.cen := rfl
@[simp] theorem State.updLmp_client (s : State) (g : Lmp → Lmp) : (s.updLmp g).client = s.client := rfl
@[simp] theorem State.updLmp_rsq (s : State) (g : Lmp → Lmp) : (s.updLmp g).rsq = s.rsq := rfl
@[simp] theorem State.updLmp_msu (s : State) (g : Lmp → Lmp) : (s.updLmp g).msu = s.msu := rfl
@[simp] theorem State.updLmp_fdu (s : State) (g : Lmp → Lmp) : (s.updLmp g).fdu = s.fdu := rfl
@[simp] theorem State.updLmp_spm (s : State) (g : Lmp → Lmp) : (s.updLmp g).spm = s.spm := rfl
@[simp] theorem State.updLmp_lmp (s : State) (g : Lmp → Lmp) : (s.updLmp g).lmp = g s.lmp := rfl
@[simp] theorem State.updLmp_lnu (s : State) (g : Lmp → Lmp) : (s.updLmp g).lnu = s.lnu := rfl
@[simp] theorem State.updLmp_lpt (s : State) (g : Lmp → Lmp) : (s.updLmp g).lpt = s.lpt := rfl
@[simp] theorem State.updLmp_pending (s : State) (g : Lmp → Lmp) : (s.updLmp g).pending = s.pending := rfl

/-! ## State.setSlot -/

@[simp] theorem State.setSlot_life (s : State) (i : SlotId) (q : Option QueuedFrame) : (s.setSlot i q).life = s.life := rfl
@[simp] theorem State.setSlot_pbc (s : State) (i : SlotId) (q : Option QueuedFrame) : (s.setSlot i q).pbc = { s.pbc with queue := s.pbc.queue.put i q } := rfl
@[simp] theorem State.setSlot_cen (s : State) (i : SlotId) (q : Option QueuedFrame) : (s.setSlot i q).cen = s.cen := rfl
@[simp] theorem State.setSlot_client (s : State) (i : SlotId) (q : Option QueuedFrame) : (s.setSlot i q).client = s.client := rfl
@[simp] theorem State.setSlot_rsq (s : State) (i : SlotId) (q : Option QueuedFrame) : (s.setSlot i q).rsq = s.rsq := rfl
@[simp] theorem State.setSlot_msu (s : State) (i : SlotId) (q : Option QueuedFrame) : (s.setSlot i q).msu = s.msu := rfl
@[simp] theorem State.setSlot_fdu (s : State) (i : SlotId) (q : Option QueuedFrame) : (s.setSlot i q).fdu = s.fdu := rfl
@[simp] theorem State.setSlot_spm (s : State) (i : SlotId) (q : Option QueuedFrame) : (s.setSlot i q).spm = s.spm := rfl
@[simp] theorem State.setSlot_lmp (s : State) (i : SlotId) (q : Option QueuedFrame) : (s.setSlot i q).lmp = s.lmp := rfl
@[simp] theorem State.setSlot_lnu (s : State) (i : SlotId) (q : Option QueuedFrame) : (s.setSlot i q).lnu = s.lnu := rfl
@[simp] theorem State.setSlot_lpt (s : State) (i : SlotId) (q : Option QueuedFrame) : (s.setSlot i q).lpt = s.lpt := rfl
@[simp] theorem State.setSlot_pending (s : State) (i : SlotId) (q : Option QueuedFrame) : (s.setSlot i q).pending = s.pending := rfl

/-! ## State.clearQueue -/

@[simp] theorem State.clearQueue_life (s : State) : (s.clearQueue).life = s.life := rfl
@[simp] theorem State.clearQueue_pbc (s : State) : (s.clearQueue).pbc = { s.pbc with queue := .empty } := rfl
@[simp] theorem State.clearQueue_cen (s : State) : (s.clearQueue).cen = s.cen := rfl
@[simp] theorem State.clearQueue_client (s : State) : (s.clearQueue).client = s.client := rfl
@[simp] theorem State.clearQueue_rsq (s : State) : (s.clearQueue).rsq = s.rsq := rfl
@[simp] theorem State.clearQueue_msu (s : State) : (s.clearQueue).msu = s.msu := rfl
@[simp] theorem State.clearQueue_fdu (s : State) : (s.clearQueue).fdu = s.fdu := rfl
@[simp] theorem State.clearQueue_spm (s : State) : (s.clearQueue).spm = s.spm := rfl
@[simp] theorem State.clearQueue_lmp (s : State) : (s.clearQueue).lmp = s.lmp := rfl
@[simp] theorem State.clearQueue_lnu (s : State) : (s.clearQueue).lnu = s.lnu := rfl
@[simp] theorem State.clearQueue_lpt (s : State) : (s.clearQueue).lpt = s.lpt := rfl
@[simp] theorem State.clearQueue_pending (s : State) : (s.clearQueue).pending = s.pending := rfl

/-! ## State.newEvent -/

@[simp] theorem State.newEvent_life (s : State) : (s.newEvent).life = s.life := rfl
@[simp] theorem State.newEvent_pbc (s : State) : (s.newEvent).pbc = { s.pbc with stamp := s.pbc.stamp + 1 } := rfl
@[simp] theorem State.newEvent_cen (s : State) : (s.newEvent).cen = s.cen := rfl
@[simp] theorem State.newEvent_client (s : State) : (s.newEvent).client = s.client := rfl
@[simp] theorem State.newEvent_rsq (s : State) : (s.newEvent).rsq = s.rsq := rfl
@[simp] theorem State.newEvent_msu (s : State) : (s.newEvent).msu = s.msu := rfl
@[simp] theorem State.newEvent_fdu (s : State) : (s.newEvent).fdu = s.fdu := rfl
@[simp] theorem State.newEvent_spm (s : State) : (s.newEvent).spm = s.spm := rfl
@[simp] theorem State.newEvent_lmp (s : State) : (s.newEvent).lmp = s.lmp := rfl
@[simp] theorem State.newEvent_lnu (s : State) : (s.newEvent).lnu = s.lnu := rfl
@[simp] theorem State.newEvent_lpt (s : State) : (s.newEvent).lpt = s.lpt := rfl
@[simp] theorem State.newEvent_pending (s : State) : (s.newEvent).pending = s.pending := rfl

/-! ## State.enterRail -/

@[simp] theorem State.enterRail_life (s : State) (t : RailState) : (s.enterRail t).life = s.life := rfl
@[simp] theorem State.enterRail_pbc (s : State) (t : RailState) : (s.enterRail t).pbc = s.pbc := rfl
@[simp] theorem State.enterRail_cen (s : State) (t : RailState) : (s.enterRail t).cen = s.cen := rfl
@[simp] theorem State.enterRail_client (s : State) (t : RailState) : (s.enterRail t).client = s.client := rfl
@[simp] theorem State.enterRail_rsq (s : State) (t : RailState) : (s.enterRail t).rsq = s.rsq.enter t := rfl
@[simp] theorem State.enterRail_msu (s : State) (t : RailState) : (s.enterRail t).msu = s.msu := rfl
@[simp] theorem State.enterRail_fdu (s : State) (t : RailState) : (s.enterRail t).fdu = s.fdu := rfl
@[simp] theorem State.enterRail_spm (s : State) (t : RailState) : (s.enterRail t).spm = s.spm := rfl
@[simp] theorem State.enterRail_lmp (s : State) (t : RailState) : (s.enterRail t).lmp = s.lmp := rfl
@[simp] theorem State.enterRail_lnu (s : State) (t : RailState) : (s.enterRail t).lnu = s.lnu := rfl
@[simp] theorem State.enterRail_lpt (s : State) (t : RailState) : (s.enterRail t).lpt = s.lpt := rfl
@[simp] theorem State.enterRail_pending (s : State) (t : RailState) : (s.enterRail t).pending = s.pending := rfl

/-! ## State.setReported -/

@[simp] theorem State.setReported_life (s : State) (b : Bool) : (s.setReported b).life = s.life := rfl
@[simp] theorem State.setReported_pbc (s : State) (b : Bool) : (s.setReported b).pbc = s.pbc := rfl
@[simp] theorem State.setReported_cen (s : State) (b : Bool) : (s.setReported b).cen = s.cen := rfl
@[simp] theorem State.setReported_client (s : State) (b : Bool) : (s.setReported b).client = { s.client with unavailableReported := b } := rfl
@[simp] theorem State.setReported_rsq (s : State) (b : Bool) : (s.setReported b).rsq = s.rsq := rfl
@[simp] theorem State.setReported_msu (s : State) (b : Bool) : (s.setReported b).msu = s.msu := rfl
@[simp] theorem State.setReported_fdu (s : State) (b : Bool) : (s.setReported b).fdu = s.fdu := rfl
@[simp] theorem State.setReported_spm (s : State) (b : Bool) : (s.setReported b).spm = s.spm := rfl
@[simp] theorem State.setReported_lmp (s : State) (b : Bool) : (s.setReported b).lmp = s.lmp := rfl
@[simp] theorem State.setReported_lnu (s : State) (b : Bool) : (s.setReported b).lnu = s.lnu := rfl
@[simp] theorem State.setReported_lpt (s : State) (b : Bool) : (s.setReported b).lpt = s.lpt := rfl
@[simp] theorem State.setReported_pending (s : State) (b : Bool) : (s.setReported b).pending = s.pending := rfl

/-! ## State.debounce -/

@[simp] theorem State.debounce_life (s : State) (pin n : Nat) (level : Bool) : (s.debounce pin n level).life = s.life := rfl
@[simp] theorem State.debounce_pbc (s : State) (pin n : Nat) (level : Bool) : (s.debounce pin n level).pbc = s.pbc := rfl
@[simp] theorem State.debounce_cen (s : State) (pin n : Nat) (level : Bool) : (s.debounce pin n level).cen = s.cen := rfl
@[simp] theorem State.debounce_client (s : State) (pin n : Nat) (level : Bool) : (s.debounce pin n level).client = s.client := rfl
@[simp] theorem State.debounce_rsq (s : State) (pin n : Nat) (level : Bool) : (s.debounce pin n level).rsq = s.rsq := rfl
@[simp] theorem State.debounce_msu (s : State) (pin n : Nat) (level : Bool) : (s.debounce pin n level).msu = s.msu := rfl
@[simp] theorem State.debounce_fdu (s : State) (pin n : Nat) (level : Bool) : (s.debounce pin n level).fdu = s.fdu := rfl
@[simp] theorem State.debounce_spm (s : State) (pin n : Nat) (level : Bool) : (s.debounce pin n level).spm = s.spm := rfl
@[simp] theorem State.debounce_lmp (s : State) (pin n : Nat) (level : Bool) : (s.debounce pin n level).lmp = s.lmp := rfl
@[simp] theorem State.debounce_lnu (s : State) (pin n : Nat) (level : Bool) : (s.debounce pin n level).lnu = { s.lnu with inputs := s.lnu.inputs.set pin ((s.input pin).settle n level) } := rfl
@[simp] theorem State.debounce_lpt (s : State) (pin n : Nat) (level : Bool) : (s.debounce pin n level).lpt = s.lpt := rfl
@[simp] theorem State.debounce_pending (s : State) (pin n : Nat) (level : Bool) : (s.debounce pin n level).pending = s.pending := rfl

/-! ## State.respond -/

@[simp] theorem State.respond_life (s : State) (status : PortStatus) (data : List Byte) : (s.respond status data).life = s.life := rfl
@[simp] theorem State.respond_pbc (s : State) (status : PortStatus) (data : List Byte) : (s.respond status data).pbc = s.pbc := rfl
@[simp] theorem State.respond_cen (s : State) (status : PortStatus) (data : List Byte) : (s.respond status data).cen = s.cen := rfl
@[simp] theorem State.respond_client (s : State) (status : PortStatus) (data : List Byte) : (s.respond status data).client = s.client := rfl
@[simp] theorem State.respond_rsq (s : State) (status : PortStatus) (data : List Byte) : (s.respond status data).rsq = s.rsq := rfl
@[simp] theorem State.respond_msu (s : State) (status : PortStatus) (data : List Byte) : (s.respond status data).msu = s.msu := rfl
@[simp] theorem State.respond_fdu (s : State) (status : PortStatus) (data : List Byte) : (s.respond status data).fdu = s.fdu := rfl
@[simp] theorem State.respond_spm (s : State) (status : PortStatus) (data : List Byte) : (s.respond status data).spm = s.spm := rfl
@[simp] theorem State.respond_lmp (s : State) (status : PortStatus) (data : List Byte) : (s.respond status data).lmp = s.lmp := rfl
@[simp] theorem State.respond_lnu (s : State) (status : PortStatus) (data : List Byte) : (s.respond status data).lnu = s.lnu := rfl
@[simp] theorem State.respond_lpt (s : State) (status : PortStatus) (data : List Byte) : (s.respond status data).lpt = { s.lpt with response := some { status := status, data := data } } := rfl
@[simp] theorem State.respond_pending (s : State) (status : PortStatus) (data : List Byte) : (s.respond status data).pending = s.pending := rfl

/-! ## State.raiseIf -/

@[simp] theorem State.raiseIf_life (s : State) (b : Bool) (e : Event) : (s.raiseIf b e).life = s.life := by
  cases b <;> rfl
@[simp] theorem State.raiseIf_pbc (s : State) (b : Bool) (e : Event) : (s.raiseIf b e).pbc = s.pbc := by
  cases b <;> rfl
@[simp] theorem State.raiseIf_cen (s : State) (b : Bool) (e : Event) : (s.raiseIf b e).cen = s.cen := by
  cases b <;> rfl
@[simp] theorem State.raiseIf_client (s : State) (b : Bool) (e : Event) : (s.raiseIf b e).client = s.client := by
  cases b <;> rfl
@[simp] theorem State.raiseIf_rsq (s : State) (b : Bool) (e : Event) : (s.raiseIf b e).rsq = s.rsq := by
  cases b <;> rfl
@[simp] theorem State.raiseIf_msu (s : State) (b : Bool) (e : Event) : (s.raiseIf b e).msu = s.msu := by
  cases b <;> rfl
@[simp] theorem State.raiseIf_fdu (s : State) (b : Bool) (e : Event) : (s.raiseIf b e).fdu = s.fdu := by
  cases b <;> rfl
@[simp] theorem State.raiseIf_spm (s : State) (b : Bool) (e : Event) : (s.raiseIf b e).spm = s.spm := by
  cases b <;> rfl
@[simp] theorem State.raiseIf_lmp (s : State) (b : Bool) (e : Event) : (s.raiseIf b e).lmp = s.lmp := by
  cases b <;> rfl
@[simp] theorem State.raiseIf_lnu (s : State) (b : Bool) (e : Event) : (s.raiseIf b e).lnu = s.lnu := by
  cases b <;> rfl
@[simp] theorem State.raiseIf_lpt (s : State) (b : Bool) (e : Event) : (s.raiseIf b e).lpt = if b then s.lpt.push e else s.lpt := by
  cases b <;> rfl
@[simp] theorem State.raiseIf_pending (s : State) (b : Bool) (e : Event) : (s.raiseIf b e).pending = s.pending := by
  cases b <;> rfl

/-! ## State.enterState -/

@[simp] theorem State.enterState_life (s : State) (t : StationState) : (s.enterState t).life = { s.life with station := t } := rfl
@[simp] theorem State.enterState_pbc (s : State) (t : StationState) : (s.enterState t).pbc = s.pbc := rfl
@[simp] theorem State.enterState_cen (s : State) (t : StationState) : (s.enterState t).cen = s.cen := rfl
@[simp] theorem State.enterState_client (s : State) (t : StationState) : (s.enterState t).client = s.client := rfl
@[simp] theorem State.enterState_rsq (s : State) (t : StationState) : (s.enterState t).rsq = s.rsq := rfl
@[simp] theorem State.enterState_msu (s : State) (t : StationState) : (s.enterState t).msu = s.msu := rfl
@[simp] theorem State.enterState_fdu (s : State) (t : StationState) : (s.enterState t).fdu = s.fdu := rfl
@[simp] theorem State.enterState_spm (s : State) (t : StationState) : (s.enterState t).spm = s.spm := rfl
@[simp] theorem State.enterState_lmp (s : State) (t : StationState) : (s.enterState t).lmp = s.lmp := rfl
@[simp] theorem State.enterState_lnu (s : State) (t : StationState) : (s.enterState t).lnu = s.lnu := rfl
@[simp] theorem State.enterState_lpt (s : State) (t : StationState) : (s.enterState t).lpt = s.lpt.push (.stationState t) := rfl
@[simp] theorem State.enterState_pending (s : State) (t : StationState) : (s.enterState t).pending = s.pending := rfl

/-! ## State.recordTally -/

@[simp] theorem State.recordTally_life (s : State) : (s.recordTally).life = s.life := rfl
@[simp] theorem State.recordTally_pbc (s : State) : (s.recordTally).pbc = s.pbc := rfl
@[simp] theorem State.recordTally_cen (s : State) : (s.recordTally).cen = { s.cen with report := s.cen.tally s.policy } := rfl
@[simp] theorem State.recordTally_client (s : State) : (s.recordTally).client = s.client := rfl
@[simp] theorem State.recordTally_rsq (s : State) : (s.recordTally).rsq = s.rsq := rfl
@[simp] theorem State.recordTally_msu (s : State) : (s.recordTally).msu = s.msu := rfl
@[simp] theorem State.recordTally_fdu (s : State) : (s.recordTally).fdu = s.fdu := rfl
@[simp] theorem State.recordTally_spm (s : State) : (s.recordTally).spm = s.spm := rfl
@[simp] theorem State.recordTally_lmp (s : State) : (s.recordTally).lmp = s.lmp := rfl
@[simp] theorem State.recordTally_lnu (s : State) : (s.recordTally).lnu = s.lnu := rfl
@[simp] theorem State.recordTally_lpt (s : State) : (s.recordTally).lpt = s.lpt := rfl
@[simp] theorem State.recordTally_pending (s : State) : (s.recordTally).pending = s.pending := rfl
@[simp] theorem State.recordTally_get (s : State) (a : Addr) : s.recordTally.cen.get a = s.cen.get a := rfl
@[simp] theorem State.recordTally_policy (s : State) : s.recordTally.policy = s.policy := rfl
@[simp] theorem Census.tally_report (c : Census) (r : TallyReport) (p : Policy) :
    ({ c with report := r } : Census).tally p = c.tally p := rfl

/-- What is recorded is the tally of the state recorded. -/
theorem State.recordTally_report (s : State) : s.recordTally.cen.report = s.recordTally.cen.tally s.recordTally.policy := rfl

end Sys2Proof.Machine
end

