-- ==== Sys2Proof/Laws/Frames.lean ====
section
/-! SUPPORT. What the operations of the census and of the role blocks leave as it was: the station life, the bus beside
its queue, the Measurement Unit, the Line Unit, the response and the commands waiting. -/

namespace Sys2Proof.Machine

set_option linter.all false
set_option Elab.async false

/-- The parts of State that a census event and the answer of the role blocks leave alone. -/
structure Fixed where
  life : Life
  bus : Pbc
  msu : Msu
  lnu : Lnu
  response : Option Response
  pending : List Instr

def State.fixed (s : State) : Fixed :=
  { life := s.life, bus := { s.pbc with queue := .empty }, msu := s.msu, lnu := s.lnu, response := s.lpt.response,
    pending := s.pending }

theorem Lpt.push_response (p : Lpt) (e : Event) : (p.push e).response = p.response := by
  unfold Lpt.push; split <;> rfl

theorem Lpt.pushAll_response (es : List Event) : ∀ p : Lpt, (es.foldl Lpt.push p).response = p.response := by
  induction es with
  | nil => intro p; rfl
  | cons e es ih => intro p; exact (ih _).trans (p.push_response e)

theorem State.raise_fixed (s : State) (e : Event) : (s.raise e).fixed = s.fixed := by
  simp only [State.fixed, State.raise, Lpt.push_response]

theorem State.raiseAll_fixed (s : State) (es : List Event) : (s.raiseAll es).fixed = s.fixed := by
  simp only [State.fixed, State.raiseAll, Lpt.pushAll_response]

theorem State.raiseIf_fixed (s : State) (b : Bool) (e : Event) : (s.raiseIf b e).fixed = s.fixed := by
  simp only [State.raiseIf]
  (repeat' split) <;> first | (simp only [State.raise_fixed]; done) | (simp only [State.raise_fixed]; rfl) | rfl

theorem State.updCen_fixed (s : State) (f : Census → Census) : (s.updCen f).fixed = s.fixed := by
  unfold State.updCen
  (repeat' split) <;> rfl

theorem State.updEntry_fixed (s : State) (a : Addr) (f : Entry → Entry) : (s.updEntry a f).fixed = s.fixed := by
  unfold State.updEntry
  (repeat' split) <;> rfl

theorem State.updSelf_fixed (s : State) (f : Entry → Entry) : (s.updSelf f).fixed = s.fixed := by
  simp only [State.updSelf]
  (repeat' split) <;> first | (simp only [State.updEntry_fixed]; done) | (simp only [State.updEntry_fixed]; rfl) | rfl

theorem State.anomaly_fixed (s : State) : (s.anomaly).fixed = s.fixed := by
  unfold State.anomaly
  (repeat' split) <;> rfl

theorem State.setSlot_fixed (s : State) (i : SlotId) (f : Option QueuedFrame) : (s.setSlot i f).fixed = s.fixed := by
  unfold State.setSlot
  (repeat' split) <;> rfl

theorem State.clearQueue_fixed (s : State) : (s.clearQueue).fixed = s.fixed := by
  unfold State.clearQueue
  (repeat' split) <;> rfl

theorem State.enqueue_fixed (s : State) (r : FrameReq) : (s.enqueue r).fixed = s.fixed := by
  simp only [State.enqueue]
  (repeat' split) <;> first | (simp only [State.setSlot_fixed]; done) | (simp only [State.setSlot_fixed]; rfl) | rfl

theorem State.request_fixed (s : State) (r : FrameReq) : (s.request r).fixed = s.fixed := by
  simp only [State.request]
  (repeat' split) <;> first | (simp only [State.enqueue_fixed]; done) | (simp only [State.enqueue_fixed]; rfl) | rfl

theorem State.requestIf_fixed (s : State) (b : Bool) (r : FrameReq) : (s.requestIf b r).fixed = s.fixed := by
  simp only [State.requestIf]
  (repeat' split) <;> first | (simp only [State.request_fixed]; done) | (simp only [State.request_fixed]; rfl) | rfl

theorem State.trimSlot_fixed (s : State) (wanted : Option FrameReq) (i : SlotId) : (s.trimSlot wanted i).fixed = s.fixed := by
  simp only [State.trimSlot]
  (repeat' split) <;> first | (simp only [State.setSlot_fixed]; done) | (simp only [State.setSlot_fixed]; rfl) | rfl

theorem State.syncSlots_fixed (s : State) (wanted : Option FrameReq) (slots : List SlotId) : (s.syncSlots wanted slots).fixed = s.fixed := by
  have h : ∀ t : State, (slots.foldl (fun t i => t.trimSlot wanted i) t).fixed = t.fixed := by
    induction slots with
    | nil => intro t; rfl
    | cons i is ih => intro t; exact (ih _).trans (State.trimSlot_fixed t wanted i)
  simp only [State.syncSlots]
  (repeat' split) <;> simp only [State.request_fixed, h]

theorem State.shed_fixed (s : State) : (s.shed).fixed = s.fixed := by
  simp only [State.shed]
  (repeat' split) <;> first | (simp only [State.raise_fixed, State.raiseIf_fixed, State.updCen_fixed]; done) | (simp only [State.raise_fixed, State.raiseIf_fixed, State.updCen_fixed]; rfl) | rfl

theorem State.overdrawCheck_fixed (s : State) : (s.overdrawCheck).fixed = s.fixed := by
  simp only [State.overdrawCheck]
  (repeat' split) <;> first | (simp only [State.raise_fixed, State.updCen_fixed]; done) | (simp only [State.raise_fixed, State.updCen_fixed]; rfl) | rfl

theorem State.lanesLost_fixed (s : State) (pre : Census) (k : Follow) : (s.lanesLost pre k).fixed = s.fixed := by
  simp only [State.lanesLost]
  (repeat' split) <;> first | (simp only [State.raiseIf_fixed]; done) | (simp only [State.raiseIf_fixed]; rfl) | rfl

theorem State.walkPower_fixed (s : State) (pre : Census) : (s.walkPower pre).fixed = s.fixed := by
  simp only [State.walkPower]
  (repeat' split) <;> first | (simp only [State.raise_fixed, State.raiseIf_fixed, State.updCen_fixed]; done) | (simp only [State.raise_fixed, State.raiseIf_fixed, State.updCen_fixed]; rfl) | rfl

theorem State.walkLanes_fixed (s : State) : (s.walkLanes).fixed = s.fixed := by
  simp only [State.walkLanes]
  (repeat' split) <;> first
    | (simp only [State.raiseIf_fixed, State.updCen_fixed]; done)
    | (simp only [State.raiseIf_fixed]; exact State.updCen_fixed s Census.walkMarked)

theorem State.recordTally_fixed (s : State) : (s.recordTally).fixed = s.fixed := by
  simp only [State.recordTally]
  exact State.updCen_fixed s _

theorem State.followUp_fixed (s : State) (pre : Census) (k : Follow) : (s.followUp pre k).fixed = s.fixed := by
  simp only [State.followUp]
  (repeat' split) <;> first | (simp only [State.recordTally_fixed, State.shed_fixed, State.overdrawCheck_fixed, State.lanesLost_fixed, State.walkPower_fixed, State.walkLanes_fixed]; done) | (simp only [State.recordTally_fixed, State.shed_fixed, State.overdrawCheck_fixed, State.lanesLost_fixed, State.walkPower_fixed, State.walkLanes_fixed]; rfl) | rfl

theorem State.localWrite_fixed (s : State) (f : Census → Census) : (s.localWrite f).fixed = s.fixed := by
  simp only [State.localWrite]
  (repeat' split) <;> first | (simp only [State.updCen_fixed, State.followUp_fixed]; done) | (simp only [State.updCen_fixed, State.followUp_fixed]; rfl) | rfl

theorem State.localZero_fixed (s : State) : (s.localZero).fixed = s.fixed := by
  simp only [State.localZero]
  (repeat' split) <;> first | (simp only [State.localWrite_fixed]; done) | (simp only [State.localWrite_fixed]; rfl) | rfl

theorem State.correction_fixed (s : State) (b : Bool) (a : Addr) (f : CorrectionField) : (s.correction b a f).fixed = s.fixed := by
  simp only [State.correction]
  (repeat' split) <;> first | (simp only [State.raiseIf_fixed]; done) | (simp only [State.raiseIf_fixed]; rfl) | rfl

theorem State.announceRole_fixed (s : State) (a : Addr) (body : AnnounceBody) : (s.announceRole a body).fixed = s.fixed := by
  simp only [State.announceRole]
  (repeat' split) <;> first | (simp only [State.updCen_fixed, State.correction_fixed]; done) | (simp only [State.updCen_fixed, State.correction_fixed]; rfl) | rfl

theorem State.announceHolding_fixed (s : State) (a : Addr) (body : AnnounceBody) : (s.announceHolding a body).fixed = s.fixed := by
  have h : ∀ (vs : List Addr) (t : State),
      (vs.foldl (fun t v => t.correction (s.station != .listen) v .lanes) t).fixed = t.fixed := by
    intro vs
    induction vs with
    | nil => intro t; rfl
    | cons v vs ih => intro t; exact (ih _).trans (State.correction_fixed t _ _ _)
  simp only [State.announceHolding]
  (repeat' split) <;> simp only [h, State.updCen_fixed]

theorem State.announceLanes_fixed (s : State) (pre : Census) (corrects : Bool) (a : Addr) (body : AnnounceBody) : (s.announceLanes pre corrects a body).fixed = s.fixed := by
  simp only [State.announceLanes]
  (repeat' split) <;> first | (simp only [State.updCen_fixed, State.correction_fixed, State.announceHolding_fixed]; done) | (simp only [State.updCen_fixed, State.correction_fixed, State.announceHolding_fixed]; rfl) | rfl

theorem State.policyCompare_fixed (s : State) (pre : Entry) (a : Addr) (body : AnnounceBody) : (s.policyCompare pre a body).fixed = s.fixed := by
  simp only [State.policyCompare]
  (repeat' split) <;> first | (simp only [State.raiseIf_fixed, State.updEntry_fixed]; done) | (simp only [State.raiseIf_fixed, State.updEntry_fixed]; rfl) | rfl

theorem State.resynchronise_fixed (s : State) (a : Addr) : (s.resynchronise a).fixed = s.fixed := by
  simp only [State.resynchronise]
  (repeat' split) <;> first | (simp only [State.updCen_fixed]; done) | (simp only [State.updCen_fixed]; rfl) | rfl

theorem State.askIdentity_fixed (s : State) (a : Addr) : (s.askIdentity a).fixed = s.fixed := by
  simp only [State.askIdentity]
  (repeat' split) <;> first | (simp only [State.requestIf_fixed]; done) | (simp only [State.requestIf_fixed]; rfl) | rfl

theorem State.applyAnnounce_fixed (s : State) (pre : Census) (a : Addr) (body : AnnounceBody) : (s.applyAnnounce pre a body).fixed = s.fixed := by
  simp only [State.applyAnnounce]
  (repeat' split) <;> first | (simp only [State.updCen_fixed, State.anomaly_fixed, State.correction_fixed, State.announceRole_fixed, State.announceLanes_fixed, State.policyCompare_fixed, State.resynchronise_fixed, State.askIdentity_fixed]; done) | (simp only [State.updCen_fixed, State.anomaly_fixed, State.correction_fixed, State.announceRole_fixed, State.announceLanes_fixed, State.policyCompare_fixed, State.resynchronise_fixed, State.askIdentity_fixed]; rfl) | rfl

theorem State.takeAnnounce_fixed (s : State) (pre : Census) (a : Addr) (own : Bool) (bs : List Byte) : (s.takeAnnounce pre a own bs).fixed = s.fixed := by
  simp only [State.takeAnnounce]
  (repeat' split) <;> first | (simp only [State.updCen_fixed, State.anomaly_fixed, State.resynchronise_fixed, State.askIdentity_fixed, State.applyAnnounce_fixed]; done) | (simp only [State.updCen_fixed, State.anomaly_fixed, State.resynchronise_fixed, State.askIdentity_fixed, State.applyAnnounce_fixed]; rfl) | rfl

theorem State.hear_fixed (s : State) (a : Addr) : (s.hear a).fixed = s.fixed := by
  simp only [State.hear]
  (repeat' split) <;> first | (simp only [State.raiseIf_fixed, State.updCen_fixed, State.updEntry_fixed]; done) | (simp only [State.raiseIf_fixed, State.updCen_fixed, State.updEntry_fixed]; rfl) | rfl

theorem State.takeCapacityDrop_fixed (s : State) (a : Addr) (own : Bool) (subject : Byte) (value : Half) : (s.takeCapacityDrop a own subject value).fixed = s.fixed := by
  simp only [State.takeCapacityDrop]
  (repeat' split) <;> first | (simp only [State.updEntry_fixed, State.anomaly_fixed]; done) | (simp only [State.updEntry_fixed, State.anomaly_fixed]; rfl) | rfl

theorem State.takeAirflowDrop_fixed (s : State) (a : Addr) (own : Bool) (subject : Byte) (value : Half) : (s.takeAirflowDrop a own subject value).fixed = s.fixed := by
  simp only [State.takeAirflowDrop]
  (repeat' split) <;> first | (simp only [State.updEntry_fixed, State.anomaly_fixed]; done) | (simp only [State.updEntry_fixed, State.anomaly_fixed]; rfl) | rfl

theorem State.takeLanesDrop_fixed (s : State) (a : Addr) (own : Bool) (subject : Byte) (value : Half) : (s.takeLanesDrop a own subject value).fixed = s.fixed := by
  simp only [State.takeLanesDrop]
  (repeat' split) <;> first | (simp only [State.updCen_fixed, State.anomaly_fixed]; done) | (simp only [State.updCen_fixed, State.anomaly_fixed]; rfl) | rfl

theorem State.takeAlert_fixed (s : State) (a : Addr) (own : Bool) (code subject : Byte) (value : Half) : (s.takeAlert a own code subject value).fixed = s.fixed := by
  simp only [State.takeAlert]
  (repeat' split) <;> first | (simp only [State.anomaly_fixed, State.takeCapacityDrop_fixed, State.takeAirflowDrop_fixed, State.takeLanesDrop_fixed]; done) | (simp only [State.anomaly_fixed, State.takeCapacityDrop_fixed, State.takeAirflowDrop_fixed, State.takeLanesDrop_fixed]; rfl) | rfl

theorem State.takePowerClaim_fixed (s : State) (a : Addr) (level : Half) : (s.takePowerClaim a level).fixed = s.fixed := by
  simp only [State.takePowerClaim]
  (repeat' split) <;> first | (simp only [State.updEntry_fixed, State.anomaly_fixed]; done) | (simp only [State.updEntry_fixed, State.anomaly_fixed]; rfl) | rfl

theorem State.takePowerRelease_fixed (s : State) (a : Addr) (level : Half) : (s.takePowerRelease a level).fixed = s.fixed := by
  simp only [State.takePowerRelease]
  (repeat' split) <;> first | (simp only [State.updCen_fixed]; done) | (simp only [State.updCen_fixed]; rfl) | rfl

theorem State.takeDepart_fixed (s : State) (a : Addr) (own : Bool) (reason : Byte) : (s.takeDepart a own reason).fixed = s.fixed := by
  simp only [State.takeDepart]
  (repeat' split) <;> first | (simp only [State.raiseIf_fixed, State.updCen_fixed, State.updEntry_fixed, State.anomaly_fixed]; done) | (simp only [State.raiseIf_fixed, State.updCen_fixed, State.updEntry_fixed, State.anomaly_fixed]; rfl) | rfl

theorem State.takeLaneClaim_fixed (s : State) (a : Addr) (own : Bool) (uplink count : Byte) : (s.takeLaneClaim a own uplink count).fixed = s.fixed := by
  simp only [State.takeLaneClaim]
  (repeat' split) <;> first | (simp only [State.raiseIf_fixed, State.updCen_fixed, State.anomaly_fixed]; done) | (simp only [State.raiseIf_fixed, State.updCen_fixed, State.anomaly_fixed]; rfl) | rfl

theorem State.takeLaneRelease_fixed (s : State) (a : Addr) (uplink : Byte) : (s.takeLaneRelease a uplink).fixed = s.fixed := by
  simp only [State.takeLaneRelease]
  (repeat' split) <;> first | (simp only [State.updCen_fixed, State.anomaly_fixed]; done) | (simp only [State.updCen_fixed, State.anomaly_fixed]; rfl) | rfl

theorem State.takeHeat_fixed (s : State) (a : Addr) (own : Bool) (zone demand : Byte) : (s.takeHeat a own zone demand).fixed = s.fixed := by
  simp only [State.takeHeat]
  (repeat' split) <;> first | (simp only [State.updEntry_fixed, State.anomaly_fixed]; done) | (simp only [State.updEntry_fixed, State.anomaly_fixed]; rfl) | rfl

theorem State.dropQuery_fixed (s : State) (t : Addr) : (s.dropQuery t).fixed = s.fixed := by
  simp only [State.dropQuery]
  (repeat' split) <;> first | (simp only [State.setSlot_fixed]; done) | (simp only [State.setSlot_fixed]; rfl) | rfl

theorem State.takeSegment_fixed (s : State) (a : Addr) (own : Bool) (segment : Byte) (rest : List Byte) : (s.takeSegment a own segment rest).fixed = s.fixed := by
  simp only [State.takeSegment]
  (repeat' split) <;> first | (simp only [State.updEntry_fixed, State.anomaly_fixed]; done) | (simp only [State.updEntry_fixed, State.anomaly_fixed]; rfl) | rfl

theorem State.takeInventory_fixed (s : State) (a : Addr) (own : Bool) (segment : Byte) (rest : List Byte) : (s.takeInventory a own segment rest).fixed = s.fixed := by
  simp only [State.takeInventory]
  (repeat' split) <;> first | (simp only [State.dropQuery_fixed, State.takeSegment_fixed]; done) | (simp only [State.dropQuery_fixed, State.takeSegment_fixed]; rfl) | rfl

theorem State.takeQuery_fixed (s : State) (target : Byte) : (s.takeQuery target).fixed = s.fixed := by
  simp only [State.takeQuery]
  (repeat' split) <;> first | (simp only [State.updEntry_fixed, State.anomaly_fixed, State.requestIf_fixed, State.dropQuery_fixed]; done) | (simp only [State.updEntry_fixed, State.anomaly_fixed, State.requestIf_fixed, State.dropQuery_fixed]; rfl) | rfl

theorem State.takeContents_fixed (s : State) (pre : Census) (a : Addr) (own : Bool) (p : Payload) :
    (s.takeContents pre a own p).fixed = s.fixed := by
  cases p <;> simp only [State.takeContents, State.takeAlert_fixed, State.takePowerClaim_fixed, State.takePowerRelease_fixed,
    State.takeDepart_fixed, State.takeLaneClaim_fixed, State.takeLaneRelease_fixed, State.takeHeat_fixed,
    State.takeAnnounce_fixed, State.takeInventory_fixed, State.takeQuery_fixed]

theorem State.hearFrame_fixed (s : State) (a : Addr) (own : Bool) (p : Payload) : (s.hearFrame a own p).fixed = s.fixed := by
  simp only [State.hearFrame]
  (repeat' split) <;> first | (simp only [State.anomaly_fixed, State.hear_fixed, State.takeContents_fixed]; done) | (simp only [State.anomaly_fixed, State.hear_fixed, State.takeContents_fixed]; rfl) | rfl

theorem State.applyFrame_fixed (s : State) (a : Addr) (own : Bool) (p : Payload) : (s.applyFrame a own p).fixed = s.fixed := by
  simp only [State.applyFrame]
  (repeat' split) <;> first | (simp only [State.followUp_fixed, State.hearFrame_fixed]; done) | (simp only [State.followUp_fixed, State.hearFrame_fixed]; rfl) | rfl

theorem State.silenceExpires_fixed (s : State) (a : Addr) : (s.silenceExpires a).fixed = s.fixed := by
  simp only [State.silenceExpires]
  (repeat' split) <;> first | (simp only [State.raiseIf_fixed, State.updEntry_fixed, State.followUp_fixed]; done) | (simp only [State.raiseIf_fixed, State.updEntry_fixed, State.followUp_fixed]; rfl) | rfl

theorem State.staleHoldExpires_fixed (s : State) (a : Addr) : (s.staleHoldExpires a).fixed = s.fixed := by
  simp only [State.staleHoldExpires]
  (repeat' split) <;> first | (simp only [State.raiseIf_fixed, State.updCen_fixed, State.followUp_fixed]; done) | (simp only [State.raiseIf_fixed, State.updCen_fixed, State.followUp_fixed]; rfl) | rfl

theorem State.quietExpires_fixed (s : State) (a : Addr) : (s.quietExpires a).fixed = s.fixed := by
  simp only [State.quietExpires]
  (repeat' split) <;> first | (simp only [State.updEntry_fixed, State.followUp_fixed]; done) | (simp only [State.updEntry_fixed, State.followUp_fixed]; rfl) | rfl

theorem State.announceExpires_fixed (s : State) : (s.announceExpires).fixed = s.fixed := by
  simp only [State.announceExpires]
  (repeat' split) <;> first | (simp only [State.updCen_fixed, State.request_fixed, State.followUp_fixed]; done) | (simp only [State.updCen_fixed, State.request_fixed, State.followUp_fixed]; rfl) | rfl

theorem State.enterRail_fixed (s : State) (t : RailState) : (s.enterRail t).fixed = s.fixed := by
  unfold State.enterRail
  (repeat' split) <;> rfl

theorem State.railsOff_fixed (s : State) : (s.railsOff).fixed = s.fixed := by
  simp only [State.railsOff]
  (repeat' split) <;> first | (simp only [State.raiseIf_fixed, State.enterRail_fixed]; done) | (simp only [State.raiseIf_fixed, State.enterRail_fixed]; rfl) | rfl

theorem State.enterRamp_fixed (s : State) (k : Nat) : (s.enterRamp k).fixed = s.fixed := by
  unfold State.enterRamp
  (repeat' split) <;> rfl

theorem State.enterStagger_fixed (s : State) : (s.enterStagger).fixed = s.fixed := by
  simp only [State.enterStagger]
  (repeat' split) <;> first | (simp only [State.enterRamp_fixed]; done) | (simp only [State.enterRamp_fixed]; rfl) | rfl

theorem State.startRails_fixed (s : State) : (s.startRails).fixed = s.fixed := by
  simp only [State.startRails]
  (repeat' split) <;> first | (simp only [State.enterStagger_fixed]; done) | (simp only [State.enterStagger_fixed]; rfl) | rfl

theorem State.passOn_fixed (s : State) (k : Nat) : (s.passOn k).fixed = s.fixed := by
  simp only [State.passOn]
  (repeat' split) <;> first | (simp only [State.raise_fixed, State.enterRail_fixed, State.enterRamp_fixed]; done) | (simp only [State.raise_fixed, State.enterRail_fixed, State.enterRamp_fixed]; rfl) | rfl

theorem State.enterStopping_fixed (s : State) (k : Nat) : (s.enterStopping k).fixed = s.fixed := by
  unfold State.enterStopping
  (repeat' split) <;> rfl

theorem State.enterStopWait_fixed (s : State) (r : StopReason) : (s.enterStopWait r).fixed = s.fixed := by
  simp only [State.enterStopWait]
  (repeat' split) <;> first | (simp only [State.raise_fixed]; done) | (simp only [State.raise_fixed]; rfl) | rfl

theorem State.cutGrace_fixed (s : State) (r : StopReason) : (s.cutGrace r).fixed = s.fixed := by
  simp only [State.cutGrace]
  (repeat' split) <;> first | (simp only [State.raise_fixed]; done) | (simp only [State.raise_fixed]; rfl) | rfl

/-- Coming down from the states in which a stop finds the sequencer. -/
theorem State.takeDown_stagger {s : State} (h : s.rsq.state = .stagger) : s.takeDown = s.enterRail .off := by
  simp [State.takeDown, State.railsOff, State.raiseIf, h, RailState.rails, RailState.hadRail]

theorem State.takeDown_ramp {s : State} {k : Nat} (h : s.rsq.state = .ramp k) : s.takeDown = s.enterStopping k := by
  simp [State.takeDown, h, RailState.rails]

theorem State.takeDown_all {s : State} (h : s.rsq.state = .on ∨ s.rsq.state = .stopWait) :
    s.takeDown = s.enterStopping 2 := by
  rcases h with h | h <;> simp [State.takeDown, h, RailState.rails]

theorem State.takeDown_fixed (s : State) : (s.takeDown).fixed = s.fixed := by
  simp only [State.takeDown]
  split <;> simp only [State.railsOff_fixed, State.enterStopping_fixed]

theorem State.stopRails_fixed (s : State) (r : StopReason) : (s.stopRails r).fixed = s.fixed := by
  simp only [State.stopRails]
  (repeat' split) <;> first | (simp only [State.takeDown_fixed, State.enterStopWait_fixed, State.cutGrace_fixed]; done) | (simp only [State.takeDown_fixed, State.enterStopWait_fixed, State.cutGrace_fixed]; rfl) | rfl

theorem State.stopRailsNow_fixed (s : State) : (s.stopRailsNow).fixed = s.fixed := by
  simp only [State.stopRailsNow]
  split <;> first | (simp only [State.takeDown_fixed]; done) | rfl

theorem State.stepDown_fixed (s : State) (k : Nat) : (s.stepDown k).fixed = s.fixed := by
  simp only [State.stepDown]
  (repeat' split) <;> first | (simp only [State.railsOff_fixed, State.enterStopping_fixed]; done) | (simp only [State.railsOff_fixed, State.enterStopping_fixed]; rfl) | rfl

theorem State.cancelStop_fixed (s : State) : (s.cancelStop).fixed = s.fixed := by
  simp only [State.cancelStop]
  (repeat' split) <;> first | (simp only [State.raise_fixed]; done) | (simp only [State.raise_fixed]; rfl) | rfl

theorem State.enterFault_fixed (s : State) : (s.enterFault).fixed = s.fixed := by
  unfold State.enterFault
  (repeat' split) <;> rfl

theorem State.heldZeroRails_fixed (s : State) : (s.heldZeroRails).fixed = s.fixed := by
  simp only [State.heldZeroRails]
  (repeat' split) <;> first | (simp only [State.railsOff_fixed]; done) | (simp only [State.railsOff_fixed]; rfl) | rfl

theorem State.followHeld_fixed (s : State) : (s.followHeld).fixed = s.fixed := by
  unfold State.followHeld
  (repeat' split) <;> rfl

theorem State.armClear_fixed (s : State) : (s.armClear).fixed = s.fixed := by
  unfold State.armClear
  (repeat' split) <;> rfl

theorem State.forceRailsOff_fixed (s : State) : (s.forceRailsOff).fixed = s.fixed :=
  s.railsOff_fixed

theorem State.evalAirflow_fixed (s : State) : (s.evalAirflow).fixed = s.fixed := by
  simp only [State.evalAirflow]
  (repeat' split) <;> first | (simp only [State.raiseIf_fixed]; done) | (simp only [State.raiseIf_fixed]; rfl) | rfl

theorem State.evalCapped_fixed (s : State) : (s.evalCapped).fixed = s.fixed := by
  simp only [State.evalCapped]
  (repeat' split) <;> first | (simp only [State.raiseIf_fixed]; done) | (simp only [State.raiseIf_fixed]; rfl) | rfl

theorem State.stopAtZero_fixed (s : State) : (s.stopAtZero).fixed = s.fixed := by
  simp only [State.stopAtZero]
  (repeat' split) <;> first | (simp only [State.stopRails_fixed]; done) | (simp only [State.stopRails_fixed]; rfl) | rfl

theorem State.compose_fixed (s : State) (force : Bool) : (s.compose force).fixed = s.fixed := by
  simp only [State.compose]
  (repeat' split) <;> first
    | rfl
    | exact s.evalCapped_fixed
    | (simp only [State.stopAtZero_fixed]; exact s.evalCapped_fixed)

theorem State.endOvertemp_fixed (s : State) : (s.endOvertemp).fixed = s.fixed := by
  simp only [State.endOvertemp]
  (repeat' split) <;> first | (simp only [State.raise_fixed]; done) | (simp only [State.raise_fixed]; rfl) | rfl

theorem State.writeDemand_fixed (s : State) : (s.writeDemand).fixed = s.fixed := by
  simp only [State.writeDemand]
  (repeat' split) <;> first | (simp only [State.updSelf_fixed]; done) | (simp only [State.updSelf_fixed]; rfl) | rfl

theorem State.testHeat_fixed (s : State) : (s.testHeat).fixed = s.fixed := by
  simp only [State.testHeat]
  (repeat' split) <;> first | (simp only [State.requestIf_fixed]; done) | (simp only [State.requestIf_fixed]; rfl) | rfl

theorem State.evalPowerClient_fixed (s : State) : (s.evalPowerClient).fixed = s.fixed := by
  simp only [State.evalPowerClient]
  (repeat' split) <;> first | (simp only [State.syncSlots_fixed]; done) | (simp only [State.syncSlots_fixed]; rfl) | rfl

theorem State.setReported_fixed (s : State) (b : Bool) : (s.setReported b).fixed = s.fixed := by
  unfold State.setReported
  (repeat' split) <;> rfl

theorem State.reportUnavailable_fixed (s : State) : (s.reportUnavailable).fixed = s.fixed := by
  simp only [State.reportUnavailable]
  (repeat' split) <;> first | (simp only [State.raise_fixed, State.setReported_fixed]; done) | (simp only [State.raise_fixed, State.setReported_fixed]; rfl) | rfl

theorem State.clearReported_fixed (s : State) (wanted : Option FrameReq) : (s.clearReported wanted).fixed = s.fixed := by
  simp only [State.clearReported]
  (repeat' split) <;> first | (simp only [State.setReported_fixed]; done) | (simp only [State.setReported_fixed]; rfl) | rfl

theorem State.evalLaneClient_fixed (s : State) : (s.evalLaneClient).fixed = s.fixed := by
  simp only [State.evalLaneClient]
  (repeat' split) <;> first | (simp only [State.syncSlots_fixed, State.reportUnavailable_fixed, State.clearReported_fixed]; done) | (simp only [State.syncSlots_fixed, State.reportUnavailable_fixed, State.clearReported_fixed]; rfl) | rfl

theorem State.bladeLimits_fixed (s : State) (force : Bool) : (s.bladeLimits force).fixed = s.fixed := by
  simp only [State.bladeLimits]
  (repeat' split) <;> first | (simp only [State.heldZeroRails_fixed, State.followHeld_fixed, State.evalAirflow_fixed, State.compose_fixed, State.endOvertemp_fixed]; done) | (simp only [State.heldZeroRails_fixed, State.followHeld_fixed, State.evalAirflow_fixed, State.compose_fixed, State.endOvertemp_fixed]; rfl) | rfl

theorem State.bladeZero_fixed (s before : State) : (s.bladeZero before).fixed = s.fixed := by
  simp only [State.bladeZero]
  (repeat' split) <;> first | (simp only [State.localZero_fixed, State.bladeLimits_fixed]; done) | (simp only [State.localZero_fixed, State.bladeLimits_fixed]; rfl) | rfl

theorem State.bladeRequests_fixed (s : State) (points : Points) (before : State) : (s.bladeRequests points before).fixed = s.fixed := by
  simp only [State.bladeRequests]
  (repeat' split) <;> first | (simp only [State.startRails_fixed, State.writeDemand_fixed, State.testHeat_fixed, State.evalPowerClient_fixed, State.evalLaneClient_fixed]; done) | (simp only [State.startRails_fixed, State.writeDemand_fixed, State.testHeat_fixed, State.evalPowerClient_fixed, State.evalLaneClient_fixed]; rfl) | rfl

theorem State.evalBlade_fixed (s : State) (force : Bool) (points : Points) (before : State) : (s.evalBlade force points before).fixed = s.fixed := by
  simp only [State.evalBlade]
  (repeat' split) <;> first | (simp only [State.bladeLimits_fixed, State.bladeZero_fixed, State.bladeRequests_fixed]; done) | (simp only [State.bladeLimits_fixed, State.bladeZero_fixed, State.bladeRequests_fixed]; rfl) | rfl

theorem State.updFdu_fixed (s : State) (g : Fdu → Fdu) : (s.updFdu g).fixed = s.fixed := by
  unfold State.updFdu
  (repeat' split) <;> rfl

theorem State.fanUpdate_fixed (s : State) (start : Bool) : (s.fanUpdate start).fixed = s.fixed := by
  simp only [State.fanUpdate]
  (repeat' split) <;> first | (simp only [State.updFdu_fixed]; done) | (simp only [State.updFdu_fixed]; rfl) | rfl

theorem State.pwmFromConfig_fixed (s : State) : (s.pwmFromConfig).fixed = s.fixed := by
  simp only [State.pwmFromConfig]
  (repeat' split) <;> first | (simp only [State.updFdu_fixed]; done) | (simp only [State.updFdu_fixed]; rfl) | rfl

theorem State.endRetained_fixed (s : State) : (s.endRetained).fixed = s.fixed := by
  simp only [State.endRetained]
  (repeat' split) <;> first | (simp only [State.pwmFromConfig_fixed]; done) | (simp only [State.pwmFromConfig_fixed]; rfl) | rfl

theorem State.beginDrive_fixed (s : State) : (s.beginDrive).fixed = s.fixed := by
  simp only [State.beginDrive]
  (repeat' split) <;> first | (simp only [State.updFdu_fixed, State.fanUpdate_fixed, State.endRetained_fixed]; done) | (simp only [State.updFdu_fixed, State.fanUpdate_fixed, State.endRetained_fixed]; rfl) | rfl

theorem State.beginMute_fixed (s : State) : (s.beginMute).fixed = s.fixed := by
  simp only [State.beginMute]
  (repeat' split) <;> first | (simp only [State.updFdu_fixed, State.endRetained_fixed]; done) | (simp only [State.updFdu_fixed, State.endRetained_fixed]; rfl) | rfl

theorem State.endDrive_fixed (s : State) : (s.endDrive).fixed = s.fixed := by
  simp only [State.endDrive]
  (repeat' split) <;> first | (simp only [State.updFdu_fixed, State.endRetained_fixed]; done) | (simp only [State.updFdu_fixed, State.endRetained_fixed]; rfl) | rfl

theorem State.writeFan_fixed (s : State) (v : Airflow) : (s.writeFan v).fixed = s.fixed := by
  simp only [State.writeFan]
  (repeat' split) <;> first | (simp only [State.updSelf_fixed]; done) | (simp only [State.updSelf_fixed]; rfl) | rfl

theorem State.evalOwnAirflow_fixed (s : State) : (s.evalOwnAirflow).fixed = s.fixed := by
  simp only [State.evalOwnAirflow]
  (repeat' split) <;> first | (simp only [State.raiseIf_fixed, State.requestIf_fixed, State.writeFan_fixed]; done) | (simp only [State.raiseIf_fixed, State.requestIf_fixed, State.writeFan_fixed]; rfl) | rfl

theorem State.settleDrive_fixed (s : State) : (s.settleDrive).fixed = s.fixed := by
  simp only [State.settleDrive]
  (repeat' split) <;> first | (simp only [State.beginDrive_fixed, State.beginMute_fixed, State.endDrive_fixed, State.evalOwnAirflow_fixed]; done) | (simp only [State.beginDrive_fixed, State.beginMute_fixed, State.endDrive_fixed, State.evalOwnAirflow_fixed]; rfl) | rfl

theorem State.insertFan_fixed (s : State) (k : Nat) : (s.insertFan k).fixed = s.fixed := by
  simp only [State.insertFan]
  (repeat' split) <;> first | (simp only [State.updFdu_fixed]; done) | (simp only [State.updFdu_fixed]; rfl) | rfl

theorem State.presence_fixed (s : State) (k : Nat) (present edge : Bool) : (s.presence k present edge).fixed = s.fixed := by
  simp only [State.presence]
  (repeat' split) <;> first | (simp only [State.raiseIf_fixed, State.updFdu_fixed, State.evalOwnAirflow_fixed, State.insertFan_fixed]; done) | (simp only [State.raiseIf_fixed, State.updFdu_fixed, State.evalOwnAirflow_fixed, State.insertFan_fixed]; rfl) | rfl

theorem State.gateEnds_fixed (s : State) : (s.gateEnds).fixed = s.fixed := by
  simp only [State.gateEnds]
  (repeat' split) <;> first | (simp only [State.raiseAll_fixed, State.updFdu_fixed, State.fanUpdate_fixed, State.evalOwnAirflow_fixed]; done) | (simp only [State.raiseAll_fixed, State.updFdu_fixed, State.fanUpdate_fixed, State.evalOwnAirflow_fixed]; rfl) | rfl

theorem State.tachEdge_fixed (s : State) (k : Nat) : (s.tachEdge k).fixed = s.fixed := by
  simp only [State.tachEdge]
  (repeat' split) <;> first | (simp only [State.updFdu_fixed]; done) | (simp only [State.updFdu_fixed]; rfl) | rfl

theorem State.pwmWraps_fixed (s : State) : (s.pwmWraps).fixed = s.fixed := by
  simp only [State.pwmWraps]
  (repeat' split) <;> first | (simp only [State.updFdu_fixed]; done) | (simp only [State.updFdu_fixed]; rfl) | rfl

theorem State.installFans_fixed (s : State) : (s.installFans).fixed = s.fixed := by
  simp only [State.installFans]
  (repeat' split) <;> first | (simp only [State.updFdu_fixed, State.pwmFromConfig_fixed, State.evalOwnAirflow_fixed]; done) | (simp only [State.updFdu_fixed, State.pwmFromConfig_fixed, State.evalOwnAirflow_fixed]; rfl) | rfl

theorem State.updSpm_fixed (s : State) (g : Spm → Spm) : (s.updSpm g).fixed = s.fixed := by
  unfold State.updSpm
  (repeat' split) <;> rfl

theorem State.writeSupply_fixed (s : State) (t : SupplyState) (capacity : Nat) : (s.writeSupply t capacity).fixed = s.fixed := by
  simp only [State.writeSupply]
  (repeat' split) <;> first | (simp only [State.updSelf_fixed]; done) | (simp only [State.updSelf_fixed]; rfl) | rfl

theorem State.setSupply_fixed (s : State) (t : SupplyState) : (s.setSupply t).fixed = s.fixed := by
  simp only [State.setSupply]
  (repeat' split) <;> first | (simp only [State.raiseIf_fixed, State.requestIf_fixed, State.writeSupply_fixed]; done) | (simp only [State.raiseIf_fixed, State.requestIf_fixed, State.writeSupply_fixed]; rfl) | rfl

theorem State.failSupply_fixed (s : State) (cause : SupplyCause) : (s.failSupply cause).fixed = s.fixed := by
  simp only [State.failSupply]
  (repeat' split) <;> first | (simp only [State.raise_fixed, State.updSpm_fixed, State.setSupply_fixed]; done) | (simp only [State.raise_fixed, State.updSpm_fixed, State.setSupply_fixed]; rfl) | rfl

theorem State.restartRecovery_fixed (s : State) (cause : SupplyCause) : (s.restartRecovery cause).fixed = s.fixed := by
  simp only [State.restartRecovery]
  (repeat' split) <;> first | (simp only [State.raise_fixed, State.updSpm_fixed]; done) | (simp only [State.raise_fixed, State.updSpm_fixed]; rfl) | rfl

theorem State.qualifySupply_fixed (s : State) : (s.qualifySupply).fixed = s.fixed := by
  simp only [State.qualifySupply]
  (repeat' split) <;> first | (simp only [State.updSpm_fixed, State.setSupply_fixed, State.failSupply_fixed]; done) | (simp only [State.updSpm_fixed, State.setSupply_fixed, State.failSupply_fixed]; rfl) | rfl

theorem State.watchSupply_fixed (s : State) : (s.watchSupply).fixed = s.fixed := by
  simp only [State.watchSupply]
  (repeat' split) <;> first | (simp only [State.setSupply_fixed, State.failSupply_fixed]; done) | (simp only [State.setSupply_fixed, State.failSupply_fixed]; rfl) | rfl

theorem State.recoverSupply_fixed (s : State) : (s.recoverSupply).fixed = s.fixed := by
  simp only [State.recoverSupply]
  (repeat' split) <;> first | (simp only [State.restartRecovery_fixed]; done) | (simp only [State.restartRecovery_fixed]; rfl) | rfl

theorem State.watchOutput_fixed (s : State) : (s.watchOutput).fixed = s.fixed := by
  simp only [State.watchOutput]
  (repeat' split) <;> first | (simp only [State.updSpm_fixed]; done) | (simp only [State.updSpm_fixed]; rfl) | rfl

theorem State.evalSupply_fixed (s : State) : (s.evalSupply).fixed = s.fixed := by
  simp only [State.evalSupply]
  (repeat' split) <;> first | (simp only [State.qualifySupply_fixed, State.watchSupply_fixed, State.recoverSupply_fixed, State.watchOutput_fixed]; done) | (simp only [State.qualifySupply_fixed, State.watchSupply_fixed, State.recoverSupply_fixed, State.watchOutput_fixed]; rfl) | rfl

theorem State.measureOutput_fixed (s : State) : (s.measureOutput).fixed = s.fixed := by
  simp only [State.measureOutput]
  (repeat' split) <;> first | (simp only [State.updSelf_fixed]; done) | (simp only [State.updSelf_fixed]; rfl) | rfl

theorem State.acWarning_fixed (s : State) : (s.acWarning).fixed = s.fixed := by
  simp only [State.acWarning]
  (repeat' split) <;> first | (simp only [State.updSpm_fixed, State.failSupply_fixed, State.restartRecovery_fixed]; done) | (simp only [State.updSpm_fixed, State.failSupply_fixed, State.restartRecovery_fixed]; rfl) | rfl

theorem State.recovered_fixed (s : State) : (s.recovered).fixed = s.fixed := by
  simp only [State.recovered]
  (repeat' split) <;> first | (simp only [State.updSpm_fixed, State.setSupply_fixed]; done) | (simp only [State.updSpm_fixed, State.setSupply_fixed]; rfl) | rfl

theorem State.startSupply_fixed (s : State) : (s.startSupply).fixed = s.fixed := by
  simp only [State.startSupply]
  (repeat' split) <;> first | (simp only [State.updSpm_fixed]; done) | (simp only [State.updSpm_fixed]; rfl) | rfl

theorem State.leaveSupply_fixed (s : State) : (s.leaveSupply).fixed = s.fixed := by
  simp only [State.leaveSupply]
  (repeat' split) <;> first | (simp only [State.raiseIf_fixed, State.request_fixed, State.updSpm_fixed, State.writeSupply_fixed]; done) | (simp only [State.raiseIf_fixed, State.request_fixed, State.updSpm_fixed, State.writeSupply_fixed]; rfl) | rfl

theorem State.darkenSupply_fixed (s : State) : (s.darkenSupply).fixed = s.fixed := by
  simp only [State.darkenSupply]
  (repeat' split) <;> first | (simp only [State.updSpm_fixed]; done) | (simp only [State.updSpm_fixed]; rfl) | rfl

theorem State.parkSupply_fixed (s : State) : (s.parkSupply).fixed = s.fixed := by
  simp only [State.parkSupply]
  (repeat' split) <;> first | (simp only [State.raiseIf_fixed, State.updSpm_fixed, State.writeSupply_fixed]; done) | (simp only [State.raiseIf_fixed, State.updSpm_fixed, State.writeSupply_fixed]; rfl) | rfl

theorem State.updLmp_fixed (s : State) (g : Lmp → Lmp) : (s.updLmp g).fixed = s.fixed := by
  unfold State.updLmp
  (repeat' split) <;> rfl

theorem State.followTable_fixed (s : State) (pre : Census) : (s.followTable pre).fixed = s.fixed := by
  simp only [State.followTable]
  (repeat' split) <;> first | (simp only [State.updLmp_fixed]; done) | (simp only [State.updLmp_fixed]; rfl) | rfl

theorem State.crossbarFails_fixed (s : State) : (s.crossbarFails).fixed = s.fixed := by
  simp only [State.crossbarFails]
  (repeat' split) <;> first | (simp only [State.raise_fixed, State.updSelf_fixed, State.updLmp_fixed]; done) | (simp only [State.raise_fixed, State.updSelf_fixed, State.updLmp_fixed]; rfl) | rfl

theorem State.writeOffer_fixed (s : State) (k : Nat) : (s.writeOffer k).fixed = s.fixed := by
  simp only [State.writeOffer]
  (repeat' split) <;> first | (simp only [State.localWrite_fixed, State.followTable_fixed]; done) | (simp only [State.localWrite_fixed, State.followTable_fixed]; rfl) | rfl

theorem State.evalOffer_fixed (s : State) : (s.evalOffer).fixed = s.fixed := by
  simp only [State.evalOffer]
  (repeat' split) <;> first | (simp only [State.requestIf_fixed, State.writeOffer_fixed]; done) | (simp only [State.requestIf_fixed, State.writeOffer_fixed]; rfl) | rfl

theorem State.setXbar_fixed (s : State) (b : Bool) : (s.setXbar b).fixed = s.fixed := by
  simp only [State.setXbar]
  (repeat' split) <;> first | (simp only [State.updLmp_fixed]; done) | (simp only [State.updLmp_fixed]; rfl) | rfl

theorem State.evalXbar_fixed (s : State) : (s.evalXbar).fixed = s.fixed := by
  simp only [State.evalXbar]
  (repeat' split) <;> first | (simp only [State.setXbar_fixed]; done) | (simp only [State.setXbar_fixed]; rfl) | rfl

theorem State.evalUplink_fixed (s : State) (pre : Census) : (s.evalUplink pre).fixed = s.fixed := by
  simp only [State.evalUplink]
  (repeat' split) <;> first | (simp only [State.followTable_fixed, State.evalOffer_fixed, State.evalXbar_fixed]; done) | (simp only [State.followTable_fixed, State.evalOffer_fixed, State.evalXbar_fixed]; rfl) | rfl

theorem State.forceIdle_fixed (s : State) : (s.forceIdle).fixed = s.fixed := by
  simp only [State.forceIdle]
  (repeat' split) <;> first | (simp only [State.updLmp_fixed]; done) | (simp only [State.updLmp_fixed]; rfl) | rfl

theorem State.evalEssential_fixed (s : State) : (s.evalEssential).fixed = s.fixed := by
  simp only [State.evalEssential]
  (repeat' split) <;> first | (simp only [State.requestIf_fixed]; done) | (simp only [State.requestIf_fixed]; rfl) | rfl

theorem State.evalRoles_fixed (s : State) (pre : Census) (force : Bool) (points : Points) (before : State) : (s.evalRoles pre force points before).fixed = s.fixed := by
  simp only [State.evalRoles]
  (repeat' split) <;> first | (simp only [State.evalBlade_fixed, State.settleDrive_fixed, State.evalUplink_fixed, State.evalEssential_fixed]; done) | (simp only [State.evalBlade_fixed, State.settleDrive_fixed, State.evalUplink_fixed, State.evalEssential_fixed]; rfl) | rfl

theorem State.ownStation_fixed (s : State) (p : Option PeerState) : (s.ownStation p).fixed = s.fixed := by
  simp only [State.ownStation]
  (repeat' split) <;> first | (simp only [State.updSelf_fixed]; done) | (simp only [State.updSelf_fixed]; rfl) | rfl

theorem State.muteFault_fixed (s : State) : (s.muteFault).fixed = s.fixed := by
  simp only [State.muteFault]
  (repeat' split) <;> first | (simp only [State.localZero_fixed]; done) | (simp only [State.localZero_fixed]; rfl) | rfl

theorem State.removeClaim_fixed (s : State) (i : SlotId) : (s.removeClaim i).fixed = s.fixed := by
  simp only [State.removeClaim]
  (repeat' split) <;> first | (simp only [State.setSlot_fixed]; done) | (simp only [State.setSlot_fixed]; rfl) | rfl

theorem State.joinRole_fixed (s : State) : (s.joinRole).fixed = s.fixed := by
  simp only [State.joinRole]
  (repeat' split) <;> first | (simp only [State.raise_fixed, State.evalBlade_fixed, State.settleDrive_fixed, State.startSupply_fixed, State.evalUplink_fixed]; done) | (simp only [State.raise_fixed, State.evalBlade_fixed, State.settleDrive_fixed, State.startSupply_fixed, State.evalUplink_fixed]; rfl) | rfl

end Sys2Proof.Machine
end

