-- ==== Sys2Proof/Laws/Queue.lean ====
section
/-! SUPPORT. Every frame of the transmit queue stands in its own slot: how to check it, and that requests, removals and
settlements keep it. -/

namespace Sys2Proof.Machine

set_option linter.all false
set_option Elab.async false

/-- A frame that may stand in slot i. -/
def QueuedFrame.fits (f : QueuedFrame) (i : SlotId) : Bool := f.contents.slot == i && f.followOn.all (fun r => r.slot == i)

theorem QueuedFrame.fits_iff (f : QueuedFrame) (i : SlotId) :
    f.fits i = true ↔ f.contents.slot = i ∧ ∀ r, f.followOn = some r → r.slot = i := by
  cases h : f.followOn <;> simp [QueuedFrame.fits, h]

theorem State.slotted_iff (s : State) : s.slotted ↔ ∀ i, (s.slot i).all (fun f => f.fits i) = true := by
  simp only [Option.all_eq_true, QueuedFrame.fits_iff]

theorem State.slotted_of_check {s : State} (h : allSlots.all (fun i => (s.slot i).all (fun f => f.fits i)) = true) :
    s.slotted := by
  rw [State.slotted_iff]
  intro i
  have hi : i ∈ allSlots := by cases i <;> decide
  exact List.all_eq_true.mp h i hi

/-- slotted speaks of the queue alone. -/
theorem State.slotted_congr {s t : State} (h : t.pbc.queue = s.pbc.queue) (hs : s.slotted) : t.slotted := by
  intro i f hf
  exact hs i f (by rw [← hf]; simp only [State.slot, h])

theorem State.setSlot_slotted {s : State} (hs : s.slotted) {i : SlotId} {o : Option QueuedFrame}
    (ho : ∀ f, o = some f → f.fits i = true) : (s.setSlot i o).slotted := by
  intro j f hf
  by_cases hj : j = i
  · subst hj
    have e : (s.setSlot j o).slot j = o := TxQueue.get_put_self s.pbc.queue j o
    exact (QueuedFrame.fits_iff f j).mp (ho f (e.symm.trans hf))
  · have e : (s.setSlot i o).slot j = s.slot j := TxQueue.get_put_other s.pbc.queue o hj
    exact hs j f (e.symm.trans hf)

theorem State.enqueue_slotted {s : State} (hs : s.slotted) (r : FrameReq) : (s.enqueue r).slotted := by
  unfold State.enqueue
  split
  · refine State.setSlot_slotted hs fun f hf => ?_
    cases hf
    simp [QueuedFrame.fits, State.fresh]
  · rename_i f hf
    obtain ⟨h1, h2⟩ := hs _ f hf
    refine State.setSlot_slotted hs fun g hg => ?_
    cases hg
    rw [QueuedFrame.fits_iff]
    unfold QueuedFrame.requested
    split
    · split
      · exact ⟨h1, h2⟩
      · exact ⟨h1, fun q hq => by cases hq; rfl⟩
    · exact ⟨rfl, h2⟩

theorem QueuedFrame.promote_fits {f : QueuedFrame} {i : SlotId} {r : FrameReq} (h : f.fits i = true)
    (hr : f.followOn = some r) : (f.promote r).fits i = true := by
  have := ((QueuedFrame.fits_iff f i).mp h).2 r hr
  simp [QueuedFrame.fits, QueuedFrame.promote, this]

theorem State.loseArbitration_slotted {s : State} (hs : s.slotted) {i : SlotId} {f : QueuedFrame}
    (hf : s.slot i = some f) : (s.loseArbitration i f).slotted := by
  unfold State.loseArbitration
  split
  · exact hs
  · rename_i r hr
    refine State.setSlot_slotted hs fun g hg => ?_
    cases hg
    exact QueuedFrame.promote_fits ((QueuedFrame.fits_iff f i).mpr (hs i f hf)) hr

theorem State.request_slotted {s : State} (hs : s.slotted) (r : FrameReq) : (s.request r).slotted := by
  unfold State.request
  split
  · exact State.enqueue_slotted hs r
  · exact hs

end Sys2Proof.Machine
end

