-- ==== Sys2Proof/Laws/Still.lean ====
section
/-! SUPPORT. What the transitions of station life leave as it was: straps, configuration, image and store, the counters
of the bus, the Measurement Unit, the Line Unit, the response and the commands waiting. -/

namespace Sys2Proof.Machine

set_option linter.all false
set_option Elab.async false

structure LifeStill where
  straps : Straps
  readFaults : Nat
  image : Option BootImage
  config : BootImage
  setupCause : Option SetupCause
  storing : Option (List Byte)

def Life.still (l : Life) : LifeStill := ⟨l.straps, l.readFaults, l.image, l.config, l.setupCause, l.storing⟩

structure BusStill where
  synced : Bool
  stamp : Nat
  faultScore : Nat
  checkFailures : Nat
  vetoes : Nat

def Pbc.still (p : Pbc) : BusStill := ⟨p.synced, p.stamp, p.faultScore, p.checkFailures, p.vetoes⟩

/-- The parts of State that no transition of station life touches. -/
structure Still where
  life : LifeStill
  bus : BusStill
  msu : Msu
  lnu : Lnu
  response : Option Response
  pending : List Instr

def Fixed.still (f : Fixed) : Still := ⟨f.life.still, f.bus.still, f.msu, f.lnu, f.response, f.pending⟩

def State.still (s : State) : Still := s.fixed.still

theorem State.still_of_fixed {s t : State} (h : t.fixed = s.fixed) : t.still = s.still := congrArg Fixed.still h

theorem State.updLife_still (s : State) (g : Life → Life) (h : ∀ l, (g l).still = l.still) :
    (s.updLife g).fixed.still = s.fixed.still := by
  show Still.mk (g s.life).still _ _ _ _ _ = Still.mk s.life.still _ _ _ _ _
  rw [h]; rfl

theorem State.updPbc_still (s : State) (g : Pbc → Pbc) (h : ∀ p, (g p).still = p.still) :
    (s.updPbc g).fixed.still = s.fixed.still := by
  show Still.mk _ (g s.pbc).still _ _ _ _ = Still.mk _ s.pbc.still _ _ _ _
  rw [h]; rfl

theorem State.withLife_still (s : State) (l : Life) (h : l.still = s.life.still) :
    ({ s with life := l } : State).fixed.still = s.fixed.still := by
  show Still.mk l.still _ _ _ _ _ = Still.mk s.life.still _ _ _ _ _
  rw [h]; rfl

theorem State.withClient_fixed (s : State) (c : Client) : ({ s with client := c } : State).fixed = s.fixed := rfl

theorem State.enterState_still (s : State) (t : StationState) : (s.enterState t).fixed.still = s.fixed.still :=
  (congrArg Fixed.still (State.raise_fixed _ _)).trans (State.withLife_still s _ rfl)

theorem State.updLifeMute_still (s : State) : (s.updLife Life.mute).fixed.still = s.fixed.still :=
  State.updLife_still s _ (fun _ => rfl)

theorem State.updLifePark_still (s : State) : (s.updLife Life.park).fixed.still = s.fixed.still :=
  State.updLife_still s _ (fun _ => rfl)

theorem State.updLifeListen_still (s : State) (x : Timer) :
    (s.updLife (fun l => { l with listenTimer := x })).fixed.still = s.fixed.still :=
  State.updLife_still s _ (fun _ => rfl)

theorem State.updLifeLeave_still (s : State) (x : Timer) (v : Option Leaving) :
    (s.updLife (fun l => { l with bumpTimer := x, leaving := v })).fixed.still = s.fixed.still :=
  State.updLife_still s _ (fun _ => rfl)

theorem State.updLifeSeat_still (s : State) (x y : Timer) (r : Bool) :
    (s.updLife (fun l => { l with bumpTimer := x, listenTimer := y, retention := r })).fixed.still = s.fixed.still :=
  State.updLife_still s _ (fun _ => rfl)

theorem State.muteBus_still (s : State) (cause : MuteCause) : (s.muteBus cause).fixed.still = s.fixed.still := by
  simp only [State.muteBus]
  (repeat' split) <;> (try simp only [State.updPbc_still, State.raise_fixed, Pbc.still]) <;> try rfl

theorem State.enterMute_still (s : State) (cause : MuteCause) : (s.enterMute cause).fixed.still = s.fixed.still := by
  simp only [State.enterMute, State.evalRoles_fixed, State.muteFault_fixed, State.updLmp_fixed, State.updCen_fixed,
    State.updLifeMute_still, State.muteBus_still]

theorem State.disposeDepart_still (s : State) : (s.disposeDepart).fixed.still = s.fixed.still := by
  simp only [State.disposeDepart]
  (repeat' split) <;> (try simp only [State.updPbc_still, State.raise_fixed, State.setSlot_fixed, Pbc.still]) <;> try rfl

theorem State.enterListen_still (s : State) : (s.enterListen).fixed.still = s.fixed.still := by
  simp only [State.enterListen]
  split
  · simp only [State.enterMute_still, State.evalRoles_fixed, State.disposeDepart_still, State.withClient_fixed,
      State.updLmp_fixed, State.updCen_fixed, State.updLifeListen_still, State.enterState_still]
  · simp only [State.evalRoles_fixed, State.disposeDepart_still, State.withClient_fixed,
      State.updLmp_fixed, State.updCen_fixed, State.updLifeListen_still, State.enterState_still]

theorem State.testJoin_still (s : State) : (s.testJoin).fixed.still = s.fixed.still := by
  simp only [State.testJoin]
  (repeat' split) <;> (try simp only [State.enterListen_still]) <;> try rfl

theorem State.becomeParked_still (s : State) : (s.becomeParked).fixed.still = s.fixed.still := by
  simp only [State.becomeParked]
  (repeat' split) <;> (try simp only [State.updLife_still, State.enterState_still, State.evalRoles_fixed, State.ownStation_fixed,
        State.updCen_fixed, Life.still, Life.park]) <;> try rfl

theorem State.park_still (s : State) : (s.park).fixed.still = s.fixed.still := by
  simp only [State.park]
  (repeat' split) <;> (try simp only [State.becomeParked_still, State.clearQueue_fixed]) <;> try rfl

theorem State.setStep_still (s : State) (step : LeaveStep) : (s.setStep step).fixed.still = s.fixed.still := by
  simp only [State.setStep]
  (repeat' split) <;> (try simp only [State.updLife_still, Life.still]) <;> try rfl

theorem State.beginDeparture_still (s : State) : (s.beginDeparture).fixed.still = s.fixed.still := by
  simp only [State.beginDeparture]
  (repeat' split) <;> (try simp only [State.setStep_still, State.request_fixed]) <;> try rfl

theorem State.beginRelease_still (s : State) : (s.beginRelease).fixed.still = s.fixed.still := by
  simp only [State.beginRelease]
  (repeat' split) <;> (try simp only [State.setStep_still, State.beginDeparture_still, State.request_fixed]) <;> try rfl

theorem State.beginLaneRelease_still (s : State) : (s.beginLaneRelease).fixed.still = s.fixed.still := by
  simp only [State.beginLaneRelease]
  (repeat' split) <;> (try simp only [State.setStep_still, State.beginRelease_still, State.request_fixed]) <;> try rfl

theorem State.afterIdleMap_still (s : State) : (s.afterIdleMap).fixed.still = s.fixed.still := by
  simp only [State.afterIdleMap]
  (repeat' split) <;> (try simp only [State.setStep_still, State.beginRelease_still, State.setXbar_fixed]) <;> try rfl

theorem State.completeDeparture_still (s : State) (reason : DepartReason) : (s.completeDeparture reason).fixed.still = s.fixed.still := by
  simp only [State.completeDeparture]
  (repeat' split) <;> (try simp only [State.updLife_still, State.testJoin_still, State.park_still, Life.still]) <;> try rfl

theorem State.advanceLeaving_still (s : State) : (s.advanceLeaving).fixed.still = s.fixed.still := by
  simp only [State.advanceLeaving]
  (repeat' split) <;> (try simp only [State.beginDeparture_still, State.beginRelease_still, State.beginLaneRelease_still,
        State.afterIdleMap_still, State.completeDeparture_still, State.darkenSupply_fixed, State.forceIdle_fixed,
        State.railsOff_fixed]) <;> try rfl

theorem State.react_still (s : State) (pre : Census) (points : Points) (before : State) : (s.react pre points before).fixed.still = s.fixed.still := by
  simp only [State.react]
  (repeat' split) <;> (try simp only [State.advanceLeaving_still, State.evalRoles_fixed]) <;> try rfl

theorem State.leaveRole_still (s : State) : (s.leaveRole).fixed.still = s.fixed.still := by
  simp only [State.leaveRole]
  (repeat' split) <;> (try simp only [State.beginRelease_still, State.advanceLeaving_still, State.evalBlade_fixed,
        State.leaveSupply_fixed, State.request_fixed, State.settleDrive_fixed, State.writeOffer_fixed]) <;> try rfl

theorem State.enterLeaving_still (s : State) (reason : DepartReason) : (s.enterLeaving reason).fixed.still = s.fixed.still := by
  simp only [State.enterLeaving]
  (repeat' split) <;> (try simp only [State.updLifeLeave_still, State.enterState_still, State.leaveRole_still, State.ownStation_fixed,
        State.removeClaim_fixed, Life.still]) <;> try rfl

theorem State.cancelLeaving_still (s : State) : (s.cancelLeaving).fixed.still = s.fixed.still := by
  simp only [State.cancelLeaving]
  (repeat' split) <;> (try simp only [State.updLife_still, State.enterState_still, State.cancelStop_fixed, State.evalBlade_fixed,
        State.ownStation_fixed, Life.still]) <;> try rfl

theorem State.enterJoined_still (s : State) : (s.enterJoined).fixed.still = s.fixed.still := by
  simp only [State.enterJoined]
  (repeat' split) <;> (try simp only [State.updLife_still, State.enterState_still, State.joinRole_fixed, State.ownStation_fixed,
        State.raise_fixed, State.request_fixed, State.shed_fixed, State.recordTally_fixed, State.updCen_fixed, Life.still]) <;> try rfl

theorem State.seatLossBus_still (s : State) : (s.seatLossBus).fixed.still = s.fixed.still := by
  simp only [State.seatLossBus]
  (repeat' split) <;> (try simp only [State.updPbc_still, Pbc.still]) <;> try rfl

theorem State.seatLossBlocks_still (s : State) : (s.seatLossBlocks).fixed.still = s.fixed.still := by
  simp only [State.seatLossBlocks]
  (repeat' split) <;> (try simp only [State.updLifeSeat_still, State.endDrive_fixed, State.evalOwnAirflow_fixed,
        State.forceRailsOff_fixed, State.parkSupply_fixed, State.updLmp_fixed, Life.still]) <;> try rfl

theorem State.seatingLoss_still (s : State) : (s.seatingLoss).fixed.still = s.fixed.still := by
  simp only [State.seatingLoss]
  (repeat' split) <;> (try simp only [State.becomeParked_still, State.seatLossBus_still, State.seatLossBlocks_still,
        State.evalRoles_fixed, State.localZero_fixed, State.writeOffer_fixed]) <;> try rfl

theorem State.afterDrop_still (s : State) (i : SlotId) : (s.afterDrop i).fixed.still = s.fixed.still := by
  simp only [State.afterDrop]
  (repeat' split) <;> (try simp only [State.followUp_fixed, State.updCen_fixed]) <;> try rfl

theorem State.failSlot_still (s : State) (i : SlotId) : (s.failSlot i).fixed.still = s.fixed.still := by
  simp only [State.failSlot]
  (repeat' split) <;> (try simp only [State.afterDrop_still, State.raise_fixed, State.setSlot_fixed]) <;> try rfl

theorem State.hearOther_still (s : State) (a : Addr) (p : Option Payload) : (s.hearOther a p).fixed.still = s.fixed.still := by
  simp only [State.hearOther]
  (repeat' split) <;> (try simp only [State.react_still, State.applyFrame_fixed]) <;> try rfl

end Sys2Proof.Machine
end

