-- ==== Sys2Proof/Tests/Slice0.lean ====
section
/-! SUPPORT. Tests of the model: ill-formed commands that WellFormed refuses, values of the manual's worked examples, and,
for every statement with hypotheses, a witness that concrete states and operands meet them, clause by clause. -/

namespace Sys2Proof.Tests

set_option linter.all false
set_option Elab.async false

open Sys2Proof Sys2Proof.Machine

/-! ## Small states -/

def strapsOf (r : Role) : Straps := { role := r, address := 3, setupHold := false }

/-- A station of a role at address 3 in a station state, following the line, otherwise as after a power-on start. -/
def st (r : Role) (x : StationState) : State :=
  let s := State.powerOn (strapsOf r) []
  { s with life := { s.life with station := x }, pbc := { s.pbc with synced := true } }

def ent (a : Addr) (e : Entry) (s : State) : State := { s with cen := s.cen.upd a (fun _ => e) }

def inp (pin : Nat) (d : Debounced) (s : State) : State :=
  { s with lnu := { s.lnu with inputs := s.lnu.inputs.set pin { state := d, level := d == .yes, count := 5 } } }

def rails (r : Rsq) (s : State) : State := { s with rsq := r }

def railState (x : RailState) : Rsq := { Rsq.reset with state := x }

def fans (f : Fdu) (s : State) : State := { s with fdu := f }

def fan (k : Nat) (c : FanChannel) (f : Fdu) : Fdu := { f with channels := f.channels.set k c }

def slotted (i : SlotId) (f : QueuedFrame) (s : State) : State := s.setSlot i (some f)

def cfgPut (f i : Nat) (v : Int) (s : State) : State := { s with life := { s.life with config := s.cfg.put f i v } }

def chan (ch : Nat) (c : ChannelRec) (s : State) : State :=
  { s with msu := { s.msu with channels := s.msu.channels.set ch c } }

def sweeping (ch : Nat) (s : State) : State := { s with msu := { s.msu with sweep := some ch } }

def blade (held : Nat) : Entry :=
  { Entry.vacant with state := .live, held := held, silence := some 5,
                      part := .blade { zone := 1, demand := 7, full := 400, reduced := 200, laneClaim := none } }

def tray : Entry :=
  { Entry.vacant with state := .live, silence := some 5, part := .fan { zone := 1, airflow := .full, duty := 300 } }

def supply (capacity : Nat) : Entry :=
  { Entry.vacant with state := .live, silence := some 5, part := .supply { state := .ok, capacity := capacity, output := 0 } }

def uplink (offer : Nat) (table : List (Option Addr)) : Entry :=
  { Entry.vacant with state := .live, silence := some 5,
                      part := .uplink { offer := offer, crossbar := .ok, table := table } }

def free8 : List (Option Addr) := List.replicate 8 none

def frame0 (r : FrameReq) : QueuedFrame := { contents := r, age := 0, attempts := 0, followOn := none }

/-- Whether a command takes the state to a next state. -/
abbrev completes (i : Instr) (s : State) : Prop := (match exec i s with | .next _ => true | _ => false) = true

/-- The next state of a command that completes. -/
def next (i : Instr) (s : State) : State := match exec i s with | .next t => t | _ => s

theorem next_of_completes {i : Instr} {s : State} (h : completes i s) : ∃ t, exec i s = .next t := by
  revert h
  unfold completes
  cases exec i s with
  | next t => exact fun _ => ⟨t, rfl⟩
  | fault f => exact fun h => nomatch h
  | refused r => exact fun h => nomatch h

/-- A boot record of a version, whose sum holds or is one too high. -/
def record (version : Byte) (off : Nat) : List Byte :=
  version :: List.replicate 509 0 ++ [0, byteOf (version.toNat + off)]

/-! ## WellFormed refuses ill-formed commands -/

theorem test_wf_bootReadComplete : (Instr.bootReadComplete (List.replicate 511 0)).wf = false := by decide +kernel
theorem test_wf_frameStart : (Instr.frameStart (List.replicate 226 true)).wf = false := by decide +kernel
theorem test_wf_frameVetoed :
    (Instr.frameVetoed { cls := 6, sender := 1, kind := 9, length := 2, payload := [5], check := 0 }).wf = false := by
  decide +kernel
theorem test_wf_announceAccepted : (Instr.announceAccepted 1 (List.replicate 23 0) 0).wf = false := by decide +kernel
theorem test_wf_inventoryAccepted : (Instr.inventoryAccepted 1 0 (List.replicate 19 0) 0).wf = false := by decide +kernel
theorem test_wf_pgFoundGood : (Instr.pgFoundGood 3).wf = false := by decide +kernel
theorem test_wf_pgLoss : (Instr.pgLoss 3).wf = false := by decide +kernel
theorem test_wf_fanPresentChange : (Instr.fanPresentChange 6 true).wf = false := by decide +kernel
theorem test_wf_gpiChange : (Instr.gpiChange 1 true).wf = false ∧ (Instr.gpiChange 8 true).wf = false := by decide +kernel
theorem test_wf_tachEdge : (Instr.tachEdge 6).wf = false := by decide +kernel
theorem test_wf_setupStoreEnd : (Instr.setupStoreEnd (some (List.replicate 513 0))).wf = false := by decide +kernel
theorem test_wf_shiftEnd : (Instr.shiftEnd (List.replicate 47 true)).wf = false := by decide +kernel
theorem test_wf_unknownCommand : (Instr.unknownCommand 0x20 [1, 0]).wf = false := by decide +kernel

theorem test_wf_accepts : (Instr.bootReadComplete (List.replicate 512 0)).wf = true ∧
    (Instr.frameStart (List.replicate 225 true)).wf = true ∧ (Instr.pgLoss 2).wf = true ∧
    (Instr.gpiChange 2 true).wf = true ∧ (Instr.gpiChange 7 true).wf = true ∧ (Instr.tachEdge 5).wf = true ∧
    (Instr.unknownCommand 0x20 [1]).wf = true ∧ (Instr.unknownCommand 0x40 []).wf = true := by decide +kernel

/-! ## Values of the manual's examples -/

/-- R117: code 1200 on a TEMPERATURE channel of gain 1024 and offset -80 gives 220. -/
theorem test_conversion_example :
    (1200 * 1024 / 4096 : Int) + (-80) = 220 ∧
    ((exec (.conversionCompletion 1200)
        (sweeping 0 (cfgPut 24 0 (-80) (cfgPut 23 0 1024 (cfgPut 21 0 1 (st .blade .joined)))))) matches
      .next { msu := { channels := { raw := 1200, value := 220, .. } :: _, .. }, .. }) := by decide +kernel

/-- R127: limit 340, span 120, filtered value 280 give the demand 128; 220 gives 0 and 340 gives 255. -/
theorem test_demand_example :
    let b := (BootImage.defaults.put 33 0 340).put 34 0 120
    let c := { ChannelRec.reset with status := .normal, filtered := some 280 }
    c.demand b 0 = 128 ∧ { c with filtered := some 220 }.demand b 0 = 0 ∧
      { c with filtered := some 340 }.demand b 0 = 255 := by decide +kernel

/-- R136 and R137: 96 edges at 2 pulses a turn are 6000 rpm. -/
theorem test_rpm_example : 96 * 125 / 2 = 6000 ∧ 12000 * 600 / 1000 * 60 / 100 = 4320 ∧ 69 * 125 / 2 = 4312 := by decide +kernel

/-- R143: with P 3999 and 4 fans, channel 3 starts at 3000 and at compare 2400 it is active at counter 1000. -/
theorem test_pwm_offsets :
    let f : Fdu := fan 3 { FanChannel.reset with shadow := 2400 } { Fdu.reset with count := 4, counter := some 1000 }
    f.pwmActive 3 = true ∧ { f with counter := some 999 }.pwmActive 3 = false ∧
      { f with counter := some 3399 }.pwmActive 3 = true ∧ { f with counter := some 3400 }.pwmActive 3 = false := by
  decide +kernel

/-- R3: a frame that carries the check of its own bits passes, and one changed bit fails it. -/
theorem test_check :
    (frameOf 3 (.query 5) (checkOf 3 (.query 5))).checkPasses = true ∧
    (frameOf 3 (.query 4) (checkOf 3 (.query 5))).checkPasses = false := by decide +kernel

/-- R76: 500 W waits behind 400 W of load in a budget of 600 W, 200 W is admitted. -/
theorem test_walk :
    let c := (Census.reset.upd 1 (fun _ => blade 400)).upd 2 (fun _ => { blade 0 with claim := some 200 })
    ((Census.walk 600 [2] c).get 2).held = 200 ∧ ((Census.walk 599 [2] c).get 2).held = 0 := by decide +kernel

/-- R176: 48 bits of 10 µs and a LOAD strobe of 20 µs; the top bit of lane 7 goes first. -/
theorem test_shift :
    let m := laneMapOf [some 5, none, none, none, none, none, none, some 31]
    shiftUs m = 500 ∧ (mapDo m).take 6 = [true, true, true, true, true, true] ∧
    (mapDo m).drop 42 = [true, false, false, true, false, true] ∧ mapRead (mapDo m) = m ∧ mapRead [] = idleMap := by
  decide +kernel

/-- R192: WRITE_SETUP of field 24, index 0, value -80, as its bytes come. -/
theorem test_portWrite :
    portWrite (strapsOf .blade) [0x21, 24, 0, 255, 255, 255, 176] = some (.writeSetup 24 0 (BitVec.ofInt 32 (-80))) ∧
    portWrite (strapsOf .blade) [0x21, 24, 0] = some (.unknownCommand 0x21 [24, 0]) := by decide +kernel

/-- R16: in LISTEN a left-over DEPART that fails at score 60 is cleared by MUTE without FRAME_DROPPED, and below 60 it is
dropped. -/
theorem test_leftOverDepart :
    let s (score : Nat) : State :=
      let t := slotted .depart (frame0 (.depart .seatedLost)) (st .blade .listen)
      { t with pbc := { t.pbc with onLine := some { slot := .depart, payload := .depart 2, bitError := false },
                                   dropDepart := true, faultScore := score } }
    let after (score : Nat) := (next (.frameVetoed (frameOf 3 (.depart 2) 0)) (s score))
    (after 60).station = .mute ∧ (after 60).lpt.events.contains (.frameDropped .depart) = false ∧
    (after 59).station = .listen ∧ (after 59).lpt.events = [.frameDropped .depart] := by decide +kernel

/-- R66, R82: a blade that is OFF and holds nothing makes its local write at entry to MUTE all the same; the follow-up sheds
a peer whose load stands above the budget, and is the tally that the host reads. -/
theorem test_muteWritesWithNothingHeld :
    let s := ent 9 (blade 400) (st .blade .listen)
    let t := next (.frameVetoed (frameOf 3 (.depart 2) 0)) s
    s.rsq.state = .off ∧ s.self.held = 0 ∧ (s.entry 9).shed = none ∧ s.cen.report.load = 0 ∧ t.station = .mute ∧
    (t.entry 9).shed = some 0 ∧ t.cen.report.load = 400 := by decide +kernel

/-- R66, R110: the local write comes too where the last step-off delay of MUTE ends in OFF with nothing held. -/
theorem test_muteWritesAtOff :
    let s := rails { railState (.stopping 0) with stepOff := some 1 } (ent 9 (blade 400) (st .blade .mute))
    let t := next .stepOffDelayExpiry s
    t.rsq.state = .off ∧ (t.entry 9).shed = some 0 ∧ t.cen.report.load = 400 := by decide +kernel

/-- R51, R149: entry to SETUP ends a retained drive with the image's values and the counter from 0. -/
theorem test_setupEndsRetainedDrive :
    let s := fans { Fdu.reset with mode := .retained, counter := some 7, top := 999, count := 6 } (st .fan .start)
    let t := next (.bootReadComplete (record 255 0)) s
    t.station = .setup ∧ t.fdu.mode = .none ∧ t.fdu.counter = some 0 ∧ t.fdu.top = BootImage.defaults.pwmTop ∧
    t.fdu.count = BootImage.defaults.fanCount := by decide +kernel

/-- R92: the local write of a DEPART dropped at its third failure sets no shed target, though a peer's load stands above an
empty budget; the same write in LEAVING would. -/
theorem test_droppedDepartRunsNoShed :
    let s : State :=
      let t := ent 4 (blade 1) (st .blade .leaving)
      let t := slotted .depart { frame0 (.depart .host) with attempts := 2 } t
      { t with life := { t.life with leaving := some { reason := .host, step := .departure } },
               pbc := { t.pbc with onLine := some { slot := .depart, payload := .depart 3, bitError := false } } }
    let t := next (.frameVetoed (frameOf 3 (.depart 3) 0)) s
    t.station = .parked ∧ (t.entry 4).shed = none ∧ t.life.stayParked = true ∧
    t.lpt.events = [.frameDropped .depart, .stationState .parked] ∧
    ((s.followUp s.cen .plain).entry 4).shed = some 0 := by decide +kernel

/-- R35, R167: an announced lane claim waits whatever the announced held level, and is served with power alone. -/
theorem test_announcedClaimWithoutPower :
    let s := ent 31 (uplink 2 free8) (ent 4 (blade 1) (st .blade .joined))
    let bytes (held : Byte) : List Byte := [0, 1, 0, 0, 0, 2, 0, held, 0, 0, 1, 7, 1, 144, 0, 200, 255, 0, 31, 2, 0, 0, 0, 0]
    let t (held : Byte) := next (.announceAccepted 4 (bytes held) (checkOf 4 (.announce (bytes held)))) s
    (((t 0).entry 4).laneClaim = some (31, 2) ∧ ((t 0).entry 31).lanesOf 4 = []) ∧
    (((t 9).entry 4).laneClaim = none ∧ ((t 9).entry 31).lanesOf 4 = [0, 1]) := by decide +kernel

/-- R13: at a lost arbitration a follow-on takes the slot, with the age kept; without one nothing changes. -/
theorem test_lostArbitration :
    let s (r : Option FrameReq) := slotted .query { frame0 (.query 5) with age := 4, attempts := 2, followOn := r } (st .blade .joined)
    let lose (r : Option FrameReq) :=
      next (.frameStart (List.replicate 8 false)) (s r)
    (lose (some (.query 6))).slot .query = some { frame0 (.query 6) with age := 4 } ∧
    (lose (some (.query 6))).pbc.onLine = none ∧ lose none = s none := by decide +kernel

/-- R175: the own LANE_CLAIM ignored at a held level of 0 is reported. -/
theorem test_ownClaimWithoutPower :
    let s := ent 4 (uplink 8 free8) (ent 3 (blade 0) (st .blade .joined))
    let o : OnLine := { slot := .laneClaim, payload := .laneClaim 4 1, bitError := false }
    let t := next (.laneClaimAccepted 3 4 1 0) { s with pbc := { s.pbc with onLine := some o } }
    t.lpt.events.head? = some (.lanesUnavailable (some 4)) ∧ (t.entry 3).laneClaim = none := by decide +kernel

/-- R104, R60: a stop in STAGGER has no rail to take down. -/
theorem test_stopInStagger :
    let s := rails { railState .stagger with stagger := some 7 } (st .blade .leaving)
    (s.stopRails .host).rsq = Rsq.reset ∧ (s.stopRails .host).lpt = s.lpt := by decide +kernel

theorem test_no_word_spells_a_command : decodeTableWord 8 0 = none := by decide +kernel

/-! ## Witnesses: the queue and the invariants -/

theorem witness_StepRunsFrontCommand :
    { st .blade .joined with pending := [.leave, .readStatus] }.pending = Instr.leave :: [.readStatus] := by decide +kernel

theorem witness_EmptyQueueStepIsOneMillisecond :
    (st .blade .joined).pending = [] ∧ (st .blade .joined).fdu.counter = none ∧
    (let s := fans { Fdu.reset with counter := some 3999, count := 6 } (st .fan .joined);
      s.pending = [] ∧ s.fdu.counter = some 3999 ∧ 5 < s.fdu.count ∧ 5 < Config.fans) := by decide +kernel

theorem witness_StepKeepsShape :
    let s := { ent 31 (uplink 8 (List.replicate 8 (some 3))) (st .blade .joined) with pending := [.silenceExpiry 31] }
    s.shaped ∧ ∃ t, step s = .next t := by
  refine ⟨by decide +kernel, ?_⟩
  exact next_of_completes (i := .silenceExpiry 31)
    (s := ent 31 (uplink 8 (List.replicate 8 (some 3))) (st .blade .joined)) (by decide +kernel)

/-- A state at every limit. -/
def full : State :=
  let s := fans { (fan 5 { FanChannel.reset with tach := 65535 } Fdu.reset) with saturation := 8 } (st .blade .joined)
  { s with lpt := { s.lpt with events := List.replicate 16 .railsOn, overflow := 65535 },
           pbc := { s.pbc with faultScore := 64, checkFailures := 65535, vetoes := 65535 },
           cen := { s.cen with anomalies := 65535 }, pending := [.queryAccepted 3 0 0] }

theorem witness_StepKeepsBounds : full.bounded ∧ ∃ t, step full = .next t := by
  refine ⟨⟨by decide, by decide, by decide, by decide, by decide, by decide, by decide, by decide, ?_⟩, ?_⟩
  · exact State.slotted_of_check (by decide +kernel)
  exact next_of_completes (i := .queryAccepted 3 0 0) (s := { full with pending := [] }) (by decide +kernel)

/-- Station 3 holds power and owns lanes 0 and 7 of the uplink at address 4. -/
def owning : State :=
  ent 3 (blade 1) (ent 4 (uplink 8 [some 3, none, none, none, none, none, none, some 3]) (st .blade .joined))

theorem owning_slots (u : Addr) (k : Nat) (a : Addr) (h : (owning.cen.get u).table.getD k none = some a) :
    u = 4 ∧ a = 3 ∧ k < 8 := by
  have small : ∀ v : Addr, (owning.cen.get v).table.length ≤ 8 := by decide +kernel
  have owners : ∀ v : Addr, ∀ j : Fin 8,
      (owning.cen.get v).table.getD j.val none = none ∨ (v = 4 ∧ (owning.cen.get v).table.getD j.val none = some 3) := by
    decide +kernel
  have hk : k < 8 := by
    rcases Nat.lt_or_ge k 8 with hk | hk
    · exact hk
    · have hlen : (owning.cen.get u).table.length ≤ k := Nat.le_trans (small u) hk
      simp [List.getD_eq_getElem?_getD, List.getElem?_eq_none hlen] at h
  rcases owners u ⟨k, hk⟩ with hn | ⟨hu, hs⟩
  · exact absurd (h.symm.trans hn) (by simp)
  · have : some a = some (3 : Addr) := h.symm.trans hs
    exact ⟨hu, by simpa using this, hk⟩

theorem owning_claims : ∀ a : Addr, (owning.cen.get a).laneClaim = none ∧ (owning.cen.get a).claim = none := by
  decide +kernel

theorem owning_offer (u : Addr) (k : Nat) (h : (owning.cen.get u).offer ≤ k) :
    (owning.cen.get u).table.getD k none = none := by
  have offers : ∀ v : Addr, (owning.cen.get v).table.length ≤ (owning.cen.get v).offer := by decide +kernel
  simp [List.getD_eq_getElem?_getD, List.getElem?_eq_none (Nat.le_trans (offers u) h)]

theorem witness_StepKeepsLanesLawful : owning.shaped ∧ owning.lanesLawful ∧ ∃ t, step owning = .next t := by
  refine ⟨by decide +kernel, ⟨⟨?_, owning_offer, ?_, by decide +kernel, ?_, ?_⟩, ?_⟩, ⟨_, rfl⟩⟩
  · intro u k a h
    obtain ⟨_, ha, _⟩ := owning_slots u k a h
    subst ha
    decide +kernel
  · intro u v k j a hu hv
    exact (owning_slots u k a hu).1.trans (owning_slots v j a hv).1.symm
  · intro a q h
    simp [(owning_claims a).1] at h
  · intro a x h
    simp [(owning_claims a).2] at h
  · intro h
    revert h
    decide

theorem witness_CommandsLeaveTheRestAlone :
    (∃ t, exec .gateEnd (st .blade .joined) = .next t) ∧ Instr.gateEnd.resets = false ∧ Instr.gateEnd.ofPort = false ∧
    Instr.gateEnd.boots = false ∧ Instr.gateEnd.measures = false ∧ Instr.gateEnd.ofLines = false ∧
    ((st .fan .joined).role ≠ .blade ∧ (st .fan .joined).rsq = Rsq.reset) ∧
    ((st .blade .joined).role ≠ .fan ∧ (st .blade .joined).fdu = Fdu.reset ∧ (st .blade .joined).role ≠ .supply ∧
      (st .blade .joined).spm = Spm.reset ∧ (st .blade .joined).role ≠ .uplink ∧
      (st .blade .joined).life.leaving.map (fun l => l.step) ≠ some .lanesAlert ∧
      (st .blade .joined).lmp = Lmp.reset) :=
  ⟨next_of_completes (by decide +kernel), by decide, by decide, by decide, by decide, by decide, by decide +kernel,
    by decide +kernel⟩

/-! ## Witnesses: resets and the boot read -/

theorem witness_StationLifeAfterResets :
    let s := st .fan .setup
    restarts (.powerOnStart (strapsOf .blade)) (strapsOf .blade) s ∧
    restarts (.warmRestart (strapsOf .blade)) (strapsOf .blade) s ∧
    restarts (.restart (strapsOf .blade)) (strapsOf .blade) s := by decide +kernel

theorem witness_BlocksAfterResets :
    restarts (.restart (strapsOf .uplink)) (strapsOf .uplink) (st .uplink .mute) := by decide +kernel

theorem witness_RailsAfterResets :
    let b := strapsOf .blade
    let on := rails { railState .on with retained := 400 } (st .blade .joined)
    restarts (.powerOnStart b) b on ∧
    (warmRestarts (.warmRestart (strapsOf .fan)) (strapsOf .fan) on ∧ (strapsOf .fan).role ≠ on.role) ∧
    (warmRestarts (.restart b) b on ∧ b.role = .blade ∧ on.role = .blade ∧ on.rsq.state = .on) ∧
    (st .blade .joined).rsq.state = .off ∧
    (let r := rails (railState (.ramp 2)) (st .blade .joined);
      warmRestarts (.warmRestart b) b r ∧ r.rsq.state ≠ .on ∧ r.rsq.state ≠ .off) := by decide +kernel

theorem witness_FanDriveAfterResets :
    let f := strapsOf .fan
    let s := fans { Fdu.reset with mode := .drive, counter := some 7, count := 6 } (st .fan .joined)
    (warmRestarts (.warmRestart f) f s ∧ f.role = .fan ∧ s.role = .fan ∧ s.fdu.counter = some 7 ∧ 5 < Config.fans) ∧
    restarts (.powerOnStart f) f s ∧
    (restarts (.restart f) f (st .fan .parked) ∧ (st .fan .parked).fdu.counter = none) := by decide +kernel

theorem witness_BootReadOutcomes :
    (st .blade .start).station = .start ∧
    (sumHolds (record 1 0) ∧ (record 1 0).getD 0 0 = 1 ∧ (st .blade .start).life.straps.setupHold = false) ∧
    ({ strapsOf .blade with setupHold := true }).setupHold = true ∧ ¬ sumHolds (record 1 1) ∧
    (sumHolds (record 255 0) ∧ (record 255 0).getD 0 0 ≠ 1) ∧ (record 255 0).length = 512 ∧
    (let s := st .blade .start;
      { s with life := { s.life with readFaults := 2 } }.life.readFaults = 2 ∧ s.life.readFaults < 2) := by decide +kernel

/-! ## Witnesses: SETUP, the store and the port -/

theorem witness_StoredRecordReadsBack :
    ((1, 0) ∈ fieldSlots ∧ (fieldSpec 1).holds ((BootImage.defaults.put 1 0 255).get 1 0)) ∧
    ((24, 7) ∈ fieldSlots ∧ (fieldSpec 24).holds ((BootImage.defaults.put 24 7 (-32768)).get 24 7)) ∧
    ((36, 0) ∈ fieldSlots ∧ (fieldSpec 36).holds ((BootImage.defaults.put 36 0 65535).get 36 0)) ∧
    ((54, 15) ∈ fieldSlots ∧ (fieldSpec 54).holds (BootImage.defaults.get 54 15)) := by decide +kernel

theorem witness_StoreOfTheBootImage :
    let s := st .blade .setup
    let w := { s with life := { s.life with storing := some [1, 2] } }
    (s.station = .setup ∧ s.life.storing = none) ∧
    ((Instr.unknownCommand 0x40 []).ofPort = true ∧ w.station ≠ .start ∧ w.life.storing ≠ none) ∧
    w.life.storing = some [1, 2] ∧ s.station ≠ .start := by decide +kernel

theorem witness_SetupOverThePort :
    ((st .uplink .setup).station = .setup ∧ (st .uplink .setup).life.storing = none) ∧
    ((st .fan .setup).station = .setup ∧ (st .fan .setup).life.storing = none) := by decide +kernel

theorem witness_PortTakesCommandsAndAnswers :
    (portKnows 0x40 [] = false ∧ portKnows 0x20 [1] = false ∧ portKnows 0x30 [] = true) ∧
    (Instr.readTally.ofPort = true ∧ (st .blade .start).station = .start) ∧
    ((Instr.unknownCommand 0 []).ofPort = true ∧ (st .blade .setup).portFree) ∧
    (Instr.readFans.refusedIn (st .blade .setup) = true ∧ (Instr.setPower 0).refusedIn (st .blade .listen) = true ∧
      Instr.stopReady.refusedIn (st .blade .joined) = true ∧ Instr.leave.refusedIn (st .blade .leaving) = true ∧
      (Instr.setLanes 1).refusedIn (st .fan .joined) = true ∧ (Instr.sendQuery 1).refusedIn (st .fan .mute) = true ∧
      Instr.sweepNow.refusedIn (st .fan .setup) = true ∧ Instr.storeSetup.refusedIn (st .fan .parked) = true) := by decide +kernel

theorem witness_ReadsReportAndChangeNothing : (st .fan .setup).portFree ∧ (st .fan .setup).role = .fan := by decide +kernel

theorem witness_EventQueueAndAttention :
    let s := st .blade .joined
    let s15 := { s with lpt := { s.lpt with events := List.replicate 15 .railsOn } }
    s15.lpt.events.length < 16 ∧ 16 ≤ full.lpt.events.length ∧ (s.portFree ∧ s.lpt.events = []) ∧
    (s15.portFree ∧ s15.lpt.events = .railsOn :: List.replicate 14 .railsOn) ∧
    restarts (.warmRestart (strapsOf .blade)) (strapsOf .blade) full := by decide +kernel

theorem witness_SetPowerTakesTheHostTarget :
    let s := ent 3 (blade 1) (st .blade .joined)
    (s.life.storing = none ∧ s.role = .blade ∧ s.station = .joined) ∧ (0 : Byte).toNat = 0 ∧ (1 : Byte).toNat = 1 ∧
    2 ≤ (2 : Byte).toNat ∧ 2 ≤ (255 : Byte).toNat ∧ 0 < (rails (railState .stopWait) s).self.held ∧
    (rails (railState .stopWait) s).rsq.state = .stopWait ∧ (rails (railState (.ramp 0)) s).rsq.state = .ramp 0 := by
  decide +kernel

theorem witness_LeaveEntersLeaving :
    let s := slotted .powerClaim (frame0 (.powerClaim 9)) (st .blade .joined)
    let o := { s with pbc := { s.pbc with onLine := some { slot := .powerClaim, payload := .powerClaim 9, bitError := false } } }
    (s.station = .joined ∧ s.life.storing = none ∧ s.pbc.sending .powerClaim = false) ∧
    (o.station = .joined ∧ o.life.storing = none ∧ o.pbc.sending .powerClaim = true ∧
      o.slot .powerClaim = some (frame0 (.powerClaim 9))) := by decide +kernel

theorem witness_SetLanesAndSendQuery :
    let s := slotted .query (frame0 (.query 7)) (st .blade .joined)
    let o := { s with pbc := { s.pbc with onLine := some { slot := .query, payload := .query 7, bitError := false } } }
    (s.portFree ∧ s.role = .blade ∧ s.station ≠ .setup ∧ s.cen.ownAnnounced = false) ∧ s.station = .joined ∧
    (st .blade .joined).slot .query = none ∧
    (s.slot .query = some (frame0 (.query 7)) ∧ s.pbc.sending .query = false) ∧
    (o.portFree ∧ o.slot .query = some (frame0 (.query 7)) ∧ o.pbc.sending .query = true) ∧
    ((st .blade .parked).portFree ∧ (st .blade .parked).station ≠ .joined ∧ (0 : Byte).toNat = 0) ∧
    (∀ n, (frame0 (.query 7)).contents ≠ .inventory n) := by
  refine ⟨by decide, by decide, by decide, by decide, by decide, by decide, fun n h => nomatch h⟩

/-! ## Witnesses: station life -/

theorem witness_ListenEndsInJoined :
    let t (r : Role) (d : Int) : State :=
      let s := cfgPut 10 0 d (st r .listen)
      { s with life := { s.life with listenTimer := some 0 } }
    ((t .blade 0).station = .listen ∧ (t .blade 0).life.listenTimer ≠ none ∧ (t .blade 0).cfg.joinDefault = 0) ∧
    (t .blade 1).cfg.joinDefault = 1 ∧ 2 ≤ (t .blade 2).cfg.joinDefault ∧ (t .supply 0).role = .supply ∧
    (st .blade .listen).life.listenTimer = none ∧ (st .blade .joined).station ≠ .listen := by decide +kernel

theorem witness_SeatingLossEndsEverything :
    let s (r : Role) (x : StationState) := inp 0 .yes (st r x)
    ((s .blade .joined).shaped ∧ (s .blade .joined).seated = true ∧ (s .blade .joined).station ≠ .start) ∧
    ((s .fan .leaving).shaped ∧ (s .fan .leaving).seated = true) ∧ (s .supply .listen).seated = true ∧
    (s .uplink .mute).seated = true ∧ (s .blade .parked).seated = true ∧
    ((s .blade .setup).seated = true ∧ (s .blade .setup).station = .setup) ∧
    (let r := st .blade .parked
      let k : State := { r with life := { r.life with retention := true } }
      k.shaped ∧ (k.input 0).state = .unsettled ∧ k.life.retention = true ∧ k.station ≠ .start) := by decide +kernel

theorem witness_JoinConditionLeadsToListen :
    let s := st .blade .parked
    let a := inp 0 .yes s
    let m := { s with pbc := { s.pbc with faultScore := 64 } }
    (s.shaped ∧ s.station = .parked ∧ s.life.stayParked = false ∧ s.seated = false ∧ s.ejectorOpen = false) ∧
    s.pbc.faultScore ≠ 64 ∧ (a.shaped ∧ a.seated = true ∧ (a.input 1).state ≠ .no) ∧ m.pbc.faultScore = 64 := by
  decide +kernel

theorem witness_EjectorOpeningLeaves :
    let s := inp 1 .no (st .blade .joined)
    let p := inp 1 .no (ent 3 (blade 1) (st .blade .parked))
    let l := rails (railState .on) (inp 1 .no (ent 3 (blade 1) (st .blade .listen)))
    let w := rails { railState .stopWait with grace := some 0 } p
    (s.shaped ∧ (s.input 1).state = .no ∧ s.station = .joined ∧ s.life.bumpTimer = none) ∧
    (l.shaped ∧ l.station = .listen ∧ l.role = .blade ∧ l.rsq.state = .on ∧ 0 < l.self.held) ∧
    ({ s with life := { s.life with bumpTimer := some 0 } }.life.bumpTimer ≠ none ∧ (st .fan .mute).station = .mute ∧
      (inp 1 .no (st .fan .parked)).role ≠ .blade ∧ p.rsq.state = .off) ∧
    (p.shaped ∧ (p.input 1).state = .no ∧ p.station = .parked ∧ p.role = .blade ∧
      (rails (railState .on) p).rsq.state = .on) ∧
    (w.rsq.state = .stopWait ∧ w.rsq.grace = some 0 ∧ 0 ≤ w.cfg.nat 13 0 * 1000) ∧
    (rails (railState (.stopping 2)) p).rsq.state = .stopping 2 := by decide +kernel

/-- A blade in STOP_WAIT with its EJECTOR open, leaving for this reason in LEAVING. -/
def stopping (x : StationState) (leave : DepartReason) (stop : StopReason) : State :=
  let s := rails { railState .stopWait with grace := some 9, stopReason := some stop }
    (inp 1 .yes (ent 3 (blade 1) (ent 9 tray (st .blade x))))
  { s with life := { s.life with leaving := some { reason := leave, step := .railsOff } },
           client := { s.client with hostTarget := .full } }

theorem witness_EjectorClosingCancels :
    let s := stopping .leaving .ejector .ejector
    let k := cfgPut 17 0 1 s
    (s.shaped ∧ (s.input 1).state = .yes ∧ s.station = .leaving ∧ s.role = .blade ∧ s.rsq.state = .stopWait ∧
      s.life.leaving.map (fun l => l.reason) = some .ejector ∧ 0 < s.self.held ∧ s.rsq.stopReason = some .ejector) ∧
    0 < (next (.ejectorChange false) k).client.target ∧
    (next (.ejectorChange false) { s with client := { s.client with hostTarget := .off } }).client.target = 0 ∧
    (stopping .leaving .ejector .shed).rsq.stopReason ≠ some .ejector ∧
    (stopping .leaving .host .host).life.leaving.map (fun l => l.reason) ≠ some .ejector ∧
    ((stopping .parked .host .ejector).station = .parked ∧ (stopping .parked .host .ejector).seated = false ∧
      (stopping .parked .host .ejector).rsq.stopReason = some .ejector) ∧
    ((stopping .parked .host .shed).rsq.stopReason ≠ some .ejector) ∧
    ((stopping .joined .host .host).station = .joined ∧ ((stopping .joined .host .host).input 1).state = .yes) := by
  decide +kernel

/-- A station of a role that leaves and has come to this step. -/
def leavingAt (r : Role) (step : LeaveStep) (reason : DepartReason) : State :=
  let s := st r .leaving
  { s with life := { s.life with leaving := some { reason := reason, step := step } } }

theorem witness_LeavingFollowsItsSteps :
    let lane := ent 4 (uplink 8 [some 3, none, none, none, none, none, none, none])
      (ent 3 (blade 1) (leavingAt .blade .railsOff .host))
    let dark (m : Option LaneMap) (busy : Option LaneMap) : State :=
      { leavingAt .uplink .lanesAlert .host with lmp := { Lmp.reset with committed := m, inFlight := busy } }
    let dep := slotted .depart (frame0 (.depart .host)) (leavingAt .blade .departure .host)
    let sent := { dep with pbc := { dep.pbc with onLine := some { slot := .depart, payload := .depart 3, bitError := false } } }
    (lane.station = .leaving ∧ lane.life.leaving = some { reason := .host, step := .railsOff } ∧
      lane.rsq.state = .off ∧ lane.lanesOn = some 4 ∧ 0 < lane.self.held) ∧
    ((leavingAt .blade .railsOff .host).lanesOn = none ∧ (leavingAt .blade .railsOff .host).self.held = 0 ∧
      (leavingAt .blade .railsOff .host).self.claim = none) ∧
    ((rails (railState (.stopping 1)) lane).rsq.state ≠ .off ∧ (rails (railState (.stopping 1)) lane).rsq.state ≠ .fault) ∧
    (leavingAt .blade .laneRelease .ejector).slot .laneRelease = none ∧
    (slotted .laneRelease (frame0 (.laneRelease 4)) (leavingAt .blade .laneRelease .ejector)).slot .laneRelease ≠ none ∧
    (leavingAt .supply .capacityAlert .host).slot .capacityDrop = none ∧
    (slotted .capacityDrop (frame0 (.capacityDrop 0)) (leavingAt .supply .capacityAlert .host)).slot .capacityDrop ≠ none ∧
    ((dark none none).slot .lanesDrop = none ∧ (dark (some idleMap) none).lmp.committed = some idleMap ∧
      (dark none none).lmp.committed ≠ some idleMap ∧ (dark none (some 5)).lmp.inFlight = some 5) ∧
    (slotted .lanesDrop (frame0 (.lanesDrop 0)) (dark none none)).slot .lanesDrop ≠ none ∧
    ({ Lmp.reset with committed := some idleMap, forcedIdle := true }.isIdle = true ∧ Lmp.reset.isIdle = false) ∧
    (leavingAt .fan .powerRelease .host).slot .powerRelease = none ∧
    (slotted .powerRelease (frame0 (.powerRelease 0)) (leavingAt .fan .powerRelease .host)).slot .powerRelease ≠ none ∧
    ((leavingAt .fan .departure .host).slot .depart = none ∧ dep.slot .depart ≠ none) ∧
    (sent.pbc.synced = true ∧ sent.slot .depart = some (frame0 (.depart .host)) ∧
      (frame0 (.depart .host)).followOn = none ∧
      (next (.departAccepted 3 3 0) sent).life.stayParked = true) := by decide +kernel

theorem witness_LeavingFollowsItsSteps_slots (r : Role) (step : LeaveStep) (reason : DepartReason) :
    (leavingAt r step reason).slotted ∧ (slotted .depart (frame0 (.depart .host)) (leavingAt r step reason)).slotted := by
  refine ⟨State.slotted_congr (s := st .blade .joined) (by cases r <;> rfl) (State.slotted_of_check (by decide +kernel)), ?_⟩
  exact State.slotted_congr (s := slotted .depart (frame0 (.depart .host)) (st .blade .joined)) (by cases r <;> rfl)
    (State.slotted_of_check (by decide +kernel))

theorem witness_EjectorLatchAndBumpWindow :
    let s := st .blade .joined
    let w := { s with life := { s.life with bumpTimer := some 0 } }
    (st .blade .start).station = .start ∧ (st .blade .setup).station ≠ .start ∧
    (w.station = .joined ∧ w.life.bumpTimer ≠ none ∧ (inp 1 .yes w).ejectorOpen = true) ∧ w.ejectorOpen = false ∧
    s.life.bumpTimer = none ∧ (st .blade .leaving).station ≠ .joined := by decide +kernel

/-! ## Witnesses: rails -/

theorem witness_RampTakesTheRailsUp :
    let s := st .blade .joined
    let r (k : Nat) := rails { railState (.ramp k) with oneShot := some 0 } s
    let p (k : Nat) := rails { railState (.ramp k) with pgTimeout := some 0 } s
    ((rails { railState .stagger with stagger := some 0 } s).rsq.state = .stagger) ∧ s.rsq.stagger = none ∧
    ((r 2).rsq.state = .ramp 2 ∧ (r 2).rsq.oneShot ≠ none ∧ (r 2).pgGood 2 = false) ∧
    (inp 3 .yes (r 1)).pgGood 1 = true ∧ (inp 4 .yes (r 2)).pgGood 2 = true ∧ s.rsq.oneShot = none ∧
    ((p 2).shaped ∧ (p 2).role = .blade ∧ (p 2).rsq.state = .ramp 2 ∧ (p 2).rsq.pgTimeout ≠ none) ∧
    ((p 1).shaped ∧ (p 1).rsq.state = .ramp 1) ∧ (s.rsq.state ≠ .ramp 0) := by decide +kernel

theorem witness_LostPowerGoodEntersFault :
    let s := ent 3 (blade 1) (st .blade .joined)
    let p := rails { railState (.ramp 0) with pgTimeout := some 0 } s
    let on := inp 4 .yes (rails (railState .on) s)
    let r := inp 2 .yes (rails (railState (.ramp 1)) s)
    (p.rsq.state = .ramp 0 ∧ p.rsq.pgTimeout ≠ none ∧ 0 < p.self.held) ∧ s.rsq.pgTimeout = none ∧
    (on.shaped ∧ on.role = .blade ∧ on.pgGood 2 = true ∧ on.station ≠ .start ∧ on.rsq.state = .on) ∧
    (r.pgGood 0 = true ∧ r.rsq.state = .ramp 1) ∧ s.rsq.state = .off ∧
    ((ent 3 (blade 0) p).self.held = 0 ∧ p.station.running = true ∧ (ent 3 (blade 0) on).self.held = 0 ∧
      on.station ≠ .setup) := by decide +kernel

theorem witness_StopsTakeTheRailsDown :
    let w := rails { railState .stopWait with grace := some 1 } (st .blade .joined)
    let s (k : Nat) := rails { railState (.stopping k) with stepOff := some 0 } (ent 3 (blade 1) (st .blade .joined))
    (w.portFree ∧ w.role = .blade ∧ w.rsq.state = .stopWait) ∧ w.rsq.grace ≠ none ∧
    (rails (railState .stopWait) w).rsq.grace = none ∧ (st .blade .joined).rsq.state ≠ .stopWait ∧
    ((s 0).rsq.state = .stopping 0 ∧ (s 0).rsq.stepOff ≠ none) ∧
    ((s 2).rsq.state = .stopping 2 ∧ (s 2).rsq.stepOff ≠ none ∧ 0 < (s 2).self.held) ∧ w.rsq.stepOff = none := by
  decide +kernel

theorem witness_CriticalPersistenceStops :
    let s := ent 3 (blade 1) (st .blade .joined)
    let w := { s with client := { s.client with criticalTimer := some 0 } }
    (w.client.criticalTimer ≠ none ∧ w.role = .blade ∧ w.station ≠ .start ∧ w.station ≠ .setup ∧ w.rsq.state = .off) ∧
    ((rails (railState .on) w).rsq.state = .on ∧ 0 < (rails (railState .on) w).self.held) ∧
    s.client.criticalTimer = none := by decide +kernel

/-- Each case of the two tables of wanted requests, at its boundary. -/
theorem witness_WantedRequests :
    wantedPower 1 0 none false = some (.powerClaim 1) ∧ wantedPower 4095 0 (some 4095) false = none ∧
    wantedPower 5 5 (some 6) false = some (.powerRelease 5) ∧ wantedPower 4 5 none false = some (.powerRelease 4) ∧
    wantedPower 0 5 (some 6) false = some (.powerRelease 5) ∧ wantedPower 0 5 none true = some (.powerRelease 0) ∧
    wantedPower 0 0 (some 1) true = some (.powerRelease 0) ∧ wantedPower 0 0 none true = none ∧
    wantedLanes 0 4 none none true (some 9) = none ∧ wantedLanes 1 0 (some (9, [0])) none true none = some (.laneRelease 9) ∧
    wantedLanes 1 1 (some (9, [0])) none true none = none ∧ wantedLanes 1 0 none (some (9, 1)) true none = some (.laneRelease 9) ∧
    wantedLanes 1 1 none (some (9, 1)) true none = none ∧ wantedLanes 1 1 none (some (9, 1)) false none = some (.laneRelease 9) ∧
    wantedLanes 1 1 none none true (some 9) = some (.laneClaim 9 1) ∧ wantedLanes 1 1 none none true none = none := by decide +kernel

/-! ## Witnesses: measurement and supplies -/

theorem witness_ConversionRecordsItsCode :
    let s := sweeping 7 (st .blade .joined)
    s.shaped ∧ s.msu.sweep = some 7 ∧ 7 < 8 ∧ (sweeping 0 s).msu.sweep = some 0 := by decide +kernel

/-- Band 1 with its three cases of the bucket, band 2 with its two of the run, and the flags at their thresholds. -/
theorem witness_FilterBandsAndThresholds :
    let c := { ChannelRec.reset with status := .normal, filtered := some 100 }
    let b := BootImage.defaults
    (c.status = .normal ∧ c.filtered = some 100) ∧
    (b.noiseBand 0 = 4 ∧ b.updateThreshold 0 = 16 ∧ b.jumpLimit 0 = 64 ∧ b.debounce 0 = 3) ∧
    (-4 ≤ (104 : Int) - 100 ∧ (104 : Int) - 100 ≤ 4 ∧ (16 : Int) ≤ 12 + 4 ∧ (-12 : Int) + (-4) ≤ -16 ∧ (11 : Int) + 4 < 16) ∧
    (4 < (164 : Int) - 100 ∧ (164 : Int) - 100 ≤ 64 ∧ (3 : Nat) ≤ 2 + 1) ∧ ChannelRec.reset.status ≠ .normal ∧
    (ChannelRec.reset.status = .unset ∧ ChannelRec.reset.status ≠ .faulted) ∧
    (0 ≤ b.noiseBand 0 ∧ b.noiseBand 0 ≤ b.jumpLimit 0 ∧ b.jumpLimit 0 < (165 : Int) - 100) ∧
    ({ c with status := .faulted, recovery := 3, reference := some 104 }.status = .faulted ∧
      (-4 : Int) ≤ 100 - 104 ∧ (4 : Nat) ≤ 3 + 1) := by decide +kernel

theorem witness_ChannelDemandByMargin :
    let c := { ChannelRec.reset with status := .normal, filtered := some 32667 }
    ChannelRec.reset.status = .unset ∧ c.status = .normal ∧ c.filtered = some 32667 ∧
    (BootImage.defaults.demandSpan 0 : Int) = 100 ∧ BootImage.defaults.demandLimit 0 - 32667 = 100 ∧
    BootImage.defaults.demandLimit 0 - 32767 = 0 ∧ BootImage.defaults.demandLimit 0 - 32766 = 1 := by decide +kernel

theorem witness_SweepsFollowOneAnother :
    let e := cfgPut 21 7 1 (cfgPut 21 0 1 (st .blade .joined))
    let w (s : State) := { s with msu := { s.msu with interval := some 0 } }
    ((w e).msu.interval ≠ none ∧ (w e).enabledChannels = 0 :: [7]) ∧ (w (st .blade .joined)).enabledChannels = [] ∧
    (e.msu.interval = none ∧ e.msu.sweep = none ∧ e.portFree ∧ e.station ≠ .setup) ∧ (sweeping 0 e).nextChannel 0 = some 7 ∧
    ((sweeping 7 e).nextChannel 7 = none ∧ (sweeping 7 e).msu.request = false) := by decide +kernel

theorem witness_AcWarnFailsAndRecoveryRestores :
    let s := st .supply .joined
    let m (x : SupplyState) (a : Activity) := { s with spm := { s.spm with state := x, activity := a, recovery := some 0 } }
    (s.role = .supply ∧ (st .supply .start).station = .start ∧ s.station ≠ .start) ∧
    ((m .ok .running).spm.activity = .running ∧ (m .ok .running).spm.state ≠ .failed) ∧
    ((m .failed .running).spm.state = .failed ∧ (m .failed .running).spm.recovery ≠ none) ∧
    (m .ok .frozen).spm.activity = .frozen ∧ (s.spm.activity = .inactive ∧ s.spm.recovery = none) := by decide +kernel

/-- A supply at the end of its sweep on channel 7, running, with its voltage and current as given. -/
def sweepEnd (x : SupplyState) (q : Nat) (v i : Int) : State :=
  let c (f : Int) : ChannelRec := { ChannelRec.reset with status := .normal, filtered := some f }
  let s := sweeping 7 (chan 3 (c 5000) (chan 2 (c 200) (chan 1 (c i) (chan 0 (c v) (cfgPut 21 7 1 (st .supply .joined))))))
  { s with spm := { s.spm with state := x, activity := .running, qualification := q } }

/-- A temperature channel that is WARN. -/
def hot : ChannelRec := { ChannelRec.reset with status := .normal, filtered := some 300, warn := true }

theorem witness_SweepEndJudgesTheSupply :
    ((sweepEnd .ok 0 1200 15000).role = .supply ∧ (sweepEnd .ok 0 1200 15000).msu.sweep = some 7 ∧
      (sweepEnd .ok 0 1200 15000).nextChannel 7 = none ∧ (sweepEnd .ok 0 1200 15000).spm.activity = .running) ∧
    ((sweepEnd .ok 0 1200 15000).outputOutOfWindow = false ∧ (sweepEnd .ok 0 1200 15000).inputLow = false ∧
      (sweepEnd .ok 0 1200 15000).temperature = .clear ∧ (sweepEnd .offline 2 1200 15000).qualifies = true) ∧
    ((sweepEnd .derated 0 1200 15000).spm.state = .derated) ∧ (sweepEnd .offline 2 1200 0).spm.qualification = 2 ∧
    (next (.conversionCompletion 9) (cfgPut 44 0 1201 (sweepEnd .ok 0 1200 15000))).outputOutOfWindow = true ∧
    (next (.conversionCompletion 9) (cfgPut 46 0 5001 (sweepEnd .ok 0 1200 15000))).inputLow = true ∧
    (let w := next (.conversionCompletion 9) (chan 2 hot (sweepEnd .ok 0 1200 15000));
      w.temperature = .warn ∧ w.outputOutOfWindow = false ∧ w.inputLow = false) ∧
    ((next (.conversionCompletion 9) (sweepEnd .offline 2 1200 15000)).qualifies = true) ∧
    (let w := next (.conversionCompletion 9) (chan 2 hot (sweepEnd .offline 2 1200 15000));
      w.temperature = .warn ∧ w.qualifies = true) ∧
    ((next (.conversionCompletion 9) (cfgPut 46 0 5001 (sweepEnd .offline 0 1200 15000))).inputLow = true) ∧
    ((sweepEnd .failed 0 1200 15000).spm.state = .failed ∧
      (next (.conversionCompletion 9) (sweepEnd .failed 0 1200 15000)).inputGood = true) ∧
    (let z := sweepEnd .offline 0 1200 15000;
      { z with spm := { z.spm with activity := .frozen } }.spm.activity = .frozen ∧
      { z with spm := { z.spm with activity := .inactive } }.spm.activity = .inactive) ∧
    ((next (.conversionCompletion 9) (cfgPut 44 0 1201 (sweepEnd .offline 0 1200 15000))).qualifies = false) := by
  decide +kernel

/-! ## Witnesses: fans -/

/-- A driving tray of six configured fans, fan 5 in this state, with a gate open. -/
def driving (x : FanState) (spinup lowGates : Nat) (whole : Bool) : State :=
  fans (fan 5 { FanChannel.reset with state := x, spinup := spinup, lowGates := lowGates, ranWholeGate := whole }
    { Fdu.reset with mode := .drive, gate := some 0, counter := some 0, count := 6, duty := 300 })
    (cfgPut 35 0 6 (st .fan .joined))

theorem witness_GateEndSettlesTheFans :
    let s := driving .running 0 2 true
    (s.role = .fan ∧ s.fdu.gate ≠ none ∧ 5 < s.cfg.fanCount ∧ (5 : Nat) < 6) ∧
    ((s.fdu.channel 5).state = .running ∧ (s.fdu.channel 5).ranWholeGate = true ∧ (s.fdu.channel 5).lowGates = 2) ∧
    ((driving .spinup 2 0 false).fdu.channel 5).spinup = 2 ∧ ((driving .spinup 1 0 false).fdu.channel 5).spinup = 1 ∧
    ((driving .running 0 1 false).fdu.channel 5).ranWholeGate = false ∧
    ((driving .failed 0 0 false).fdu.channel 5).state = .failed ∧ (st .fan .joined).fdu.gate = none ∧
    (st .blade .joined).role ≠ .fan := by decide +kernel

theorem witness_FanUpdateFollowsTheZone :
    let s := ent 9 (blade 1) (driving .running 0 0 true)
    s.role = .fan ∧ s.fdu.gate ≠ none ∧ s.fdu.mode = .drive ∧ (s.entry 9).state = .live ∧
    (s.entry 9).blade.map (fun p => p.zone) = some s.cfg.zone := by decide +kernel

/-- With a fan absent the boost is in force, and with the one configured fan running it is not. -/
theorem witness_FanUpdateBoosts :
    let boosted (s : State) := match exec .gateEnd s with | .next t => some (t.fdu.boost, t.fdu.base) | _ => none
    let alone := cfgPut 35 0 1 (fans (fan 0 { FanChannel.reset with state := .running }
      { Fdu.reset with mode := .drive, gate := some 0, counter := some 0, count := 1, duty := 300 }) (st .fan .joined))
    boosted (driving .running 0 0 true) = some (true, 550) ∧ boosted alone = some (false, 300) ∧
    (alone.role = .fan ∧ alone.fdu.gate ≠ none ∧ alone.fdu.mode = .drive) := by decide +kernel

theorem witness_FanPresenceFollowsTheInput :
    let s := inp 7 .yes (driving .running 0 0 true)
    let a := inp 7 .no (driving .absent 0 0 false)
    (s.shaped ∧ s.role = .fan ∧ s.station ≠ .start ∧ s.station ≠ .setup ∧ 5 < s.cfg.fanCount ∧
      (s.input 7).state = .yes ∧ (s.fdu.channel 5).state ≠ .absent) ∧
    (a.shaped ∧ (a.input 7).state = .no ∧ (a.fdu.channel 5).state = .absent ∧ a.fdu.mode = .drive) ∧
    (fans { a.fdu with mode := .mute } a).fdu.mode = .mute ∧ (fans { a.fdu with mode := .retained } a).fdu.mode = .retained := by
  decide +kernel

theorem witness_TachEdgesAndWraps :
    let s := driving .running 0 0 true
    (s.shaped ∧ 5 < s.cfg.fanCount ∧ s.fdu.gate ≠ none ∧ s.fdu.counter ≠ none) ∧
    ((st .fan .joined).shaped ∧ (st .fan .joined).cfg.fanCount ≤ 1 ∧ (st .fan .joined).fdu.gate = none ∧
      (st .fan .joined).fdu.counter = none) := by decide +kernel

theorem witness_PwmOutputsSpreadOverThePeriod :
    let f : Fdu := { Fdu.reset with count := 6, counter := some 3999, activeLow := [false, true] }
    f.counter = some 3999 ∧ 5 < f.count ∧ f.count ≤ 6 ∧ f.activeLow.getD 0 false = false ∧
    f.activeLow.getD 1 false = true := by decide +kernel

/-! ## Witnesses: lines and the lane map -/

theorem witness_IndicatorFollowsItsTable :
    let s := cfgPut 54 13 128 (st .blade .joined)
    ((s.cfg.nat 54 s.indicatorCode).testBit 7 = true ∧ s.lnu.blinkSecond = false ∧ 7 < 8) ∧
    (s.cfg.nat 54 s.indicatorCode).testBit 6 = false ∧
    { s with lnu := { s.lnu with blinkSecond := true } }.lnu.blinkSecond = true ∧
    restarts (.warmRestart (strapsOf .fan)) (strapsOf .fan) s := by decide +kernel

theorem witness_OutputsFollowTheirSignals :
    (st .blade .joined).role = .blade ∧ (2 : Nat) < 3 ∧ (st .supply .joined).role = .supply ∧
    (st .uplink .joined).role = .uplink ∧ ((st .fan .start).role = .fan ∧ (st .fan .start).station = .start) ∧
    ((st .supply .joined).role ≠ .blade ∧ (0 : Nat) < 1 ∧ (st .supply .joined).station ≠ .start) := by decide +kernel

theorem witness_GeneralInputsSettle :
    let s := st .blade .joined
    (s.shaped ∧ s.role = .blade ∧ (5 : Nat) ≤ 5 ∧ (7 : Nat) < 8) ∧
    ((st .supply .joined).shaped ∧ (st .supply .joined).role = .supply) ∧
    ((st .uplink .joined).shaped ∧ (st .uplink .joined).role = .uplink) ∧ (s.role = .blade ∧ (4 : Nat) < 5) ∧
    (st .fan .joined).role = .fan := by decide +kernel

theorem witness_ShiftEndCommitsTheMap :
    let l (trusted : Bool) (m : Option LaneMap) (x : CrossbarState) : Lmp :=
      { Lmp.reset with inFlight := some 32, committed := m, trusted := trusted, crossbar := x }
    mapRead (mapDo 1) = 1 ∧ (l true (some 0) .ok).inFlight = some 32 ∧
    ((l true (some 0) .ok).trusted = true ∧ (l true (some 0) .ok).crossbar = .ok ∧ (l true (some 0) .ok).committed ≠ some 1) ∧
    (l false none .ok).trusted = false ∧ (l true (some 1) .ok).committed = some 1 ∧ Lmp.reset.inFlight = none := by decide +kernel

/-- Lanes 0 and 7 owned, lane 6 free. -/
theorem witness_ShiftEndCommitsTheMap_map :
    let table : List (Option Addr) := [some 0, none, none, none, none, none, none, some 31]
    table.getD 0 none = some 0 ∧ table.getD 7 none = some 31 ∧ (7 : Nat) < 8 ∧ table.getD 6 none = none := by decide +kernel

/-! ## Witnesses: the bus -/

/-- Offering a QUERY for station 5. -/
def offering : State := slotted .query (frame0 (.query 5)) (st .blade .joined)

theorem witness_SynchronisationAndFrameStart :
    let bits := drivenBits offering.addr (buildPayload offering (.query 5))
    (st .blade .setup).station = .setup ∧ (st .blade .start).station = .start ∧ (st .blade .joined).offered = none ∧
    offering.offered = some (.query, frame0 (.query 5)) ∧ (frame0 (.query 5)).followOn = none ∧
    (slotted .query { frame0 (.query 5) with followOn := some (.query 6) } (st .blade .joined)).offered =
      some (.query, { frame0 (.query 5) with followOn := some (.query 6) }) ∧ ([] : List Bool) <+: bits ∧ bits <+: bits ∧
    (bits = bits.take 7 ++ true :: bits.drop 8 ∧ (bits.take 7).length < 8) ∧
    (bits = bits.take 8 ++ true :: bits.drop 9 ∧ 8 ≤ (bits.take 8).length) ∧
    (bits = bits.take 2 ++ false :: bits.drop 3 ∧ (bits.take 2).length < 8) := by decide +kernel

/-- Its own frame of this slot is on the line. -/
def ownOn (i : SlotId) (p : Payload) (f : QueuedFrame) (score : Nat) : State :=
  let s := slotted i f (st .blade .joined)
  { s with pbc := { s.pbc with onLine := some { slot := i, payload := p, bitError := false }, faultScore := score } }

theorem witness_OwnAttemptIsSettled :
    let s (score attempts : Nat) := ownOn .query (.query 5) { frame0 (.query 5) with attempts := attempts } score
    let o : OnLine := { slot := .query, payload := .query 5, bitError := false }
    ((s 64 0).pbc.synced = true ∧ (s 64 0).station = .joined ∧ (s 64 0).pbc.onLine = some o) ∧
    ((Instr.queryAccepted 3 5 0).acceptedFrame = some ((s 0 0).addr, .query 5, 0) ∧
      (Payload.query 5).kind = o.payload.kind ∧ o.bitError = false) ∧
    ((frameOf 3 (.query 5) 0).sender = (s 60 0).addr ∧ (s 60 0).station.counting = true ∧
      (s 60 0).station.listening = true ∧ 60 ≤ (s 60 0).pbc.faultScore) ∧
    ((s 59 2).slot o.slot = some { frame0 (.query 5) with attempts := 2 } ∧ (s 59 2).pbc.faultScore < 60) ∧
    (s 59 1).slot o.slot = some { frame0 (.query 5) with attempts := 1 } := by decide +kernel

theorem witness_VetoedFramesAndAddressClash :
    let s := st .blade .joined
    (s.pbc.synced = true ∧ s.pbc.onLine = none ∧ s.station.counting = true ∧ s.station.listening = true) ∧
    ((frameOf 4 (.query 5) 1).sender ≠ s.addr ∧ (frameOf 4 (.query 5) 1).checkPasses = false) ∧
    ((st .blade .mute).station = .mute ∧ (st .blade .mute).station.counting = true) ∧
    (frameOf 3 (.query 5) 0).sender = s.addr ∧
    (Instr.departAccepted 3 1 0).acceptedFrame = some (s.addr, .depart 1, 0) := by decide +kernel

/-! ## Witnesses: accepted frames of peers -/

theorem witness_AcceptedFrameMakesItsSenderLive :
    let p : Payload := .query 31
    (Instr.queryAccepted 4 31 (checkOf 4 p)).acceptedFrame = some (4, p, checkOf 4 p) ∧ p.kind ≠ .depart ∧
    (st .blade .mute).shaped ∧ (st .blade .mute).hears 4 p (checkOf 4 p) ∧
    (st .blade .listen).hears 4 p (checkOf 4 p) := by decide +kernel

theorem witness_PowerFramesMoveTheHeldLevel :
    let s := ent 4 (blade 100) (st .blade .joined)
    let v := ent 4 (supply 900) (st .blade .joined)
    (s.shaped ∧ s.hears 4 (.powerClaim 100) (checkOf 4 (.powerClaim 100)) ∧ (s.entry 4).supply = none ∧
      (s.entry 4).held = 100) ∧
    s.hears 4 (.powerClaim 65535) (checkOf 4 (.powerClaim 65535)) ∧ (v.shaped ∧ (v.entry 4).supply.isSome = true) ∧
    s.hears 4 (.powerRelease 0) (checkOf 4 (.powerRelease 0)) := by decide +kernel

def joinedBlade : State := st .blade .joined

theorem witness_ReportsReachTheSendersEntry :
    (joinedBlade.hears 4 (.alert 1 0 4096) (checkOf 4 (.alert 1 0 4096)) ∧ (ent 4 (supply 9) joinedBlade).shaped) ∧
    ((ent 4 tray joinedBlade).shaped ∧ joinedBlade.hears 4 (.alert 2 1 2) (checkOf 4 (.alert 2 1 2)) ∧ Airflow.ofCode 2 = some .lost ∧
      Airflow.ofCode 3 = none) ∧
    ((ent 4 (uplink 8 free8) joinedBlade).shaped ∧ joinedBlade.hears 4 (.alert 3 0 9) (checkOf 4 (.alert 3 0 9))) ∧
    ((ent 4 (blade 0) joinedBlade).shaped ∧ joinedBlade.hears 4 (.heat 4 255) (checkOf 4 (.heat 4 255)) ∧
      joinedBlade.hears 4 (.heat 5 255) (checkOf 4 (.heat 5 255)) ∧ (ent 4 tray joinedBlade).entry 4 = tray) := by
  refine ⟨⟨?_, ?_⟩, ⟨?_, ?_, ?_, ?_⟩, ⟨?_, ?_⟩, ⟨?_, ?_, ?_, ?_⟩⟩ <;> decide +kernel

def laneBus : State := ent 31 (uplink 2 free8) (ent 4 (blade 1) (st .blade .joined))

theorem witness_DepartLaneAndIdentityFrames :
    (laneBus.shaped ∧ laneBus.hears 4 (.depart 3) (checkOf 4 (.depart 3)) ∧ (laneBus.entry 4).state ≠ .vacant) ∧
    (laneBus.hears 4 (.laneClaim 31 4) (checkOf 4 (.laneClaim 31 4)) ∧ (laneBus.entry 4).blade.isSome = true ∧
      0 < (laneBus.entry 4).held ∧ (laneBus.entry 31).state = .live ∧ 0 < (laneBus.entry 31).offer ∧
      (laneBus.entry 31).offer ≤ 8) ∧
    laneBus.hears 4 (.laneRelease 31) (checkOf 4 (.laneRelease 31)) ∧
    laneBus.hears 4 (.inventory 0 []) (checkOf 4 (.inventory 0 [])) ∧ laneBus.hears 4 (.inventory 1 []) (checkOf 4 (.inventory 1 [])) ∧
    laneBus.hears 4 (.inventory 2 []) (checkOf 4 (.inventory 2 [])) ∧ laneBus.hears 4 (.query 3) (checkOf 4 (.query 3)) := by
  refine ⟨⟨?_, ?_, ?_⟩, ⟨?_, ?_, ?_, ?_, ?_, ?_⟩, ?_, ?_, ?_, ?_, ?_⟩ <;> decide +kernel

/-- A sound ANNOUNCE of a blade that holds nothing and claims 16 W; with role byte 4 it is a code fault. -/
def announceBytes (role : Byte) (claim : Byte) : List Byte :=
  [role, 1, 0, 0, 0, 2, 0, 0, 0, claim, 1, 7, 1, 144, 0, 200, 255, 0, 255, 0, 0, 0, 0, 0]

theorem witness_AnnounceOverwritesTheEntry :
    let s := st .blade .joined
    let p := announceBytes 0 16
    (s.shaped ∧ s.hears 4 (.announce p) (checkOf 4 (.announce p)) ∧ p.length = 24) ∧
    (decodeAnnounce p).map (fun b => (b.part.role, b.claim, b.priority)) = some (some .blade, some 16, 2) ∧
    (decodeAnnounce (announceBytes 0 0)).map (fun b => b.claim) = some none ∧
    decodeAnnounce (announceBytes 4 0) = none ∧
    ((s.entry 4).identityComplete = false ∧ (s.entry 4).quiet = none ∧ s.station = .joined) := by decide +kernel

/-- The lane fields of a blade's ANNOUNCE: held level, holding and claim as given. -/
def announceLaneBytes (held holder lanes claimer count : Byte) : List Byte :=
  [0, 1, 0, 0, 0, 2, 0, held, 0, held, 1, 7, 1, 144, 0, 200, holder, lanes, claimer, count, 0, 0, 0, 0]

/-- What they decode to. -/
def lanesRead (held holder lanes claimer count : Byte) : Option (Nat × Option (Addr × List Nat) × Option (Addr × Nat)) :=
  (decodeAnnounce (announceLaneBytes held holder lanes claimer count)).map (fun b => (b.held, b.holding, b.laneClaim))

theorem witness_AnnounceOverwritesTheEntry_lanes :
    lanesRead 9 31 3 255 0 = some (9, some (31, [0, 1]), none) ∧
    lanesRead 9 255 0 31 4 = some (9, none, some (31, 4)) ∧
    lanesRead 0 31 3 255 0 = some (0, some (31, [0, 1]), none) ∧
    lanesRead 0 255 0 31 4 = some (0, none, some (31, 4)) ∧ lanesRead 9 255 0 255 0 = some (9, none, none) := by
  refine ⟨?_, ?_, ?_, ?_, ?_⟩ <;> decide +kernel

theorem witness_AnnounceOverwritesTheEntry_uplink :
    (31 : Addr) ≠ 4 ∧ (laneBus.entry 31).uplink.isSome = true ∧ 1 < (laneBus.entry 31).offer ∧
    (laneBus.entry 31).offer ≤ 2 ∧ (laneBus.entry 31).state = .live ∧ (laneBus.entry 30).state ≠ .live ∧
    (decodeAnnounce ([3, 1, 0, 0, 0, 0, 0, 0, 0, 0, 8, 1] ++ List.replicate 12 0)).map (fun b => b.part.role) =
      some (some .uplink) := by decide +kernel

theorem witness_CensusTimersAtTheirEnds :
    let s := ent 4 { blade 1 with quiet := some 0 } (st .blade .joined)
    let e := ent 4 { blade 1 with state := .stale, silence := none, staleHold := some 0 } (st .blade .joined)
    (s.shaped ∧ (s.entry 4).state = .live ∧ (s.entry 4).silence ≠ none) ∧ (s.entry 5).state ≠ .live ∧
    (e.shaped ∧ (e.entry 4).state = .stale ∧ (e.entry 4).staleHold ≠ none) ∧ (s.entry 4).staleHold = none ∧
    (s.entry 4).quiet ≠ none ∧ (e.entry 4).quiet = none ∧
    { s with cen := { s.cen with announceTimer := some 0 } }.cen.announceTimer ≠ none ∧ s.cen.announceTimer = none := by
  decide +kernel

/-! ## Witnesses: the tally -/

theorem witness_BudgetsFromCapacityAndPolicy :
    let c := Census.reset.upd 9 (fun _ => supply 900)
    let p (n : Bool) (x : Nat) : Policy := { nPlusOne := n, cap := x }
    (p false 0).nPlusOne = false ∧ (p true 0).nPlusOne = true ∧ c.capacity = 900 ∧ c.reserve (p true 0) = 900 ∧
    (p false 899).cap ≠ 0 ∧ (p false 899).cap < c.capacity - c.reserve (p false 899) := by decide +kernel

theorem witness_AdmissionStaysWithinTheBudget :
    let c := Census.reset.upd 2 (fun _ => { blade 0 with claim := some 200 })
    c.entries.length = 32 ∧ (3 : Addr) ∉ [(2 : Addr)] ∧ c.load ≤ 200 ∧ (Census.walk 200 [2] c).load = 200 := by
  decide +kernel

theorem witness_ShedReachesItsBudgetOrExhausts :
    let c := Census.reset.upd 2 (fun _ => blade 300)
    c.entries.length = 32 ∧ c.candidates = [2] ∧ (3 : Addr) ∉ c.candidates ∧ (c.shedAll 250).effLoad = 200 ∧
    (c.shedAll 100).effLoad = 0 := by decide +kernel

end Sys2Proof.Tests
end

section
/-! PROOFS. Station life after a reset (R68, R69) and at the end of the boot read (R47, R48, R51, R54): what the resets,
the entries to LISTEN, MUTE and SETUP and the passage into PARKED make of the station life. -/

namespace Sys2Proof.Machine

/-! ## The commands -/

theorem exec_powerOnStart (straps : Straps) (s : State) :
    exec (.powerOnStart straps) s = .next (State.powerOn straps s.pending) := rfl

theorem exec_warmRestart (straps : Straps) (s : State) :
    exec (.warmRestart straps) s = .next (s.warmRestart straps) := rfl

theorem exec_restart_of_portFree {straps : Straps} {s : State} (h : s.portFree) :
    exec (.restart straps) s = .next (s.warmRestart straps) := by
  obtain ⟨hstation, hstoring⟩ := h
  have harm : exec (.restart straps) s = execRestart straps s := rfl
  simp [harm, execRestart, hstation, hstoring]

theorem exec_bootReadComplete_of_start {record : List Byte} {s : State} (h : s.station = .start) :
    exec (.bootReadComplete record) s = .next (s.newEvent.checkRecord record) := by
  have harm : exec (.bootReadComplete record) s = execBootReadComplete record s := rfl
  simp [harm, execBootReadComplete, h]

theorem exec_bootReadFault_of_start {s : State} (h : s.station = .start) :
    exec .bootReadFault s = .next s.readFault := by
  have harm : exec .bootReadFault s = execBootReadFault s := rfl
  simp [harm, execBootReadFault, h]

/-- A reset that is carried out is a power-on start or a warm restart, whichever command gives it. -/
theorem exec_of_restarts {i : Instr} {straps : Straps} {s : State} (h : restarts i straps s) :
    exec i s = .next (State.powerOn straps s.pending) ∨ exec i s = .next (s.warmRestart straps) := by
  rcases h with rfl | rfl | ⟨rfl, hfree⟩
  · exact .inl (exec_powerOnStart straps s)
  · exact .inr (exec_warmRestart straps s)
  · exact .inr (exec_restart_of_portFree hfree)

/-! ## Resets (R68, R69) -/

/-- A state whose station life has the starting values of R68 for these straps; `retention` is what R69 adds. -/
structure State.LifeStarts (t : State) (straps : Straps) : Prop where
  life : ∃ retention, t.life = { Life.reset straps with retention := retention }
  grace : t.rsq.grace = none
  lines : t.lnu = Lnu.reset

theorem State.powerOn_lifeStarts (straps : Straps) (pending : List Instr) :
    (State.powerOn straps pending).LifeStarts straps := ⟨⟨false, rfl⟩, rfl, rfl⟩

theorem Rsq.retain_grace (r : Rsq) : r.retain.grace = none := by
  unfold Rsq.retain
  split <;> rfl

theorem State.warmRestart_grace (s : State) (straps : Straps) : (s.warmRestart straps).rsq.grace = none := by
  simp only [State.warmRestart]
  split
  · exact s.rsq.retain_grace
  · rfl

theorem State.warmRestart_lifeStarts (s : State) (straps : Straps) : (s.warmRestart straps).LifeStarts straps :=
  ⟨⟨s.keepsRails straps || s.keepsFans straps, rfl⟩, s.warmRestart_grace straps, rfl⟩

theorem exec_lifeStarts_of_restarts {i : Instr} {straps : Straps} {s : State} (h : restarts i straps s) :
    ∃ t, exec i s = .next t ∧ t.LifeStarts straps := by
  rcases exec_of_restarts h with hon | hwarm
  · exact ⟨_, hon, State.powerOn_lifeStarts straps s.pending⟩
  · exact ⟨_, hwarm, s.warmRestart_lifeStarts straps⟩

/-- Settles O8: the next state is one whose station life starts, and R68 lists its fields. -/
theorem stationLifeAfterResets : Obligations.StationLifeAfterResets := by
  intro i straps s h
  obtain ⟨t, hexec, ⟨retention, hlife⟩, hgrace, hlines⟩ := exec_lifeStarts_of_restarts h
  refine ⟨t, hexec, ?_⟩
  simp [hlife, hgrace, hlines, Life.reset, Lnu.reset]

/-! ## The sum and the version of a record (R48) -/

theorem recordSum_eq_sum (record : List Byte) :
    recordSum record = ((record.take 510).map (fun b => b.toNat)).sum % 65536 := by
  simp only [recordSum, List.sum_eq_foldl, List.foldl_map]

/-- The loader's two sums agree exactly where R48 says that the sum holds. -/
theorem recordSum_eq_recordSumHeld_iff (record : List Byte) :
    recordSum record = recordSumHeld record ↔ sumHolds record := by
  rw [recordSum_eq_sum]
  rfl

theorem byteAt_eq_one_iff (record : List Byte) : byteAt record 0 = 1 ↔ record.getD 0 0 = 1 :=
  ⟨fun h => BitVec.eq_of_toNat_eq h, fun h => congrArg BitVec.toNat h⟩

/-! ## LISTEN and MUTE from PARKED (R54 to R56) -/

theorem State.life_of_fixed {s t : State} (h : t.fixed = s.fixed) : t.life = s.life := congrArg Fixed.life h

theorem State.enterMute_station (s : State) (cause : MuteCause) : (s.enterMute cause).station = .mute := by
  have hlife : (s.enterMute cause).life = s.life.mute :=
    State.life_of_fixed ((State.evalRoles_fixed _ _ _ _ _).trans (State.muteFault_fixed _))
  rw [State.station, hlife]
  rfl

theorem State.disposeDepart_life (s : State) : s.disposeDepart.life = s.life := by
  unfold State.disposeDepart
  split
  · rfl
  · split <;> rfl

/-- Entry to LISTEN leads at once to MUTE where the fault score is at its limit (R56). -/
theorem State.enterListen_eq (s : State) :
    ∃ t : State, t.station = .listen ∧
      s.enterListen = if t.pbc.faultScore == Config.faultMax then t.enterMute .faultScore else t := by
  refine ⟨_, ?_, rfl⟩
  rw [State.station, State.life_of_fixed (State.evalRoles_fixed _ _ _ _ _), State.disposeDepart_life]
  rfl

theorem State.enterListen_station (s : State) : s.enterListen.station = .listen ∨ s.enterListen.station = .mute := by
  obtain ⟨t, hlisten, heq⟩ := s.enterListen_eq
  rw [heq]
  split
  · exact .inr (t.enterMute_station .faultScore)
  · exact .inl hlisten

theorem State.testJoin_passedIntoParked {s : State} (h : s.station = .parked) : s.testJoin.passedIntoParked := by
  unfold State.testJoin
  split
  · exact .inr s.enterListen_station
  · exact .inl h

theorem State.testJoin_image (s : State) : s.testJoin.life.image = s.life.image :=
  congrArg (fun k : Still => k.life.image) s.testJoin_still

theorem State.testJoin_config (s : State) : s.testJoin.life.config = s.life.config :=
  congrArg (fun k : Still => k.life.config) s.testJoin_still

/-! ## The passage into PARKED (R54) -/

theorem State.startSweep_life (s : State) : s.startSweep.life = s.life := by
  unfold State.startSweep
  split <;> rfl

theorem State.idleRoles_life (s : State) : s.idleRoles.life = s.life := by
  unfold State.idleRoles
  split
  · rfl
  · exact State.life_of_fixed s.installFans_fixed
  · exact State.life_of_fixed s.parkSupply_fixed
  · rfl

/-- The passage into PARKED up to the test of the join condition that ends it. -/
theorem State.passIntoParked_eq_testJoin (s : State) (image : BootImage) :
    ∃ t : State, s.passIntoParked image = t.testJoin ∧
      t.life = { s.life with image := some image, config := image, station := .parked } := by
  refine ⟨_, rfl, ?_⟩
  simp [State.consumeLatches, State.idleRoles_life, State.startSweep_life, State.install, State.updSelf]

theorem State.passIntoParked_outcome (s : State) (image : BootImage) :
    (s.passIntoParked image).life.image = some image ∧ (s.passIntoParked image).life.config = image ∧
      (s.passIntoParked image).passedIntoParked := by
  obtain ⟨t, ht, hlife⟩ := s.passIntoParked_eq_testJoin image
  have hparked : t.station = .parked := congrArg Life.station hlife
  rw [ht, t.testJoin_image, t.testJoin_config, hlife]
  exact ⟨rfl, rfl, State.testJoin_passedIntoParked hparked⟩

theorem State.commitImage_outcome (s : State) (image : BootImage) :
    (s.commitImage image).life.image = some (image.clamp s.role) ∧
      (s.commitImage image).life.config = image.clamp s.role ∧ (s.commitImage image).passedIntoParked :=
  State.passIntoParked_outcome _ _

/-! ## Entry to SETUP (R51) -/

theorem State.endRetentions_life (s : State) : s.endRetentions.life = { s.life with retention := false } := by
  unfold State.endRetentions
  rw [State.life_of_fixed (State.endDrive_fixed _), State.life_of_fixed s.railsOff_fixed]

theorem State.enterSetup_life (s : State) (cause : SetupCause) (image : BootImage) :
    (s.enterSetup cause image).life =
      { s.life with image := some image, config := image, retention := false, setupCause := some cause,
                    station := .setup } := by
  simp [State.enterSetup, State.consumeLatches, State.endRetentions_life, State.install]

theorem State.enterSetup_outcome (s : State) (cause : SetupCause) (image : BootImage) :
    (s.enterSetup cause image).life.image = some image ∧ (s.enterSetup cause image).station = .setup ∧
      (s.enterSetup cause image).life.setupCause = some cause := by
  simp [State.station, State.enterSetup_life]

/-! ## The boot read (R47, R48) -/

theorem State.checkRecord_badSum {record : List Byte} (s : State) (hsum : ¬ sumHolds record) :
    s.checkRecord record = s.enterSetup .sum BootImage.defaults := by
  rw [← recordSum_eq_recordSumHeld_iff] at hsum
  simp [State.checkRecord, hsum]

theorem State.checkRecord_badVersion {record : List Byte} (s : State) (hsum : sumHolds record)
    (hversion : record.getD 0 0 ≠ 1) : s.checkRecord record = s.enterSetup .version BootImage.defaults := by
  rw [← recordSum_eq_recordSumHeld_iff] at hsum
  rw [ne_eq, ← byteAt_eq_one_iff] at hversion
  simp [State.checkRecord, hsum, hversion]

/-- A sound record of version 1 is held in SETUP by the strap, and committed without it. -/
theorem State.checkRecord_sound {record : List Byte} (s : State) (hsum : sumHolds record)
    (hversion : record.getD 0 0 = 1) :
    s.checkRecord record =
      if s.life.straps.setupHold then s.enterSetup .hold (BootImage.ofRecord record)
      else s.commitImage (BootImage.ofRecord record) := by
  rw [← recordSum_eq_recordSumHeld_iff] at hsum
  rw [← byteAt_eq_one_iff] at hversion
  simp [State.checkRecord, hsum, hversion]

theorem State.readFault_third {s : State} (h : s.life.readFaults = 2) :
    s.readFault = (s.updLife (fun l => { l with readFaults := 3 })).enterSetup .read BootImage.defaults := by
  simp [State.readFault, State.updLife, h]

theorem State.readFault_restarts {s : State} (h : s.life.readFaults < 2) :
    s.readFault = { s with life := { s.life with readFaults := s.life.readFaults + 1 } } := by
  have hfew : ¬ 3 ≤ s.life.readFaults + 1 := by omega
  simp [State.readFault, State.updLife, hfew]

/-- Settles O12: the record's sum, its version and the SETUP_HOLD strap decide between SETUP with a cause and the
passage into PARKED; the number of read faults decides whether a fault restarts the read. -/
theorem bootReadOutcomes : Obligations.BootReadOutcomes := by
  intro record s hstart
  refine ⟨⟨_, exec_bootReadComplete_of_start hstart, ?_, ?_, ?_, ?_⟩, fun hfaults => ?_, fun hfaults => ?_⟩
  · intro hsum hversion hhold
    rw [State.checkRecord_sound _ hsum hversion, if_neg (by simp [hhold])]
    exact s.newEvent.commitImage_outcome (BootImage.ofRecord record)
  · intro hsum hversion hhold
    rw [State.checkRecord_sound _ hsum hversion, if_pos (by simp [hhold])]
    exact s.newEvent.enterSetup_outcome .hold (BootImage.ofRecord record)
  · intro hsum
    rw [State.checkRecord_badSum _ hsum]
    exact s.newEvent.enterSetup_outcome .sum BootImage.defaults
  · intro hsum hversion
    rw [State.checkRecord_badVersion _ hsum hversion]
    exact s.newEvent.enterSetup_outcome .version BootImage.defaults
  · refine ⟨_, exec_bootReadFault_of_start hstart, ?_⟩
    rw [State.readFault_third hfaults]
    exact State.enterSetup_outcome _ .read BootImage.defaults
  · rw [exec_bootReadFault_of_start hstart, State.readFault_restarts hfaults]

end Sys2Proof.Machine
end

section
/-! PROOFS. The capacity, the reserve and the two budgets of the power tally (R70, R71). -/

namespace Sys2Proof.Machine

/-! ## Contributions (R70) -/

theorem Entry.supply_of_part {e : Entry} {q : SupplyPart} (h : e.part = .supply q) : e.supply = some q := by
  simp [Entry.supply, h]

theorem Entry.supply_eq_none {e : Entry} (h : ∀ q, e.part ≠ .supply q) : e.supply = none := by
  cases hpart : e.part with
  | supply q => exact absurd hpart (h q)
  | unknown | blade | fan | uplink => simp [Entry.supply, hpart]

theorem Entry.contribution_of_supply {e : Entry} {q : SupplyPart} (h : e.part = .supply q) :
    e.contribution = if e.state = .live ∧ (q.state = .ok ∨ q.state = .derated) then q.capacity else 0 := by
  simp [Entry.contribution, Entry.supply_of_part h, Entry.isLive]

theorem Entry.contribution_of_notSupply {e : Entry} (h : ∀ q, e.part ≠ .supply q) : e.contribution = 0 := by
  simp [Entry.contribution, Entry.supply_eq_none h]

/-! ## The largest contribution -/

/-- The fold from 0 computes the maximum of the contributions with a 0 put before them. -/
theorem Census.max?_contributions (c : Census) :
    (0 :: c.entries.map Entry.contribution).max? = some c.largest :=
  List.max?_cons'

theorem Census.contribution_le_largest {c : Census} {e : Entry} (he : e ∈ c.entries) :
    e.contribution ≤ c.largest := by
  obtain ⟨-, hmax⟩ := List.max?_eq_some_iff.mp c.max?_contributions
  exact hmax _ (List.mem_cons_of_mem 0 (List.mem_map_of_mem he))

theorem Census.largest_eq_zero_or_contribution (c : Census) :
    c.largest = 0 ∨ ∃ e ∈ c.entries, e.contribution = c.largest := by
  obtain ⟨hmem, -⟩ := List.max?_eq_some_iff.mp c.max?_contributions
  exact (List.mem_cons.mp hmem).imp_right List.mem_map.mp

theorem Census.contribution_le_capacity {c : Census} {e : Entry} (he : e ∈ c.entries) :
    e.contribution ≤ c.capacity := by
  obtain ⟨before, after, hsplit⟩ := List.append_of_mem he
  simp only [Census.capacity, Census.sum, hsplit, List.map_append, List.map_cons, List.sum_append, List.sum_cons]
  omega

theorem Census.largest_le_capacity (c : Census) : c.largest ≤ c.capacity := by
  rcases c.largest_eq_zero_or_contribution with hzero | ⟨e, he, hlargest⟩
  · rw [hzero]
    exact Nat.zero_le _
  · rw [← hlargest]
    exact Census.contribution_le_capacity he

/-! ## The reserve (R71) -/

theorem Census.reserve_of_n {p : Policy} (c : Census) (h : p.nPlusOne = false) : c.reserve p = 0 := by
  simp [Census.reserve, h]

theorem Census.reserve_of_nPlusOne {p : Policy} (c : Census) (h : p.nPlusOne = true) :
    c.reserve p = c.largest := by
  simp [Census.reserve, h]

theorem Census.reserve_le_capacity (c : Census) (p : Policy) : c.reserve p ≤ c.capacity := by
  cases hred : p.nPlusOne with
  | false =>
    rw [c.reserve_of_n hred]
    exact Nat.zero_le _
  | true =>
    rw [c.reserve_of_nPlusOne hred]
    exact c.largest_le_capacity

/-! ## The cap and the budgets (R71) -/

theorem Policy.limit_eq (p : Policy) (x : Nat) : p.limit x = if p.cap ≠ 0 ∧ p.cap < x then p.cap else x := by
  by_cases hcap : p.cap = 0
  · simp [Policy.limit, hcap]
  · have hmin : min x p.cap = if p.cap < x then p.cap else x := by
      split <;> omega
    simp [Policy.limit, hcap, hmin]

theorem Policy.limit_mono (p : Policy) {x y : Nat} (h : x ≤ y) : p.limit x ≤ p.limit y := by
  unfold Policy.limit
  split <;> omega

theorem Census.admission_le_shedBudget (c : Census) (p : Policy) : c.admission p ≤ c.shedBudget p :=
  p.limit_mono (Nat.sub_le c.capacity (c.reserve p))

/-- Settles O58: the reserve is 0 or the largest contribution, which is one of the summands of C; both budgets are a
value lowered to the cap, and lowering keeps their order. -/
theorem budgetsFromCapacityAndPolicy : Obligations.BudgetsFromCapacityAndPolicy := by
  intro c p
  refine ⟨fun e q => Entry.contribution_of_supply, fun e => Entry.contribution_of_notSupply, rfl, c.reserve_of_n,
    fun hred => ?_, p.limit_eq _, p.limit_eq _, c.reserve_le_capacity p, c.admission_le_shedBudget p⟩
  rw [c.reserve_of_nPlusOne hred]
  exact ⟨fun e => Census.contribution_le_largest, c.largest_eq_zero_or_contribution⟩

end Sys2Proof.Machine
end

section
/-! PROOFS. The Rail Sequencer after a reset (R100). -/

namespace Sys2Proof.Machine

/-! ## Which reset a command gives -/

theorem exec_of_warmRestarts {i : Instr} {straps : Straps} {s : State} (h : warmRestarts i straps s) :
    exec i s = .next (s.warmRestart straps) := by
  rcases h with rfl | ⟨rfl, hfree⟩
  · exact exec_warmRestart straps s
  · exact exec_restart_of_portFree hfree

theorem not_warmRestarts_powerOnStart {straps straps' : Straps} {s : State} :
    ¬ warmRestarts (.powerOnStart straps) straps' s := by
  simp

/-! ## What the sequencer keeps -/

theorem Rsq.retain_of_on {r : Rsq} (h : r.state = .on) :
    r.retain = { Rsq.reset with state := .on, retained := r.retained } := by
  simp [Rsq.retain, h]

theorem Rsq.retain_of_off {r : Rsq} (h : r.state = .off) : r.retain = { Rsq.reset with retained := r.retained } := by
  simp [Rsq.retain, h]

theorem Rsq.retain_of_unsettled {r : Rsq} (hon : r.state ≠ .on) (hoff : r.state ≠ .off) : r.retain = .reset := by
  cases hstate : r.state with
  | on => exact absurd hstate hon
  | off => exact absurd hstate hoff
  | stagger | ramp | stopWait | stopping | fault => simp [Rsq.retain, hstate]

/-- A sequencer with no timer running, and with its enables all asserted in ON and all deasserted in any other state. -/
structure Rsq.Restarted (r : Rsq) : Prop where
  stagger : r.stagger = none
  oneShot : r.oneShot = none
  pgTimeout : r.pgTimeout = none
  grace : r.grace = none
  stepOff : r.stepOff = none
  enables : ∀ k, k < 3 → r.enable k = (r.state == .on)

theorem Rsq.restarted_off (n : Nat) : Rsq.Restarted { Rsq.reset with retained := n } :=
  ⟨rfl, rfl, rfl, rfl, rfl, fun _ _ => rfl⟩

theorem Rsq.restarted_on (n : Nat) : Rsq.Restarted { Rsq.reset with state := .on, retained := n } :=
  ⟨rfl, rfl, rfl, rfl, rfl, fun k hk => by simp [Rsq.enable, RailState.rails, hk]⟩

theorem Rsq.retain_restarted (r : Rsq) : r.retain.Restarted := by
  by_cases hon : r.state = .on
  · rw [Rsq.retain_of_on hon]
    exact Rsq.restarted_on r.retained
  · by_cases hoff : r.state = .off
    · rw [Rsq.retain_of_off hoff]
      exact Rsq.restarted_off r.retained
    · rw [Rsq.retain_of_unsettled hon hoff]
      exact Rsq.restarted_off 0

/-! ## The sequencer after a warm restart -/

theorem State.warmRestart_rsq_of_blade {s : State} {straps : Straps} (hnew : straps.role = .blade)
    (hold : s.role = .blade) : (s.warmRestart straps).rsq = s.rsq.retain := by
  simp [State.warmRestart, State.isBlade, hnew, hold]

theorem State.warmRestart_rsq_of_notBlade {s : State} {straps : Straps}
    (h : ¬ (straps.role = .blade ∧ s.role = .blade)) : (s.warmRestart straps).rsq = .reset := by
  simp [State.warmRestart, State.isBlade, h]

theorem State.warmRestart_rsq_of_role_ne {s : State} {straps : Straps} (h : straps.role ≠ s.role) :
    (s.warmRestart straps).rsq = .reset :=
  State.warmRestart_rsq_of_notBlade fun ⟨hnew, hold⟩ => h (hnew.trans hold.symm)

theorem State.warmRestart_rsq_restarted (s : State) (straps : Straps) : (s.warmRestart straps).rsq.Restarted := by
  by_cases hblade : straps.role = .blade ∧ s.role = .blade
  · obtain ⟨hnew, hold⟩ := hblade
    rw [State.warmRestart_rsq_of_blade hnew hold]
    exact s.rsq.retain_restarted
  · rw [State.warmRestart_rsq_of_notBlade hblade]
    exact Rsq.restarted_off 0

/-- Settles O10: a power-on start gives the reset value of the sequencer; a warm restart gives that or, to a blade that
was one, what the sequencer keeps in its state. -/
theorem railsAfterResets : Obligations.RailsAfterResets := by
  intro i straps s h
  rcases h with rfl | hwarm
  · obtain ⟨hstagger, honeShot, hpg, hgrace, hstepOff, henables⟩ := Rsq.restarted_off 0
    exact ⟨_, exec_powerOnStart straps s, hstagger, honeShot, hpg, hgrace, hstepOff, henables, fun _ => ⟨rfl, rfl⟩,
      fun hwarm => absurd hwarm not_warmRestarts_powerOnStart,
      fun hwarm => absurd hwarm not_warmRestarts_powerOnStart⟩
  · obtain ⟨hstagger, honeShot, hpg, hgrace, hstepOff, henables⟩ := s.warmRestart_rsq_restarted straps
    refine ⟨_, exec_of_warmRestarts hwarm, hstagger, honeShot, hpg, hgrace, hstepOff, henables, ?_, ?_, ?_⟩
    · rintro rfl
      exact absurd hwarm not_warmRestarts_powerOnStart
    · intro _ hrole
      rw [State.warmRestart_rsq_of_role_ne hrole]
      exact ⟨rfl, rfl⟩
    · intro _ hnew hold
      rw [State.warmRestart_rsq_of_blade hnew hold]
      refine ⟨fun hon => ?_, fun hoff => ?_, fun hon hoff => ?_⟩
      · rw [Rsq.retain_of_on hon]
        exact ⟨rfl, rfl⟩
      · rw [Rsq.retain_of_off hoff]
        exact ⟨rfl, rfl⟩
      · rw [Rsq.retain_of_unsettled hon hoff]
        exact ⟨rfl, rfl⟩

end Sys2Proof.Machine
end

section
/-! PROOFS. The wanted requests of the power client and of the lane client (R97, R173). -/

namespace Sys2Proof.Machine

/-! ## The power client: the target against the held level (R97) -/

section
variable {target held : Nat} (claim : Option Nat) (off : Bool)

theorem wantedPower_of_held_lt (h : held < target) :
    wantedPower target held claim off = if claim = some target then none else some (.powerClaim target) := by
  simp [wantedPower, h]

/-- A target at the held level asks for nothing but the withdrawal of a claim. -/
theorem wantedPower_of_held_eq (h : 0 < held) :
    wantedPower held held claim off = if claim = none then none else some (.powerRelease held) := by
  cases claim <;> simp [wantedPower, h]

theorem wantedPower_of_lt_held (hpos : 0 < target) (h : target < held) :
    wantedPower target held claim off = some (.powerRelease target) := by
  simp [wantedPower, hpos, Nat.ne_of_lt h, Nat.not_lt_of_gt h]

theorem wantedPower_zero_of_railsOn (h : 0 < held) :
    wantedPower 0 held claim false = if claim = none then none else some (.powerRelease held) := by
  cases claim <;> simp [wantedPower, Nat.ne_of_gt h]

theorem wantedPower_zero_of_railsOff (h : 0 < held) : wantedPower 0 held claim true = some (.powerRelease 0) := by
  simp [wantedPower, Nat.ne_of_gt h]

theorem wantedPower_zero_zero :
    wantedPower 0 0 claim off = if claim = none then none else some (.powerRelease 0) := by
  cases claim <;> simp [wantedPower]

end

theorem RailState.isOff_iff (r : RailState) : r.isOff = true ↔ r = .off ∨ r = .fault := by
  cases r <;> simp [RailState.isOff]

/-! ## The lane client: a holding, a claim, or neither (R173) -/

section
variable {held : Nat} (want : Nat) (holding : Option (Addr × List Nat)) (claim : Option (Addr × Nat)) (live : Bool)
  (chosen : Option Addr)

theorem wantedLanes_of_held_zero : wantedLanes 0 want holding claim live chosen = none := rfl

theorem wantedLanes_of_holding (h : 0 < held) (u : Addr) (lanes : List Nat) :
    wantedLanes held want (some (u, lanes)) claim live chosen =
      if lanes.length ≤ want then none else some (.laneRelease u) := by
  simp [wantedLanes, Nat.ne_of_gt h]

theorem wantedLanes_of_claim (h : 0 < held) (u : Addr) (n : Nat) :
    wantedLanes held want none (some (u, n)) live chosen =
      if 0 < want ∧ live = true then none else some (.laneRelease u) := by
  cases live with
  | false => simp [wantedLanes, Nat.ne_of_gt h]
  | true => cases want <;> simp [wantedLanes, Nat.ne_of_gt h]

theorem wantedLanes_of_neither (h : 0 < held) :
    wantedLanes held want none none live chosen =
      if want = 0 then none else chosen.map (fun u => .laneClaim u want) := by
  simp [wantedLanes, Nat.ne_of_gt h]

end

/-- Settles O33: each row of the two tables is one branch of the lemma for its comparison of T with h, or for what the
self entry holds and claims. -/
theorem wantedRequests : Obligations.WantedRequests := by
  refine ⟨fun T h c off => ⟨?_, ?_, ?_, ?_, ?_, ?_, ?_, ?_, ?_, ?_⟩, RailState.isOff_iff,
    fun h w H Q live chosen => ⟨?_, ?_, ?_, ?_, ?_, ?_, ?_, ?_, ?_⟩⟩
  · intro hlt hclaim
    rw [wantedPower_of_held_lt c off hlt, if_neg hclaim]
  · intro hlt hclaim
    rw [wantedPower_of_held_lt c off hlt, if_pos hclaim]
  · rintro rfl hpos hclaim
    rw [wantedPower_of_held_eq c off hpos, if_neg hclaim]
  · rintro rfl hpos hclaim
    rw [wantedPower_of_held_eq c off hpos, if_pos hclaim]
  · exact wantedPower_of_lt_held c off
  · rintro rfl hheld rfl hclaim
    rw [wantedPower_zero_of_railsOn c hheld, if_neg hclaim]
  · rintro rfl hheld rfl hclaim
    rw [wantedPower_zero_of_railsOn c hheld, if_pos hclaim]
  · rintro rfl hheld rfl
    exact wantedPower_zero_of_railsOff c hheld
  · rintro rfl rfl hclaim
    rw [wantedPower_zero_zero, if_neg hclaim]
  · rintro rfl rfl hclaim
    rw [wantedPower_zero_zero, if_pos hclaim]
  · rintro rfl
    exact wantedLanes_of_held_zero w H Q live chosen
  · rintro hheld u S rfl hmore
    rw [wantedLanes_of_holding w Q live chosen hheld, if_neg (Nat.not_le_of_gt hmore)]
  · rintro hheld u S rfl hfew
    rw [wantedLanes_of_holding w Q live chosen hheld, if_pos hfew]
  · rintro hheld rfl u n rfl rfl
    rw [wantedLanes_of_claim 0 live chosen hheld, if_neg (by simp)]
  · rintro hheld rfl u n rfl hwant hlive
    rw [wantedLanes_of_claim w live chosen hheld, if_pos ⟨hwant, hlive⟩]
  · rintro hheld rfl u n rfl hwant rfl
    rw [wantedLanes_of_claim w false chosen hheld, if_neg (by simp)]
  · rintro hheld rfl rfl rfl
    rw [wantedLanes_of_neither 0 live chosen hheld, if_pos rfl]
  · rintro hheld rfl rfl hwant c rfl
    rw [wantedLanes_of_neither w live (some c) hheld, if_neg (Nat.ne_of_gt hwant)]
    rfl
  · rintro hheld rfl rfl hwant rfl
    rw [wantedLanes_of_neither w live none hheld, if_neg (Nat.ne_of_gt hwant)]
    rfl

end Sys2Proof.Machine
end

section
/-! PROOFS. The filter of a channel (R118 to R122) and its threshold flags (R123). -/

namespace Sys2Proof.Machine

/-! ## A distance against a limit -/

/-- The model compares magnitudes as natural numbers; for a limit that is not negative this is the two-sided test. -/
theorem natAbs_le_toNat_iff {n : Int} (hn : 0 ≤ n) (d : Int) : d.natAbs ≤ n.toNat ↔ -n ≤ d ∧ d ≤ n := by omega

/-! ## Which rule takes a sample -/

section
variable {c : ChannelRec} (b : BootImage) (ch : Nat)

theorem ChannelRec.filter_of_unset (h : c.status = .unset) (s : Int) : c.filter b ch (some s) = c.settleAt s := by
  simp [ChannelRec.filter, h]

theorem ChannelRec.filter_of_normal (h : c.status = .normal) {f : Int} (hf : c.filtered = some f) (s : Int) :
    c.filter b ch (some s) = c.normalSample b ch f s := by
  simp [ChannelRec.filter, h, hf]

theorem ChannelRec.filter_of_faulted (h : c.status = .faulted) (s : Int) :
    c.filter b ch (some s) = c.recoverySample (b.noiseBand ch).toNat s := by
  simp [ChannelRec.filter, h]

theorem ChannelRec.filter_none_of_not_faulted (h : c.status ≠ .faulted) : c.filter b ch none = c.reject := by
  cases hstatus : c.status with
  | faulted => exact absurd hstatus h
  | unset | normal => simp [ChannelRec.filter, hstatus]

theorem ChannelRec.filter_none_of_faulted (h : c.status = .faulted) :
    c.filter b ch none = { c with recovery := 0, reference := none } := by
  simp [ChannelRec.filter, h]

end

/-! ## The three bands of a NORMAL channel (section 6.4) -/

section
variable (c : ChannelRec) {b : BootImage} {ch : Nat} {f s : Int}

theorem ChannelRec.normalSample_of_noise (hlow : -b.noiseBand ch ≤ s - f) (hhigh : s - f ≤ b.noiseBand ch) :
    c.normalSample b ch f s = c.noise f (s - f) (b.updateThreshold ch) := by
  have hin := (natAbs_le_toNat_iff (by omega) (s - f)).mpr ⟨hlow, hhigh⟩
  simp [ChannelRec.normalSample, hin]

theorem not_natAbs_le_noiseBand (hN : 0 ≤ b.noiseBand ch) (hout : s - f < -b.noiseBand ch ∨ b.noiseBand ch < s - f) :
    ¬ (s - f).natAbs ≤ (b.noiseBand ch).toNat := by
  rw [natAbs_le_toNat_iff hN]
  omega

theorem ChannelRec.normalSample_of_change (hN : 0 ≤ b.noiseBand ch)
    (hout : s - f < -b.noiseBand ch ∨ b.noiseBand ch < s - f) (hlow : -b.jumpLimit ch ≤ s - f)
    (hhigh : s - f ≤ b.jumpLimit ch) : c.normalSample b ch f s = c.change s (s - f) (b.debounce ch) := by
  have hjump := (natAbs_le_toNat_iff (by omega) (s - f)).mpr ⟨hlow, hhigh⟩
  simp [ChannelRec.normalSample, not_natAbs_le_noiseBand hN hout, hjump]

theorem ChannelRec.normalSample_of_jump (hN : 0 ≤ b.noiseBand ch) (hNJ : b.noiseBand ch ≤ b.jumpLimit ch)
    (hout : b.jumpLimit ch < s - f ∨ s - f < -b.jumpLimit ch) : c.normalSample b ch f s = c.reject := by
  have hnoise := not_natAbs_le_noiseBand (s := s) (f := f) hN (by omega)
  have hjump : ¬ (s - f).natAbs ≤ (b.jumpLimit ch).toNat := by
    rw [natAbs_le_toNat_iff (Int.le_trans hN hNJ)]
    omega
  simp [ChannelRec.normalSample, hnoise, hjump]

end

/-! ## What each rule makes of the record -/

theorem ChannelRec.reject_eq (c : ChannelRec) :
    c.reject = if c.spikes < 3 then { c with spikes := c.spikes + 1 } else c.fault := by
  simp only [ChannelRec.reject, Nat.succ_lt_succ_iff]

/-- R119: the bucket takes the difference; f moves by 1 where the bucket reaches the update threshold on either side. -/
theorem ChannelRec.noise_eq (c : ChannelRec) (f d u : Int) :
    c.noise f d u =
      if u ≤ c.bucket + d then { c with filtered := some (f + 1), bucket := 0, run := 0, runSign := .none, spikes := 0 }
      else if c.bucket + d ≤ -u then
        { c with filtered := some (f - 1), bucket := 0, run := 0, runSign := .none, spikes := 0 }
      else { c with bucket := c.bucket + d, run := 0, runSign := .none, spikes := 0 } := rfl

/-- The side of f on which a sample of band 2 lies (R120). -/
def runSignOf (d : Int) : RunSign := if 0 < d then .up else .down

/-- The length of the run that a sample of band 2 continues or begins (R120). -/
def ChannelRec.runWith (c : ChannelRec) (d : Int) : Nat := if c.runSign = runSignOf d then c.run + 1 else 1

theorem ChannelRec.change_eq (c : ChannelRec) (s d : Int) (need : Nat) :
    c.change s d need =
      if need ≤ c.runWith d then { c with filtered := some s, bucket := 0, run := 0, runSign := .none, spikes := 0 }
      else { c with run := c.runWith d, runSign := runSignOf d, spikes := 0 } := by
  have hrun : (if c.runSign == runSignOf d then c.run + 1 else 1) = c.runWith d := by
    simp only [ChannelRec.runWith, beq_iff_eq]
  rw [← hrun]
  rfl

/-- The number of steady samples that a sample of a FAULTED channel reaches, with noise band N (R122). -/
def ChannelRec.steadyWith (c : ChannelRec) (N s : Int) : Nat :=
  match c.reference with
  | none => 1
  | some r => if -N ≤ s - r ∧ s - r ≤ N then c.recovery + 1 else 1

theorem ChannelRec.recoverySample_eq (c : ChannelRec) {N : Int} (hN : 0 ≤ N) (s : Int) :
    c.recoverySample N.toNat s =
      if 4 ≤ c.steadyWith N s then { c.settleAt s with recovery := 0, reference := none }
      else { c with recovery := c.steadyWith N s, reference := some s } := by
  cases href : c.reference with
  | none => simp [ChannelRec.recoverySample, ChannelRec.steadyWith, href]
  | some r => simp only [ChannelRec.recoverySample, ChannelRec.steadyWith, href, natAbs_le_toNat_iff hN]

/-! ## The thresholds (R123) -/

theorem ChannelRec.evaluate_of_normal {c : ChannelRec} (b : BootImage) (ch : Nat) (h : c.status = .normal) {f : Int}
    (hf : c.filtered = some f) :
    c.evaluate b ch =
      { c with warn := flagAfter c.warn (b.warnThreshold ch) (b.hysteresis ch) f,
               critical := flagAfter c.critical (b.criticalThreshold ch) (b.hysteresis ch) f } := by
  simp [ChannelRec.evaluate, h, hf]

theorem ChannelRec.evaluate_of_not_normal {c : ChannelRec} (b : BootImage) (ch : Nat) (h : c.status ≠ .normal) :
    c.evaluate b ch = c := by
  cases hstatus : c.status with
  | normal => exact absurd hstatus h
  | unset | faulted => simp [ChannelRec.evaluate, hstatus]

/-- The threshold level names the highest flag that is set. -/
theorem ChannelRec.level_eq_iff (c : ChannelRec) :
    (c.level = .critical ↔ c.critical = true) ∧ (c.level = .warn ↔ c.critical = false ∧ c.warn = true) ∧
    (c.level = .clear ↔ c.critical = false ∧ c.warn = false) := by
  cases hcritical : c.critical with
  | true => simp [ChannelRec.level, hcritical]
  | false => cases hwarn : c.warn <;> simp [ChannelRec.level, hcritical, hwarn]

/-- Settles O35: the status and the band say which rule takes the sample, and each rule's equation has one branch for
each case of the statement. -/
theorem filterBandsAndThresholds : Obligations.FilterBandsAndThresholds := by
  refine ⟨fun c b ch s => ⟨?_, ?_, ?_, ?_, ?_⟩, fun c b ch f s hnormal hf => ⟨?_, ?_, ?_, ?_⟩⟩
  · exact fun hunset => c.filter_of_unset b ch hunset s
  · intro hstatus
    rw [ChannelRec.filter_none_of_not_faulted b ch hstatus, ChannelRec.reject_eq]
    rfl
  · intro f hnormal hf hN hNJ hjump
    rw [ChannelRec.filter_of_normal b ch hnormal hf, c.normalSample_of_jump hN hNJ hjump, ChannelRec.reject_eq]
    rfl
  · exact ChannelRec.filter_none_of_faulted b ch
  · intro hfaulted hN
    rw [ChannelRec.filter_of_faulted b ch hfaulted, c.recoverySample_eq hN]
    exact ⟨fun hfew => if_neg (Nat.not_le_of_gt hfew), fun hfour => if_pos hfour⟩
  · intro hlow hhigh
    rw [ChannelRec.filter_of_normal b ch hnormal hf, c.normalSample_of_noise hlow hhigh, ChannelRec.noise_eq]
    refine ⟨fun hup => if_pos hup, fun hup hdown => ?_, fun hup hdown => ?_⟩
    · rw [if_neg (Int.not_le.mpr hup), if_pos hdown]
    · rw [if_neg (Int.not_le.mpr hup), if_neg (Int.not_le.mpr hdown)]
  · intro hN hout hlow hhigh
    rw [ChannelRec.filter_of_normal b ch hnormal hf, c.normalSample_of_change hN hout hlow hhigh, ChannelRec.change_eq]
    exact ⟨fun hlong => if_pos hlong, fun hshort => if_neg (Nat.not_le_of_gt hshort)⟩
  · rw [ChannelRec.evaluate_of_normal b ch hnormal hf]
    exact ⟨rfl, rfl⟩
  · obtain ⟨hcritical, hwarn, hclear⟩ := c.level_eq_iff
    exact ⟨hcritical, hwarn, hclear, fun e => ChannelRec.evaluate_of_not_normal b ch⟩

end Sys2Proof.Machine
end

section
/-! PROOFS. A conversion completion (R117): the code, the converted value, and the records of the other channels. -/

namespace Sys2Proof.Machine

/-! ## Conversion -/

theorem clampInt_eq {lo hi : Int} (h : lo ≤ hi) (x : Int) : clampInt lo hi x = max lo (min hi x) := by
  unfold clampInt
  split
  · omega
  · split <;> omega

theorem convert_eq (b : BootImage) (ch raw : Nat) :
    convert b ch raw =
      if b.channelKind ch = 0 then
        max (-32768) (min 32767 (((raw * b.gain ch / 4096 : Nat) : Int) + b.offset ch))
      else max 0 (min 32767 (((raw * b.gain ch / 4096 : Nat) : Int) + b.offset ch)) := by
  simp only [convert, beq_iff_eq, clampInt_eq (show (-32768 : Int) ≤ 32767 by decide),
    clampInt_eq (show (0 : Int) ≤ 32767 by decide)]

/-- A code has 12 bits, so the only code above 4094 is 4095. -/
theorem validCode_toNat (raw : BitVec 12) :
    validCode raw.toNat = (decide (1 ≤ raw.toNat) && decide (raw.toNat ≤ 4094)) := by
  have hlt := raw.isLt
  rw [Bool.eq_iff_iff]
  simp only [validCode, Bool.and_eq_true, bne_iff_ne, decide_eq_true_eq]
  omega

/-! ## Raw and value of a record -/

/-- The two fields that a completion writes itself; the filter and the thresholds write the others. -/
def ChannelRec.reading (c : ChannelRec) : Nat × Int := (c.raw, c.value)

theorem ChannelRec.reject_reading (c : ChannelRec) : c.reject.reading = c.reading := by
  unfold ChannelRec.reject
  split <;> rfl

theorem ChannelRec.noise_reading (c : ChannelRec) (f d u : Int) : (c.noise f d u).reading = c.reading := by
  rw [ChannelRec.noise_eq]
  split
  · rfl
  · split <;> rfl

theorem ChannelRec.change_reading (c : ChannelRec) (s d : Int) (need : Nat) :
    (c.change s d need).reading = c.reading := by
  rw [ChannelRec.change_eq]
  split <;> rfl

theorem ChannelRec.normalSample_reading (c : ChannelRec) (b : BootImage) (ch : Nat) (f s : Int) :
    (c.normalSample b ch f s).reading = c.reading := by
  simp only [ChannelRec.normalSample]
  split
  · exact c.noise_reading ..
  · split
    · exact c.change_reading ..
    · exact c.reject_reading

theorem ChannelRec.recoverySample_reading (c : ChannelRec) (n : Nat) (s : Int) :
    (c.recoverySample n s).reading = c.reading := by
  rw [← Int.toNat_natCast n, c.recoverySample_eq (Int.natCast_nonneg n)]
  split <;> rfl

theorem ChannelRec.filter_reading (c : ChannelRec) (b : BootImage) (ch : Nat) (sample : Option Int) :
    (c.filter b ch sample).reading = c.reading := by
  unfold ChannelRec.filter
  split
  · rfl
  · exact c.reject_reading
  · split
    · exact c.normalSample_reading ..
    · rfl
  · exact c.reject_reading
  · exact c.recoverySample_reading ..
  · rfl

theorem ChannelRec.evaluate_reading (c : ChannelRec) (b : BootImage) (ch : Nat) :
    (c.evaluate b ch).reading = c.reading := by
  unfold ChannelRec.evaluate
  split <;> rfl

/-- What a completion makes of a record: raw always, value for a valid code, then the filter and the thresholds. -/
theorem ChannelRec.complete_eq (c : ChannelRec) (b : BootImage) (ch raw : Nat) :
    c.complete b ch raw =
      (({ c with raw := raw, value := if validCode raw then convert b ch raw else c.value }).filter b ch
        (if validCode raw then some (convert b ch raw) else none)).evaluate b ch := by
  cases hvalid : validCode raw <;> simp [ChannelRec.complete, ChannelRec.record, sampleOf, hvalid]

theorem ChannelRec.complete_reading (c : ChannelRec) (b : BootImage) (ch raw : Nat) :
    (c.complete b ch raw).reading = (raw, if validCode raw then convert b ch raw else c.value) := by
  rw [ChannelRec.complete_eq, ChannelRec.evaluate_reading, ChannelRec.filter_reading]
  rfl

/-! ## The records after the command -/

theorem exec_conversionCompletion (raw : BitVec 12) (s : State) :
    exec (.conversionCompletion raw) s = .next (s.completion raw.toNat) := rfl

theorem State.completion_of_sweep {s : State} {ch : Nat} (h : s.msu.sweep = some ch) (raw : Nat) :
    s.completion raw = ((s.newEvent.completeChannel ch raw).bladeReads s).goOn ch := by
  simp [State.completion, h]

theorem State.completeChannel_channels (s : State) (ch raw : Nat) :
    (s.completeChannel ch raw).msu.channels = s.msu.channels.set ch ((s.channel ch).complete s.cfg ch raw) := rfl

theorem State.msu_of_fixed {s t : State} (h : t.fixed = s.fixed) : t.msu = s.msu := congrArg Fixed.msu h

theorem State.followCritical_msu (s : State) (before : Nat) : (s.followCritical before).msu = s.msu := by
  simp only [State.followCritical]
  split
  · rfl
  · split <;> rfl

theorem State.react_msu (s : State) (pre : Census) (points : Points) (before : State) :
    (s.react pre points before).msu = s.msu :=
  congrArg Still.msu (s.react_still pre points before)

theorem State.bladeReads_msu (s before : State) : (s.bladeReads before).msu = s.msu := by
  unfold State.bladeReads
  split
  · rw [State.react_msu, State.followCritical_msu]
  · rfl

theorem State.sweepNotice_msu (s : State) : s.sweepNotice.msu = s.msu := by
  unfold State.sweepNotice
  split
  · exact State.msu_of_fixed (s.measureOutput.evalSupply_fixed.trans s.measureOutput_fixed)
  · rfl

theorem State.startSweep_channels (s : State) : s.startSweep.msu.channels = s.msu.channels := by
  unfold State.startSweep
  split <;> rfl

theorem State.endSweep_channels (s : State) : s.endSweep.msu.channels = s.msu.channels := by
  unfold State.endSweep
  split
  · exact State.startSweep_channels _
  · rfl

theorem State.goOn_channels (s : State) (ch : Nat) : (s.goOn ch).msu.channels = s.msu.channels := by
  unfold State.goOn
  split
  · rfl
  · rw [State.endSweep_channels, State.sweepNotice_msu]

/-- A completion replaces the record of the channel in conversion; what follows it in the same command (the blade's
reaction, the sweep-end notice, the next sweep) writes no record. -/
theorem State.completion_channels {s : State} {ch : Nat} (h : s.msu.sweep = some ch) (raw : Nat) :
    (s.completion raw).msu.channels = s.msu.channels.set ch ((s.channel ch).complete s.cfg ch raw) := by
  rw [State.completion_of_sweep h, State.goOn_channels, State.bladeReads_msu, State.completeChannel_channels]
  rfl

theorem State.completion_channel_self {s : State} {ch : Nat} (h : s.msu.sweep = some ch)
    (hch : ch < s.msu.channels.length) (raw : Nat) :
    (s.completion raw).channel ch = (s.channel ch).complete s.cfg ch raw := by
  simp [State.channel, Msu.channel, State.completion_channels h, hch]

theorem State.completion_channel_other {s : State} {ch k : Nat} (h : s.msu.sweep = some ch) (hk : k ≠ ch) (raw : Nat) :
    (s.completion raw).channel k = s.channel k := by
  simp [State.channel, Msu.channel, State.completion_channels h, Ne.symm hk]

/-- Settles O34: the completion sets the record of the channel in conversion to `ChannelRec.complete` of the old one,
whose raw and value fields neither the filter nor the thresholds touch. -/
theorem conversionRecordsItsCode : Obligations.ConversionRecordsItsCode := by
  intro raw s ch hshaped hsweep hch v w valid
  have hw : convert s.cfg ch raw.toNat = w := convert_eq s.cfg ch raw.toNat
  have hvalid : validCode raw.toNat = valid := validCode_toNat raw
  obtain ⟨-, -, hchannels, -, -⟩ := hshaped
  have hlen : ch < s.msu.channels.length := hchannels ▸ hch
  have hself := State.completion_channel_self hsweep hlen raw.toNat
  have hreading := (s.channel ch).complete_reading s.cfg ch raw.toNat
  rw [← hself, hvalid, hw] at hreading
  obtain ⟨hraw, hvalue⟩ := Prod.mk.inj hreading
  rw [ChannelRec.complete_eq, hvalid, hw] at hself
  exact ⟨_, exec_conversionCompletion raw s, hraw, hvalue, hself,
    fun k hk => State.completion_channel_other hsweep hk raw.toNat⟩

end Sys2Proof.Machine
end

section
/-! PROOFS. The demand of a demand channel (R127). -/

namespace Sys2Proof.Machine

/-! ## The rounded up quotient -/

/-- The rounded up quotient `q` of `a` by `b` is the number with `a ≤ q * b < a + b`. -/
theorem ceilDiv_mul_bounds {b : Nat} (hb : 0 < b) (a : Nat) : a ≤ ceilDiv a b * b ∧ ceilDiv a b * b < a + b := by
  have hdecomp : ceilDiv a b * b + (a + (b - 1)) % b = a + (b - 1) := Nat.div_add_mod' (a + (b - 1)) b
  have hrest : (a + (b - 1)) % b < b := Nat.mod_lt _ hb
  omega

/-! ## Status and margin (R127) -/

section
variable {c : ChannelRec} {b : BootImage} {ch : Nat}

theorem ChannelRec.demand_of_unset (h : c.status = .unset) : c.demand b ch = 0 := by
  simp [ChannelRec.demand, h]

theorem ChannelRec.demand_of_faulted (h : c.status = .faulted) : c.demand b ch = 255 := by
  simp [ChannelRec.demand, h]

variable {f : Int}

theorem ChannelRec.demand_of_span_le (h : c.status = .normal) (hf : c.filtered = some f)
    (hspan : (b.demandSpan ch : Int) ≤ b.demandLimit ch - f) : c.demand b ch = 0 := by
  simp [ChannelRec.demand, h, hf, hspan]

theorem ChannelRec.demand_of_margin_nonpos (h : c.status = .normal) (hf : c.filtered = some f)
    (hm : b.demandLimit ch - f ≤ 0) (hspan : (0 : Int) < b.demandSpan ch) : c.demand b ch = 255 := by
  have hlt : ¬ (b.demandSpan ch : Int) ≤ b.demandLimit ch - f := by omega
  simp only [ChannelRec.demand, h, hf, if_neg hlt, if_pos hm]

theorem ChannelRec.demand_of_margin_between (h : c.status = .normal) (hf : c.filtered = some f)
    (hpos : 0 < b.demandLimit ch - f) (hlt : b.demandLimit ch - f < b.demandSpan ch) :
    c.demand b ch = ceilDiv (255 * (b.demandSpan ch - (b.demandLimit ch - f).toNat)) (b.demandSpan ch) := by
  simp only [ChannelRec.demand, h, hf, if_neg (Int.not_le.mpr hlt), if_neg (Int.not_le.mpr hpos)]

/-- Between 0 and the span the model's margin, a natural number, is the integer of the rule, and so is the difference. -/
theorem ChannelRec.demand_mul_span_bounds (h : c.status = .normal) (hf : c.filtered = some f)
    (hpos : 0 < b.demandLimit ch - f) (hlt : b.demandLimit ch - f < b.demandSpan ch) :
    255 * (b.demandSpan ch - (b.demandLimit ch - f)) ≤ (c.demand b ch : Int) * b.demandSpan ch ∧
      (c.demand b ch : Int) * b.demandSpan ch
        < 255 * (b.demandSpan ch - (b.demandLimit ch - f)) + b.demandSpan ch := by
  have hspan : 0 < b.demandSpan ch := by omega
  obtain ⟨hlow, hhigh⟩ := ceilDiv_mul_bounds hspan (255 * (b.demandSpan ch - (b.demandLimit ch - f).toNat))
  rw [← ChannelRec.demand_of_margin_between h hf hpos hlt] at hlow hhigh
  rw [← Int.natCast_mul]
  omega

end

/-! ## Which channels have a demand (section 7.1) -/

theorem BootImage.flag_eq_true_iff (b : BootImage) (f i : Nat) : b.flag f i = true ↔ 1 ≤ b.get f i :=
  decide_eq_true_iff

theorem BootImage.isDemand_iff (b : BootImage) (ch : Nat) : b.isDemand ch = true ↔ 1 ≤ b.get 21 ch ∧ 1 ≤ b.get 32 ch := by
  simp only [BootImage.isDemand, BootImage.enabled, Bool.and_eq_true, BootImage.flag_eq_true_iff]

/-- Settles O36: one case per status, and for a NORMAL channel one per band of the margin; the middle band is the
rounded up quotient, read through its two bounds. -/
theorem channelDemandByMargin : Obligations.ChannelDemandByMargin := by
  intro c b ch
  refine ⟨ChannelRec.demand_of_unset, ChannelRec.demand_of_faulted, fun f hnormal hf => ⟨?span, ?limit, ?between⟩,
    b.isDemand_iff ch⟩
  case span => exact ChannelRec.demand_of_span_le hnormal hf
  case limit => exact ChannelRec.demand_of_margin_nonpos hnormal hf
  case between => exact ChannelRec.demand_mul_span_bounds hnormal hf

end Sys2Proof.Machine
end

section
/-! PROOFS. The drive outputs of the fan channels and the levels at their PWM pins (R143). -/

namespace Sys2Proof.Machine

/-! ## The drive output -/

/-- With the counter running, an output is active on a channel in force whose own position is below its shadow compare. -/
theorem Fdu.pwmActive_iff {f : Fdu} {c : Nat} (h : f.counter = some c) (k : Nat) :
    f.pwmActive k = true ↔
      k < f.count ∧ (c + pwmOffset k f.top f.count) % (f.top + 1) < (f.channel k).shadow := by
  simp only [Fdu.pwmActive, h, Bool.and_eq_true, decide_eq_true_eq]

theorem Fdu.pwmActive_of_count_le {f : Fdu} {c k : Nat} (h : f.counter = some c) (hk : f.count ≤ k) :
    f.pwmActive k = false := by
  rw [← Bool.not_eq_true, Fdu.pwmActive_iff h]
  exact fun hactive => absurd hactive.1 (Nat.not_lt.mpr hk)

/-! ## The level at the pin -/

theorem Fdu.pwmPin_of_activeHigh {f : Fdu} {k : Nat} (h : f.activeLow.getD k false = false) :
    f.pwmPin k = f.pwmActive k := by
  rw [Fdu.pwmPin, h, Bool.bne_false]

theorem Fdu.pwmPin_of_activeLow {f : Fdu} {k : Nat} (h : f.activeLow.getD k false = true) :
    f.pwmPin k = !f.pwmActive k := by
  rw [Fdu.pwmPin, h, Bool.bne_true]

/-- Settles O44: the drive output by whether the channel is in force, the pin by its polarity. -/
theorem pwmOutputsSpreadOverThePeriod : Obligations.PwmOutputsSpreadOverThePeriod := by
  intro f k c hcounter
  refine ⟨fun hk => ?inForce, Fdu.pwmActive_of_count_le hcounter, Fdu.pwmPin_of_activeHigh, Fdu.pwmPin_of_activeLow⟩
  case inForce => exact (Fdu.pwmActive_iff hcounter k).trans (and_iff_right hk)

end Sys2Proof.Machine
end

section
/-! PROOFS. The blink phase, the indicator bits and the outputs that take them (R189). -/

namespace Sys2Proof.Machine

/-! ## The blink phase -/

theorem exec_blinkPhaseChange (s : State) :
    exec .blinkPhaseChange s = .next { s with
      lnu := { s.lnu with blinkSecond := !s.lnu.blinkSecond, blinkTimer := some 500 } } := rfl

/-- A starting station is in the first phase, with the whole of it to run. -/
theorem State.LifeStarts.firstPhase {t : State} {straps : Straps} (h : t.LifeStarts straps) :
    t.lnu.blinkSecond = false ∧ t.lnu.blinkTimer = some 500 := by
  rw [h.lines]
  exact ⟨rfl, rfl⟩

/-! ## The indicator bits -/

theorem State.indicatorBit_eq (s : State) (j : Nat) :
    s.indicatorBit j = ((s.cfg.nat 53 s.indicatorCode).testBit j !=
      ((s.cfg.nat 54 s.indicatorCode).testBit j && s.lnu.blinkSecond)) := rfl

section
variable {s : State} {j : Nat}

theorem State.indicatorBit_of_steady (hmask : (s.cfg.nat 54 s.indicatorCode).testBit j = false) :
    s.indicatorBit j = (s.cfg.nat 53 s.indicatorCode).testBit j := by
  rw [State.indicatorBit_eq, hmask, Bool.false_and, Bool.bne_false]

theorem State.indicatorBit_of_firstPhase (hphase : s.lnu.blinkSecond = false) :
    s.indicatorBit j = (s.cfg.nat 53 s.indicatorCode).testBit j := by
  rw [State.indicatorBit_eq, hphase, Bool.and_false, Bool.bne_false]

theorem State.indicatorBit_of_blinking_secondPhase (hmask : (s.cfg.nat 54 s.indicatorCode).testBit j = true)
    (hphase : s.lnu.blinkSecond = true) : s.indicatorBit j = !(s.cfg.nat 53 s.indicatorCode).testBit j := by
  rw [State.indicatorBit_eq, hmask, hphase, Bool.true_and, Bool.bne_true]

/-! ## The outputs that take them (R186) -/

/-- The indicator bits take the sources 6 to 13, after those of the combiners. -/
theorem State.source_indicator (hj : j < 8) : s.source (j + 6) = s.indicatorBit j := by
  have hcombiner : ¬ j + 6 ≤ 5 := by omega
  have hindicator : j + 6 ≤ 13 := by omega
  simp [State.source, hcombiner, hindicator]

end

/-- Settles O45: a reset starts the Line Unit afresh, and an indicator bit is inverted where its mask bit and the second
phase meet. -/
theorem indicatorFollowsItsTable : Obligations.IndicatorFollowsItsTable := by
  refine ⟨exec_blinkPhaseChange, fun i straps s h => ?reset, fun s j hj => State.source_indicator hj,
    fun s j => ⟨State.indicatorBit_of_steady, fun _ => State.indicatorBit_of_firstPhase,
      State.indicatorBit_of_blinking_secondPhase⟩⟩
  case reset =>
    obtain ⟨t, hexec, hstarts⟩ := exec_lifeStarts_of_restarts h
    exact ⟨t, hexec, hstarts.firstPhase⟩

end Sys2Proof.Machine
end


section
/-! PROOFS. What the operations on the census make of its entries: the role parts and what the rest of an entry keeps,
the owners of lanes, held levels and claims after lanes are freed, levels set and entries vacated. -/

namespace Sys2Proof.Machine

/-! ## What an entry's role part shows -/

/-- An entry that shows this role part and nothing else. -/
def RolePart.view (p : RolePart) : Entry := { Entry.vacant with part := p }

section
variable (state : EntryState) (station : Option PeerState) (policy : Option Policy) (priority held : Nat)
  (claim shed : Option Nat) (part : RolePart) (identity : Option Identity) (silence staleHold quiet : Timer)
  (mismatch : Bool) (e : Entry) (k : Nat)

@[simp] theorem Entry.mk_blade : (Entry.mk state station policy priority held claim shed part identity silence
    staleHold quiet mismatch).blade = part.view.blade := rfl
@[simp] theorem Entry.mk_uplink : (Entry.mk state station policy priority held claim shed part identity silence
    staleHold quiet mismatch).uplink = part.view.uplink := rfl
@[simp] theorem Entry.mk_laneClaim : (Entry.mk state station policy priority held claim shed part identity silence
    staleHold quiet mismatch).laneClaim = part.view.laneClaim := rfl
@[simp] theorem Entry.mk_offer : (Entry.mk state station policy priority held claim shed part identity silence
    staleHold quiet mismatch).offer = part.view.offer := rfl
@[simp] theorem RolePart.view_blade : e.part.view.blade = e.blade := rfl
@[simp] theorem RolePart.view_uplink : e.part.view.uplink = e.uplink := rfl
@[simp] theorem RolePart.view_laneClaim : e.part.view.laneClaim = e.laneClaim := rfl
@[simp] theorem RolePart.view_offer : e.part.view.offer = e.offer := rfl

end

/-! ## Changing the role part of an entry -/

/-- An entry without its role part: what a change of the role part leaves. -/
def Entry.bare (e : Entry) : Entry := { e with part := .unknown }

section
variable (e : Entry)

theorem Entry.updBlade_bare (f : BladePart → BladePart) : (e.updBlade f).bare = e.bare := by
  unfold Entry.updBlade; split <;> rfl

theorem Entry.updFan_bare (f : FanPart → FanPart) : (e.updFan f).bare = e.bare := by
  unfold Entry.updFan; split <;> rfl

theorem Entry.updSupply_bare (f : SupplyPart → SupplyPart) : (e.updSupply f).bare = e.bare := by
  unfold Entry.updSupply; split <;> rfl

theorem Entry.updUplink_bare (f : UplinkPart → UplinkPart) : (e.updUplink f).bare = e.bare := by
  unfold Entry.updUplink; split <;> rfl

theorem Entry.held_of_bare {e e' : Entry} (h : e'.bare = e.bare) : e'.held = e.held := by
  simpa [Entry.bare] using congrArg Entry.held h
theorem Entry.claim_of_bare {e e' : Entry} (h : e'.bare = e.bare) : e'.claim = e.claim := by
  simpa [Entry.bare] using congrArg Entry.claim h

@[simp] theorem Entry.updBlade_held (f : BladePart → BladePart) : (e.updBlade f).held = e.held :=
  Entry.held_of_bare (e.updBlade_bare f)
@[simp] theorem Entry.updUplink_held (f : UplinkPart → UplinkPart) : (e.updUplink f).held = e.held :=
  Entry.held_of_bare (e.updUplink_bare f)
@[simp] theorem Entry.updBlade_claim (f : BladePart → BladePart) : (e.updBlade f).claim = e.claim :=
  Entry.claim_of_bare (e.updBlade_bare f)
@[simp] theorem Entry.updUplink_claim (f : UplinkPart → UplinkPart) : (e.updUplink f).claim = e.claim :=
  Entry.claim_of_bare (e.updUplink_bare f)

@[simp] theorem Entry.updBlade_blade (f : BladePart → BladePart) : (e.updBlade f).blade = e.blade.map f := by
  cases h : e.part <;> simp [Entry.updBlade, Entry.blade, h]

@[simp] theorem Entry.updBlade_uplink (f : BladePart → BladePart) : (e.updBlade f).uplink = e.uplink := by
  cases h : e.part <;> simp [Entry.updBlade, Entry.uplink, h]

@[simp] theorem Entry.updUplink_blade (f : UplinkPart → UplinkPart) : (e.updUplink f).blade = e.blade := by
  cases h : e.part <;> simp [Entry.updUplink, Entry.blade, h]

@[simp] theorem Entry.updUplink_uplink (f : UplinkPart → UplinkPart) : (e.updUplink f).uplink = e.uplink.map f := by
  cases h : e.part <;> simp [Entry.updUplink, Entry.uplink, h]

end

/-! ## The owners of an entry's lanes -/

/-- The owner of lane k of an entry. -/
def Entry.owner (e : Entry) (k : Nat) : Option Addr := e.table.getD k none

@[simp] theorem Entry.mk_owner (state : EntryState) (station : Option PeerState) (policy : Option Policy)
    (priority held : Nat) (claim shed : Option Nat) (part : RolePart) (identity : Option Identity)
    (silence staleHold quiet : Timer) (mismatch : Bool) (k : Nat) :
    (Entry.mk state station policy priority held claim shed part identity silence staleHold quiet mismatch).owner k =
      part.view.owner k := rfl
@[simp] theorem RolePart.view_owner (e : Entry) (k : Nat) : e.part.view.owner k = e.owner k := rfl

theorem Entry.offer_congr {e e' : Entry} (h : e'.uplink = e.uplink) : e'.offer = e.offer := by
  simp only [Entry.offer, h]

theorem Entry.table_congr {e e' : Entry} (h : e'.uplink = e.uplink) : e'.table = e.table := by
  simp only [Entry.table, h]

theorem Entry.owner_congr {e e' : Entry} (h : e'.uplink = e.uplink) (k : Nat) : e'.owner k = e.owner k := by
  simp only [Entry.owner, Entry.table_congr h]

theorem Entry.laneClaim_congr {e e' : Entry} (h : e'.blade = e.blade) : e'.laneClaim = e.laneClaim := by
  simp only [Entry.laneClaim, h]

@[simp] theorem Entry.updBlade_offer (e : Entry) (f : BladePart → BladePart) : (e.updBlade f).offer = e.offer :=
  Entry.offer_congr (e.updBlade_uplink f)

@[simp] theorem Entry.updBlade_owner (e : Entry) (f : BladePart → BladePart) (k : Nat) :
    (e.updBlade f).owner k = e.owner k :=
  Entry.owner_congr (e.updBlade_uplink f) k

@[simp] theorem Entry.updUplink_laneClaim (e : Entry) (f : UplinkPart → UplinkPart) :
    (e.updUplink f).laneClaim = e.laneClaim :=
  Entry.laneClaim_congr (e.updUplink_blade f)

/-- A table without a station's lanes. -/
theorem freeSlots_getD (a : Addr) (t : List (Option Addr)) (k : Nat) :
    (freeSlots a t).getD k none = if t.getD k none = some a then none else t.getD k none := by
  by_cases hk : k < t.length
  · simp [freeSlots, List.getD_eq_getElem?_getD, hk]
  · simp [freeSlots, List.getD_eq_getElem?_getD, hk]

theorem freeSlots_length (a : Addr) (t : List (Option Addr)) : (freeSlots a t).length = t.length := by
  simp [freeSlots]

/-- The table of an uplink without a station's lanes, as an entry. -/
def Entry.freeing (e : Entry) (a : Addr) : Entry := e.updUplink (fun p => { p with table := freeSlots a p.table })

section
variable (e : Entry) (a : Addr)

theorem Entry.freeing_bare : (e.freeing a).bare = e.bare := e.updUplink_bare _
@[simp] theorem Entry.freeing_held : (e.freeing a).held = e.held := e.updUplink_held _
@[simp] theorem Entry.freeing_claim : (e.freeing a).claim = e.claim := e.updUplink_claim _
@[simp] theorem Entry.freeing_blade : (e.freeing a).blade = e.blade := e.updUplink_blade _
@[simp] theorem Entry.freeing_laneClaim : (e.freeing a).laneClaim = e.laneClaim := e.updUplink_laneClaim _

@[simp] theorem Entry.freeing_offer : (e.freeing a).offer = e.offer := by
  cases h : e.uplink <;> simp [Entry.freeing, Entry.offer, h]

@[simp] theorem Entry.freeing_uplink_isSome : (e.freeing a).uplink.isSome = e.uplink.isSome := by
  simp [Entry.freeing]

theorem Entry.freeing_table : (e.freeing a).table = freeSlots a e.table := by
  cases h : e.uplink <;> simp [Entry.freeing, Entry.table, h, freeSlots]

@[simp] theorem Entry.freeing_owner (k : Nat) :
    (e.freeing a).owner k = if e.owner k = some a then none else e.owner k := by
  unfold Entry.owner
  rw [Entry.freeing_table, freeSlots_getD]

theorem Entry.freeing_eq_self {e : Entry} {a : Addr} (h : ∀ k, e.owner k ≠ some a) : e.freeing a = e := by
  have ht : ∀ p, e.uplink = some p → freeSlots a p.table = p.table := by
    intro p hp
    refine List.ext_getElem (freeSlots_length a p.table) fun k h1 h2 => ?_
    have hk := h k
    simp only [Entry.owner, Entry.table, hp, List.getD_eq_getElem?_getD, List.getElem?_eq_getElem h2,
      Option.getD_some] at hk
    simp [freeSlots, hk]
  cases e with | mk => rename_i part _ _ _ _ _; cases part with
    | uplink p => have := ht p rfl; simp [Entry.freeing, Entry.updUplink, this]
    | unknown | blade | fan | supply => rfl

theorem Entry.freeing_idem : (e.freeing a).freeing a = e.freeing a :=
  Entry.freeing_eq_self fun k => by rw [Entry.freeing_owner]; split <;> simp_all

end

@[simp] theorem Entry.withoutLaneClaim_held (e : Entry) : e.withoutLaneClaim.held = e.held := e.updBlade_held _
@[simp] theorem Entry.withoutLaneClaim_claim (e : Entry) : e.withoutLaneClaim.claim = e.claim := e.updBlade_claim _
@[simp] theorem Entry.withoutLaneClaim_offer (e : Entry) : e.withoutLaneClaim.offer = e.offer := e.updBlade_offer _
@[simp] theorem Entry.withoutLaneClaim_uplink (e : Entry) : e.withoutLaneClaim.uplink = e.uplink := e.updBlade_uplink _
@[simp] theorem Entry.withoutLaneClaim_owner (e : Entry) (k : Nat) : e.withoutLaneClaim.owner k = e.owner k :=
  e.updBlade_owner _ k
@[simp] theorem Entry.withoutLaneClaim_laneClaim (e : Entry) : e.withoutLaneClaim.laneClaim = none := by
  cases h : e.blade <;> simp [Entry.withoutLaneClaim, Entry.laneClaim, h]

/-- The lanes that a station owns are those whose slots name it. -/
theorem Entry.mem_lanesOf (e : Entry) (a : Addr) (k : Nat) :
    k ∈ e.lanesOf a ↔ k < Config.lanes ∧ e.owner k = some a := by
  simp [Entry.lanesOf, Entry.owner]

/-! ## Entries after an update -/

abbrev Census.sized (c : Census) : Prop := c.entries.length = Config.stations

theorem Census.get_upd {c : Census} (h : c.sized) (a b : Addr) (f : Entry → Entry) :
    (c.upd a f).get b = if b = a then f (c.get b) else c.get b := by
  split
  case isTrue hb => rw [hb, Census.get_upd_self h]
  case isFalse hb => exact Census.get_upd_other c f hb

theorem Census.get_congr {c c' : Census} (h : c'.entries = c.entries) (a : Addr) : c'.get a = c.get a := by
  simp only [Census.get, h]

theorem Census.upd_sized {c : Census} (a : Addr) (f : Entry → Entry) (h : c.sized) : (c.upd a f).sized :=
  (c.upd_length a f).trans h

theorem Census.get_mem {c : Census} (h : c.sized) (a : Addr) : c.get a ∈ c.entries := by
  have ha : a.toNat < c.entries.length := by rw [h]; exact a.isLt
  simp [Census.get, List.getD_eq_getElem?_getD, List.getElem?_eq_getElem ha]

theorem Census.exists_get_of_mem {c : Census} (h : c.sized) {e : Entry} (he : e ∈ c.entries) :
    ∃ a : Addr, c.get a = e := by
  obtain ⟨n, hn, rfl⟩ := List.getElem_of_mem he
  have hlt : n < 32 := by rw [h] at hn; exact hn
  refine ⟨addrOf n, ?_⟩
  have hto : (addrOf n).toNat = n := by simp [addrOf, BitVec.toNat_ofNat]; omega
  simp [Census.get, hto, List.getD_eq_getElem?_getD, List.getElem?_eq_getElem hn]

theorem mem_allAddrs (a : Addr) : a ∈ allAddrs := by
  simp only [allAddrs, List.mem_map, List.mem_range]
  exact ⟨a.toNat, a.isLt, by simp [addrOf]⟩

end Sys2Proof.Machine
end

section
/-! PROOFS. The operations on lanes and held levels (R30, R81, R167 to R171), entry by entry. -/

namespace Sys2Proof.Machine

/-! ## A census of the part's sizes -/

/-- The lane table of an uplink entry has its eight slots. -/
def Entry.tableOk (e : Entry) : Prop := ∀ p, e.uplink = some p → p.table.length = Config.lanes

theorem Entry.tableOk_congr {e e' : Entry} (h : e'.uplink = e.uplink) (he : e.tableOk) : e'.tableOk := by
  unfold Entry.tableOk; rwa [h]

theorem Entry.tableOk_updUplink {e : Entry} {f : UplinkPart → UplinkPart}
    (hf : ∀ p, p.table.length = Config.lanes → (f p).table.length = Config.lanes) (he : e.tableOk) :
    (e.updUplink f).tableOk := by
  intro q hq
  rw [Entry.updUplink_uplink, Option.map_eq_some_iff] at hq
  obtain ⟨p, hp, rfl⟩ := hq
  exact hf p (he p hp)

theorem Entry.tableOk_of_part {e e' : Entry} (h : e'.part = e.part) (he : e.tableOk) : e'.tableOk :=
  Entry.tableOk_congr (by simp only [Entry.uplink, h]) he

theorem Entry.freeing_tableOk {e : Entry} (a : Addr) (he : e.tableOk) : (e.freeing a).tableOk :=
  Entry.tableOk_updUplink (fun p hp => (freeSlots_length a p.table).trans hp) he

theorem Entry.vacant_tableOk : Entry.vacant.tableOk := by intro p hp; simp [Entry.uplink, Entry.vacant] at hp

theorem Entry.tableOk_iff (e : Entry) : e.tableOk ↔ (e.role = some .uplink → e.table.length = Config.lanes) := by
  cases h : e.part <;> simp [Entry.tableOk, Entry.role, Entry.uplink, Entry.table, h]

/-- A lane number of eight slots. -/
theorem Entry.owner_lt {e : Entry} (he : e.tableOk) {k : Nat} {a : Addr} (h : e.owner k = some a) : k < Config.lanes := by
  cases hu : e.uplink with
  | none => simp [Entry.owner, Entry.table, hu] at h
  | some p =>
    refine Classical.byContradiction fun hk => ?_
    have hlen : p.table.length ≤ k := by rw [he p hu]; omega
    simp [Entry.owner, Entry.table, hu, List.getD_eq_getElem?_getD, List.getElem?_eq_none hlen] at h

structure Census.Shaped (c : Census) : Prop where
  sized : c.sized
  tables : ∀ a, (c.get a).tableOk

theorem Census.Shaped.get_upd {c : Census} (h : c.Shaped) (a b : Addr) (f : Entry → Entry) :
    (c.upd a f).get b = if b = a then f (c.get b) else c.get b := Census.get_upd h.sized a b f

theorem Census.Shaped.of_entries {c c' : Census} (h : c.Shaped) (he : c'.entries = c.entries) : c'.Shaped :=
  ⟨by rw [Census.sized, he]; exact h.sized, fun a => by rw [Census.get_congr he]; exact h.tables a⟩

theorem Census.Shaped.upd {c : Census} (h : c.Shaped) {a : Addr} {f : Entry → Entry}
    (hf : ∀ e : Entry, e.tableOk → (f e).tableOk) : (c.upd a f).Shaped := by
  refine ⟨Census.upd_sized a f h.sized, fun b => ?_⟩
  rw [h.get_upd]
  split
  · exact hf _ (h.tables b)
  · exact h.tables b

theorem Census.Shaped.updAll {c : Census} (h : c.Shaped) {f : Entry → Entry}
    (hf : ∀ e : Entry, e.tableOk → (f e).tableOk) : (c.updAll f).Shaped :=
  ⟨(c.updAll_length f).trans h.sized, fun a => by rw [Census.get_updAll f h.sized]; exact hf _ (h.tables a)⟩

theorem Census.Shaped.mark {c : Census} (h : c.Shaped) (u : Addr) : (c.mark u).Shaped := h.of_entries rfl

/-! ## Freeing lanes (R169, R170) -/

section
variable {c : Census} (h : c.Shaped)
include h

theorem Census.Shaped.get_freeOn (a u b : Addr) :
    (c.freeOn a u).get b = if b = u then (c.get b).freeing a else c.get b := by
  unfold Census.freeOn
  split
  case isTrue hempty =>
    split
    case isFalse => rfl
    case isTrue hb =>
      refine (Entry.freeing_eq_self fun k hk => ?_).symm
      have hmem : k ∈ (c.get u).lanesOf a :=
        (Entry.mem_lanesOf _ a k).mpr (hb ▸ ⟨Entry.owner_lt (h.tables b) hk, hk⟩)
      rw [List.isEmpty_iff.mp hempty] at hmem
      exact absurd hmem List.not_mem_nil
  case isFalse =>
    rw [Census.mark_get, h.get_upd]
    rfl

theorem Census.Shaped.freeOn (a u : Addr) : (c.freeOn a u).Shaped := by
  unfold Census.freeOn
  split
  · exact h
  · exact (h.upd (fun _ => Entry.freeing_tableOk a)).mark u

theorem Census.Shaped.freeOnAll (a : Addr) (us : List Addr) :
    (us.foldl (fun c u => c.freeOn a u) c).Shaped ∧
      ∀ b, (us.foldl (fun c u => c.freeOn a u) c).get b = if b ∈ us then (c.get b).freeing a else c.get b := by
  induction us generalizing c with
  | nil => exact ⟨h, fun b => by simp⟩
  | cons u us ih =>
    obtain ⟨hshaped, hget⟩ := ih (h.freeOn a u)
    refine ⟨hshaped, fun b => ?_⟩
    rw [List.foldl_cons, hget, h.get_freeOn]
    by_cases hbu : b = u <;> by_cases hb : b ∈ us <;> simp [hbu, hb, Entry.freeing_idem]

theorem Census.Shaped.freeLanes (a : Addr) : (c.freeLanes a).Shaped := (h.freeOnAll a allAddrs).1

theorem Census.Shaped.get_freeLanes (a b : Addr) : (c.freeLanes a).get b = (c.get b).freeing a := by
  unfold Census.freeLanes
  rw [(h.freeOnAll a allAddrs).2, if_pos (mem_allAddrs b)]

theorem Census.Shaped.dropLaneClaim (a : Addr) : (c.dropLaneClaim a).Shaped :=
  h.upd (fun _ => Entry.tableOk_congr (Entry.withoutLaneClaim_uplink _))

theorem Census.Shaped.get_dropLaneClaim (a b : Addr) :
    (c.dropLaneClaim a).get b = if b = a then (c.get b).withoutLaneClaim else c.get b := h.get_upd a b _

/-! ## Held levels (R80, R81) -/

theorem Census.Shaped.heldZero (a : Addr) : (c.heldZero a).Shaped := by
  unfold Census.heldZero
  exact ((h.freeLanes a).dropLaneClaim a).upd (fun _ => Entry.tableOk_of_part rfl)

theorem Census.Shaped.get_heldZero (a b : Addr) :
    (c.heldZero a).get b =
      if b = a then { ((c.get b).freeing a).withoutLaneClaim with held := 0, shed := none }
      else (c.get b).freeing a := by
  unfold Census.heldZero
  rw [((h.freeLanes a).dropLaneClaim a).get_upd, (h.freeLanes a).get_dropLaneClaim, h.get_freeLanes]
  split <;> rfl

theorem Census.Shaped.localZero (a : Addr) : (c.localZero a).Shaped := by
  unfold Census.localZero
  refine Census.Shaped.heldZero (h.upd ?_) a
  exact fun _ => Entry.tableOk_of_part rfl

theorem Census.Shaped.get_localZero (a b : Addr) :
    (c.localZero a).get b =
      if b = a then { ((c.get b).freeing a).withoutLaneClaim with held := 0, shed := none, claim := none }
      else (c.get b).freeing a := by
  have hu : (c.upd a (fun e => { e with claim := none })).Shaped := h.upd (fun _ => Entry.tableOk_of_part rfl)
  have hclaim : ∀ e : Entry, ({ e with claim := none } : Entry).freeing a = { e.freeing a with claim := none } := by
    intro e; cases e with | mk => rename_i part _ _ _ _ _; cases part <;> rfl
  have hlane : ∀ e : Entry, ({ e with claim := none } : Entry).withoutLaneClaim =
      { e.withoutLaneClaim with claim := none } := by
    intro e; cases e with | mk => rename_i part _ _ _ _ _; cases part <;> rfl
  unfold Census.localZero
  rw [hu.get_heldZero, h.get_upd]
  split
  · rw [hclaim, hlane]
  · rfl

end

end Sys2Proof.Machine
end

section
/-! PROOFS. Lane claims, offers and the freeing of an entry (R30, R168, R171), entry by entry. -/

namespace Sys2Proof.Machine

/-! ## Lane claims on an uplink (R171) -/

/-- An entry without a lane claim on uplink u. -/
def Entry.dropClaimOn (e : Entry) (u : Addr) : Entry :=
  match e.laneClaim with
  | some (v, _) => if v == u then e.withoutLaneClaim else e
  | none => e

/-- An entry whose lane claim on uplink u is lowered to the offer. -/
def Entry.limitClaimOn (e : Entry) (u : Addr) (offer : Nat) : Entry :=
  e.updBlade (fun p => match p.laneClaim with
    | some (v, n) => if v == u then { p with laneClaim := some (v, min n offer) } else p
    | none => p)

theorem Census.dropLaneClaimsOn_eq (c : Census) (u : Addr) : c.dropLaneClaimsOn u = c.updAll (fun e => e.dropClaimOn u) :=
  rfl

theorem Census.limitLaneClaimsOn_eq (c : Census) (u : Addr) (offer : Nat) :
    c.limitLaneClaimsOn u offer = c.updAll (fun e => e.limitClaimOn u offer) := rfl

theorem Entry.dropClaimOn_cases (e : Entry) (u : Addr) :
    (e.dropClaimOn u = e.withoutLaneClaim ∧ ∃ n, e.laneClaim = some (u, n)) ∨
      (e.dropClaimOn u = e ∧ ∀ n, e.laneClaim ≠ some (u, n)) := by
  unfold Entry.dropClaimOn
  split
  case h_1 v n hq =>
    by_cases hv : v = u
    · exact .inl ⟨by simp [hv], n, by rw [hq, hv]⟩
    · exact .inr ⟨by simp [hv], fun m hm => hv (by rw [hq] at hm; exact congrArg Prod.fst (Option.some.inj hm))⟩
  case h_2 hq => exact .inr ⟨rfl, fun n hn => by rw [hq] at hn; cases hn⟩

section
variable (e : Entry) (u : Addr)

@[simp] theorem Entry.dropClaimOn_held : (e.dropClaimOn u).held = e.held := by
  rcases e.dropClaimOn_cases u with ⟨h, -⟩ | ⟨h, -⟩ <;> simp [h]
@[simp] theorem Entry.dropClaimOn_claim : (e.dropClaimOn u).claim = e.claim := by
  rcases e.dropClaimOn_cases u with ⟨h, -⟩ | ⟨h, -⟩ <;> simp [h]
@[simp] theorem Entry.dropClaimOn_uplink : (e.dropClaimOn u).uplink = e.uplink := by
  rcases e.dropClaimOn_cases u with ⟨h, -⟩ | ⟨h, -⟩ <;> simp [h]
@[simp] theorem Entry.dropClaimOn_offer : (e.dropClaimOn u).offer = e.offer :=
  Entry.offer_congr (e.dropClaimOn_uplink u)
@[simp] theorem Entry.dropClaimOn_owner (k : Nat) : (e.dropClaimOn u).owner k = e.owner k :=
  Entry.owner_congr (e.dropClaimOn_uplink u) k

theorem Entry.dropClaimOn_bare : (e.dropClaimOn u).bare = e.bare := by
  rcases e.dropClaimOn_cases u with ⟨h, -⟩ | ⟨h, -⟩ <;> rw [h]
  exact e.updBlade_bare _

theorem Entry.dropClaimOn_laneClaim :
    (e.dropClaimOn u).laneClaim = e.laneClaim.filter (fun q => q.1 != u) := by
  rcases e.dropClaimOn_cases u with ⟨h, n, hn⟩ | ⟨h, hne⟩
  · simp [h, hn, Option.filter]
  · rw [h]
    cases hq : e.laneClaim with
    | none => rfl
    | some q =>
      have : q.1 ≠ u := fun hu => hne q.2 (by rw [hq, ← hu])
      simp [Option.filter, this]

variable (offer : Nat)

@[simp] theorem Entry.limitClaimOn_held : (e.limitClaimOn u offer).held = e.held := e.updBlade_held _
@[simp] theorem Entry.limitClaimOn_claim : (e.limitClaimOn u offer).claim = e.claim := e.updBlade_claim _
@[simp] theorem Entry.limitClaimOn_uplink : (e.limitClaimOn u offer).uplink = e.uplink := e.updBlade_uplink _
@[simp] theorem Entry.limitClaimOn_offer : (e.limitClaimOn u offer).offer = e.offer := e.updBlade_offer _
@[simp] theorem Entry.limitClaimOn_owner (k : Nat) : (e.limitClaimOn u offer).owner k = e.owner k := e.updBlade_owner _ k
theorem Entry.limitClaimOn_bare : (e.limitClaimOn u offer).bare = e.bare := e.updBlade_bare _

theorem Entry.limitClaimOn_laneClaim :
    (e.limitClaimOn u offer).laneClaim =
      e.laneClaim.map (fun q => if q.1 = u then (q.1, min q.2 offer) else q) := by
  cases hb : e.blade with
  | none => simp [Entry.limitClaimOn, Entry.laneClaim, hb]
  | some p =>
    cases hq : p.laneClaim with
    | none => simp [Entry.limitClaimOn, Entry.laneClaim, hb, hq]
    | some q =>
      obtain ⟨v, n⟩ := q
      by_cases hv : v = u <;> simp [Entry.limitClaimOn, Entry.laneClaim, hb, hq, hv]

end

section
variable {c : Census} (h : c.Shaped)
include h

theorem Census.Shaped.dropLaneClaimsOn (u : Addr) : (c.dropLaneClaimsOn u).Shaped :=
  h.updAll (fun e => Entry.tableOk_congr (e.dropClaimOn_uplink u))

theorem Census.Shaped.limitLaneClaimsOn (u : Addr) (k : Nat) : (c.limitLaneClaimsOn u k).Shaped :=
  h.updAll (fun e => Entry.tableOk_congr (e.limitClaimOn_uplink u k))

theorem Census.Shaped.get_dropLaneClaimsOn (u b : Addr) :
    (c.dropLaneClaimsOn u).get b = (c.get b).dropClaimOn u := by
  rw [Census.dropLaneClaimsOn_eq, Census.get_updAll _ h.sized]

theorem Census.Shaped.get_limitLaneClaimsOn (u b : Addr) (k : Nat) :
    (c.limitLaneClaimsOn u k).get b = (c.get b).limitClaimOn u k := by
  rw [Census.limitLaneClaimsOn_eq, Census.get_updAll _ h.sized]

end

/-! ## Setting a held level (R34, R80) -/

theorem Entry.trimShed_eq (e : Entry) : ∃ o, e.trimShed = { e with shed := o } := by
  unfold Entry.trimShed
  split
  · split
    · exact ⟨none, rfl⟩
    · exact ⟨e.shed, rfl⟩
  · exact ⟨e.shed, rfl⟩

theorem Census.setHeld_zero (c : Census) (a : Addr) : c.setHeld a 0 = c.heldZero a := rfl

theorem Census.setHeld_pos (c : Census) (a : Addr) {x : Nat} (hx : 0 < x) :
    c.setHeld a x = c.upd a (fun e => ({ e with held := x } : Entry).trimShed) := by
  simp [Census.setHeld, Nat.ne_of_gt hx]

theorem Census.Shaped.setHeld {c : Census} (h : c.Shaped) (a : Addr) (x : Nat) : (c.setHeld a x).Shaped := by
  rcases Nat.eq_zero_or_pos x with rfl | hx
  · exact h.heldZero a
  · rw [c.setHeld_pos a hx]
    refine h.upd fun e he => ?_
    obtain ⟨o, ho⟩ := ({ e with held := x } : Entry).trimShed_eq
    rw [ho]
    exact Entry.tableOk_of_part rfl he

/-! ## The freeing of an entry (R30) -/

/-- An uplink entry whose lanes are all free. -/
def Entry.emptied (e : Entry) : Entry := e.updUplink (fun p => { p with table := List.replicate Config.lanes none })

@[simp] theorem Entry.emptied_held (e : Entry) : e.emptied.held = e.held := e.updUplink_held _
@[simp] theorem Entry.emptied_claim (e : Entry) : e.emptied.claim = e.claim := e.updUplink_claim _
@[simp] theorem Entry.emptied_laneClaim (e : Entry) : e.emptied.laneClaim = e.laneClaim := e.updUplink_laneClaim _
@[simp] theorem Entry.emptied_offer (e : Entry) : e.emptied.offer = e.offer := by
  cases h : e.uplink <;> simp [Entry.emptied, Entry.offer, h]

theorem Entry.owner_of_notUplink {e : Entry} (h : e.uplink = none) (k : Nat) : e.owner k = none := by
  simp [Entry.owner, Entry.table, h]

theorem replicate_none_getElem? (n k : Nat) : (List.replicate n (none : Option Addr))[k]?.getD none = none := by
  rw [List.getElem?_replicate]
  split <;> rfl

@[simp] theorem Entry.emptied_owner (e : Entry) (k : Nat) : e.emptied.owner k = none := by
  cases h : e.uplink <;>
    simp [Entry.emptied, Entry.owner, Entry.table, h, List.getD_eq_getElem?_getD, replicate_none_getElem?]

theorem Entry.emptied_tableOk (e : Entry) : e.emptied.tableOk := by
  intro p hp
  simp only [Entry.emptied, Entry.updUplink_uplink, Option.map_eq_some_iff] at hp
  obtain ⟨q, -, rfl⟩ := hp
  exact List.length_replicate

theorem Census.free_eq (c : Census) (a : Addr) :
    c.free a = if ((c.localZero a).get a).uplink.isSome then
        (((c.localZero a).upd a Entry.emptied).dropLaneClaimsOn a).mark a
      else c.localZero a := rfl

section
variable {c : Census} (h : c.Shaped)
include h

theorem Census.Shaped.free (a : Addr) : (c.free a).Shaped := by
  rw [Census.free_eq]
  split
  · refine Census.Shaped.mark (Census.Shaped.dropLaneClaimsOn (Census.Shaped.upd (h.localZero a) ?_) a) a
    exact fun e _ => e.emptied_tableOk
  · exact h.localZero a

/-- What the freeing leaves of another entry: nothing of the freed station's in its lane table, and where the freed
station was an uplink no lane claim on it. -/
theorem Census.Shaped.get_free_other {a b : Addr} (hb : b ≠ a) :
    (c.free a).get b = (c.get b).freeing a ∨ (c.free a).get b = ((c.get b).freeing a).dropClaimOn a := by
  rw [Census.free_eq]
  split
  · refine .inr ?_
    have hs : ((c.localZero a).upd a Entry.emptied).Shaped :=
      Census.Shaped.upd (h.localZero a) fun e _ => e.emptied_tableOk
    rw [Census.mark_get, hs.get_dropLaneClaimsOn, (h.localZero a).get_upd, if_neg hb, h.get_localZero, if_neg hb]
  · exact .inl (by rw [h.get_localZero, if_neg hb])

/-- What the freeing leaves of the freed entry. -/
theorem Census.Shaped.get_free_self (a : Addr) :
    ((c.free a).get a).held = 0 ∧ ((c.free a).get a).claim = none ∧ ((c.free a).get a).laneClaim = none ∧
      ((c.free a).get a).offer = (c.get a).offer ∧ ∀ k, ((c.free a).get a).owner k = none := by
  have hz := h.get_localZero a a
  rw [if_pos rfl] at hz
  rw [Census.free_eq]
  split
  · have hs : ((c.localZero a).upd a Entry.emptied).Shaped :=
      Census.Shaped.upd (h.localZero a) fun e _ => e.emptied_tableOk
    rw [Census.mark_get, hs.get_dropLaneClaimsOn, (h.localZero a).get_upd, if_pos rfl, hz]
    simp [Entry.dropClaimOn_laneClaim]
  case isFalse hnone =>
    rw [hz]
    rw [hz] at hnone
    simp only [Entry.mk_uplink, RolePart.view_uplink, Entry.withoutLaneClaim_uplink, Entry.freeing_uplink_isSome,
      Bool.not_eq_true, Option.isSome_eq_false_iff, Option.isNone_iff_eq_none] at hnone
    simp [Entry.owner_of_notUplink hnone]

end

end Sys2Proof.Machine
end

section
/-! PROOFS. The offer of an uplink (R171), and which lanes, offers and claims the operations leave. -/

namespace Sys2Proof.Machine

/-! ## Vacating (R23, R30) -/

section
variable {c : Census} (h : c.Shaped)
include h

theorem Census.Shaped.vacate (a : Addr) : (c.vacate a).Shaped := by
  unfold Census.vacate
  exact (h.free a).upd fun _ _ => Entry.vacant_tableOk

theorem Census.Shaped.get_vacate (a b : Addr) :
    (c.vacate a).get b = if b = a then Entry.vacant else (c.free a).get b := (h.free a).get_upd a b _

end

/-! ## The offer (R171) -/

theorem cutTable_getD (k j : Nat) (t : List (Option Addr)) :
    (cutTable k t).getD j none =
      if ∃ a ∈ ownersAbove k t, t.getD j none = some a then none else t.getD j none := by
  unfold cutTable
  generalize ownersAbove k t = as
  induction as generalizing t with
  | nil => simp
  | cons a as ih =>
    rw [List.foldl_cons, ih, freeSlots_getD]
    by_cases ha : t.getD j none = some a
    · rw [if_pos ha, if_neg (by rintro ⟨b, -, hb⟩; cases hb), if_pos ⟨a, List.mem_cons_self, ha⟩]
    · have hcons : (∃ b ∈ a :: as, t.getD j none = some b) → ∃ b ∈ as, t.getD j none = some b := by
        rintro ⟨b, hb, he⟩
        rcases List.mem_cons.mp hb with rfl | hb
        · exact absurd he ha
        · exact ⟨b, hb, he⟩
      rw [if_neg ha]
      by_cases hcut : ∃ b ∈ as, t.getD j none = some b
      · obtain ⟨b, hb, he⟩ := hcut
        rw [if_pos ⟨b, hb, he⟩, if_pos ⟨b, List.mem_cons_of_mem a hb, he⟩]
      · rw [if_neg hcut, if_neg fun h => hcut (hcons h)]

theorem cutTable_length (k : Nat) (t : List (Option Addr)) : (cutTable k t).length = t.length := by
  unfold cutTable
  generalize ownersAbove k t = as
  induction as generalizing t with
  | nil => rfl
  | cons a as ih => rw [List.foldl_cons, ih, freeSlots_length]

/-- After a cut no lane at or above the offer is owned, and the lanes left are those owned before. -/
theorem cutTable_getD_some {k j : Nat} {t : List (Option Addr)} {a : Addr}
    (h : (cutTable k t).getD j none = some a) : t.getD j none = some a ∧ j < k := by
  rw [cutTable_getD] at h
  split at h
  · cases h
  · rename_i hno
    refine ⟨h, ?_⟩
    refine Classical.byContradiction fun hj => ?_
    refine hno ⟨a, ?_, h⟩
    rw [ownersAbove, List.mem_filterMap]
    refine ⟨some a, ?_, rfl⟩
    have hlt : j < t.length := by
      refine Classical.byContradiction fun hlen => ?_
      simp [List.getD_eq_getElem?_getD, List.getElem?_eq_none (Nat.not_lt.mp hlen)] at h
    rw [List.getD_eq_getElem?_getD, List.getElem?_eq_getElem hlt, Option.getD_some] at h
    rw [List.mem_drop_iff_getElem]
    exact ⟨j - k, by omega, by rw [← h]; congr 1; omega⟩

/-- An uplink entry whose offer becomes k. -/
def Entry.offering (e : Entry) (k : Nat) : Entry :=
  e.updUplink (fun q => { q with offer := k, table := if k < e.offer then cutTable k q.table else q.table })

section
variable (e : Entry) (k : Nat)

theorem Entry.offering_bare : (e.offering k).bare = e.bare := e.updUplink_bare _
@[simp] theorem Entry.offering_held : (e.offering k).held = e.held := e.updUplink_held _
@[simp] theorem Entry.offering_claim : (e.offering k).claim = e.claim := e.updUplink_claim _
@[simp] theorem Entry.offering_laneClaim : (e.offering k).laneClaim = e.laneClaim := e.updUplink_laneClaim _
theorem Entry.offering_offer : (e.offering k).offer = if e.uplink.isSome then k else 0 := by
  cases h : e.uplink <;> simp [Entry.offering, Entry.offer, h]

theorem Entry.offering_tableOk {e : Entry} (he : e.tableOk) : (e.offering k).tableOk := by
  refine Entry.tableOk_updUplink (fun p hp => ?_) he
  dsimp only
  split
  · exact (cutTable_length k p.table).trans hp
  · exact hp

theorem Entry.offering_owner_some {e : Entry} {k j : Nat} {a : Addr} (h : (e.offering k).owner j = some a) :
    e.owner j = some a ∧ (k < e.offer → j < k) := by
  cases hu : e.uplink with
  | none => simp [Entry.owner, Entry.table, Entry.offering, hu] at h
  | some p =>
    simp only [Entry.owner, Entry.table, Entry.offering, Entry.updUplink_uplink, hu, Option.map_some] at h
    split at h
    · obtain ⟨hold, hj⟩ := cutTable_getD_some h
      exact ⟨by simpa [Entry.owner, Entry.table, hu] using hold, fun _ => hj⟩
    · rename_i hk
      exact ⟨by simpa [Entry.owner, Entry.table, hu] using h, fun hlt => absurd hlt hk⟩

/-- What a change of an uplink's offer makes of the lane claims on it. -/
def Entry.claimUnder (e : Entry) (u : Addr) (old k : Nat) : Entry :=
  if k < old then (if k = 0 then e.dropClaimOn u else e.limitClaimOn u k) else e

variable (u : Addr) (old : Nat)

theorem Entry.claimUnder_bare : (e.claimUnder u old k).bare = e.bare := by
  unfold Entry.claimUnder
  split
  · split
    · exact e.dropClaimOn_bare u
    · exact e.limitClaimOn_bare u k
  · rfl

@[simp] theorem Entry.claimUnder_uplink : (e.claimUnder u old k).uplink = e.uplink := by
  unfold Entry.claimUnder
  split
  · split
    · exact e.dropClaimOn_uplink u
    · exact e.limitClaimOn_uplink u k
  · rfl
@[simp] theorem Entry.claimUnder_held : (e.claimUnder u old k).held = e.held :=
  Entry.held_of_bare (e.claimUnder_bare k u old)
@[simp] theorem Entry.claimUnder_claim : (e.claimUnder u old k).claim = e.claim :=
  Entry.claim_of_bare (e.claimUnder_bare k u old)
@[simp] theorem Entry.claimUnder_offer : (e.claimUnder u old k).offer = e.offer :=
  Entry.offer_congr (e.claimUnder_uplink k u old)
@[simp] theorem Entry.claimUnder_owner (j : Nat) : (e.claimUnder u old k).owner j = e.owner j :=
  Entry.owner_congr (e.claimUnder_uplink k u old) j

theorem Entry.claimUnder_laneClaim_some {e : Entry} {q : Addr × Nat}
    (h : (e.claimUnder u old k).laneClaim = some q) : ∃ n, e.laneClaim = some (q.1, n) := by
  unfold Entry.claimUnder at h
  split at h
  · split at h
    · rw [Entry.dropClaimOn_laneClaim, Option.filter_eq_some_iff] at h
      exact ⟨q.2, h.1⟩
    · rw [Entry.limitClaimOn_laneClaim, Option.map_eq_some_iff] at h
      obtain ⟨r, hr, hq⟩ := h
      refine ⟨r.2, hr.trans ?_⟩
      split at hq <;> rw [← hq]
  · exact ⟨q.2, h⟩

/-- A claim on another uplink stands. -/
theorem Entry.claimUnder_laneClaim_other {e : Entry} {u v : Addr} {n : Nat} (h : e.laneClaim = some (v, n))
    (hv : v ≠ u) : (e.claimUnder u old k).laneClaim = some (v, n) := by
  unfold Entry.claimUnder
  split
  · split
    · simp [Entry.dropClaimOn_laneClaim, h, Option.filter, hv]
    · simp [Entry.limitClaimOn_laneClaim, h, hv]
  · exact h

theorem Entry.claimUnder_laneClaim_none {e : Entry} (h : e.laneClaim = none) :
    (e.claimUnder u old k).laneClaim = none := by
  unfold Entry.claimUnder
  split
  · split
    · simp [Entry.dropClaimOn_laneClaim, h]
    · simp [Entry.limitClaimOn_laneClaim, h]
  · exact h

end

section
variable {c : Census} (h : c.Shaped)
include h

theorem Census.Shaped.offering (u : Addr) (k : Nat) : (c.upd u (fun e => e.offering k)).Shaped :=
  h.upd fun _ => Entry.offering_tableOk k

/-- The offer of an uplink is lowered, raised, or as it was. -/
theorem Census.setOffer_eq (u : Addr) (k : Nat) :
    (∃ c' : Census, c.setOffer u k = c'.mark u ∧ c'.Shaped ∧
      ∀ b, c'.get b = (if b = u then (c.get b).offering k else c.get b).claimUnder u (c.get u).offer k) ∨
    (c.setOffer u k = c ∧ k = (c.get u).offer) := by
  have hs := h.offering u k
  have hupd : c.upd u (fun e => e.updUplink (fun q =>
      { q with offer := k, table := if k < (c.get u).offer then cutTable k q.table else q.table })) =
      c.upd u (fun e => e.offering k) := rfl
  simp only [Census.setOffer, hupd]
  split
  case isTrue hlt =>
    refine .inl ⟨_, rfl, ?_, fun b => ?_⟩
    · split
      · exact hs.dropLaneClaimsOn u
      · exact hs.limitLaneClaimsOn u k
    · rw [Entry.claimUnder, if_pos hlt]
      by_cases hk : k = 0
      · simp only [hk, beq_self_eq_true, if_true]
        subst hk
        rw [hs.get_dropLaneClaimsOn, h.get_upd]
      · simp only [hk, beq_iff_eq, if_false]
        rw [hs.get_limitLaneClaimsOn, h.get_upd]
  case isFalse hle =>
    split
    case isTrue hlt =>
      refine .inl ⟨_, rfl, hs, fun b => ?_⟩
      rw [Entry.claimUnder, if_neg hle, h.get_upd]
    case isFalse hge => exact .inr ⟨rfl, by omega⟩

theorem Census.Shaped.setOffer (u : Addr) (k : Nat) : (c.setOffer u k).Shaped := by
  rcases Census.setOffer_eq h u k with ⟨c', heq, hs, -⟩ | ⟨heq, -⟩ <;> rw [heq]
  · exact hs.mark u
  · exact h

theorem Census.Shaped.setOffer_bare (u : Addr) (k : Nat) (b : Addr) :
    ((c.setOffer u k).get b).bare = (c.get b).bare := by
  rcases Census.setOffer_eq h u k with ⟨c', heq, -, hget⟩ | ⟨heq, -⟩ <;> rw [heq]
  rw [Census.mark_get, hget, Entry.claimUnder_bare]
  split
  · exact Entry.offering_bare _ k
  · rfl

theorem Census.Shaped.setOffer_held (u : Addr) (k : Nat) (b : Addr) :
    ((c.setOffer u k).get b).held = (c.get b).held := Entry.held_of_bare (h.setOffer_bare u k b)

theorem Census.Shaped.setOffer_claim (u : Addr) (k : Nat) (b : Addr) :
    ((c.setOffer u k).get b).claim = (c.get b).claim := Entry.claim_of_bare (h.setOffer_bare u k b)

theorem Census.Shaped.setOffer_offer (u : Addr) (k : Nat) (b : Addr) :
    ((c.setOffer u k).get b).offer =
      if b = u then (if (c.get u).uplink.isSome then k else (c.get u).offer) else (c.get b).offer := by
  have hnone : (c.get u).uplink = none → (c.get u).offer = 0 := fun hn => by simp [Entry.offer, hn]
  rcases Census.setOffer_eq h u k with ⟨c', heq, -, hget⟩ | ⟨heq, hk⟩ <;> rw [heq]
  · rw [Census.mark_get, hget, Entry.claimUnder_offer]
    by_cases hb : b = u
    · simp only [hb, if_true, Entry.offering_offer]
      cases hu : (c.get u).uplink <;> simp [hnone, hu]
    · simp [hb]
  · by_cases hb : b = u <;> simp [hb, ← hk]

theorem Census.Shaped.setOffer_owner_some {u b a : Addr} {k j : Nat}
    (ho : ((c.setOffer u k).get b).owner j = some a) :
    (c.get b).owner j = some a ∧ (b = u → k < (c.get u).offer → j < k) := by
  rcases Census.setOffer_eq h u k with ⟨c', heq, -, hget⟩ | ⟨heq, hk⟩ <;> rw [heq] at ho
  · rw [Census.mark_get, hget, Entry.claimUnder_owner] at ho
    by_cases hb : b = u
    · rw [if_pos hb] at ho
      obtain ⟨hold, hj⟩ := Entry.offering_owner_some ho
      exact ⟨hold, fun hbu => hbu ▸ hj⟩
    · rw [if_neg hb] at ho
      exact ⟨ho, fun hbu => absurd hbu hb⟩
  · exact ⟨ho, fun _ hlt => absurd hlt (by omega)⟩

theorem Census.Shaped.setOffer_owner_other {u b : Addr} (k j : Nat) (hb : b ≠ u) :
    ((c.setOffer u k).get b).owner j = (c.get b).owner j := by
  rcases Census.setOffer_eq h u k with ⟨c', heq, -, hget⟩ | ⟨heq, -⟩ <;> rw [heq]
  rw [Census.mark_get, hget, Entry.claimUnder_owner, if_neg hb]

theorem Census.Shaped.setOffer_laneClaim_some {u b : Addr} {k : Nat} {q : Addr × Nat}
    (hq : ((c.setOffer u k).get b).laneClaim = some q) : ∃ n, (c.get b).laneClaim = some (q.1, n) := by
  rcases Census.setOffer_eq h u k with ⟨c', heq, -, hget⟩ | ⟨heq, -⟩ <;> rw [heq] at hq
  · rw [Census.mark_get, hget] at hq
    obtain ⟨n, hn⟩ := Entry.claimUnder_laneClaim_some _ _ _ hq
    refine ⟨n, hn ▸ ?_⟩
    split
    · rw [Entry.offering_laneClaim]
    · rfl
  · exact ⟨q.2, hq⟩

theorem Census.Shaped.setOffer_laneClaim_none {u b : Addr} (k : Nat) (hn : (c.get b).laneClaim = none) :
    ((c.setOffer u k).get b).laneClaim = none := by
  cases hq : ((c.setOffer u k).get b).laneClaim with
  | none => rfl
  | some q => obtain ⟨n, hn'⟩ := h.setOffer_laneClaim_some hq; rw [hn] at hn'; cases hn'

theorem Census.Shaped.setOffer_laneClaim_other {u v b : Addr} {n : Nat} (k : Nat)
    (hq : (c.get b).laneClaim = some (v, n)) (hv : v ≠ u) :
    ((c.setOffer u k).get b).laneClaim = some (v, n) := by
  rcases Census.setOffer_eq h u k with ⟨c', heq, -, hget⟩ | ⟨heq, -⟩ <;> rw [heq]
  · rw [Census.mark_get, hget]
    refine Entry.claimUnder_laneClaim_other _ _ ?_ hv
    split
    · rw [Entry.offering_laneClaim, hq]
    · exact hq
  · exact hq

end

end Sys2Proof.Machine
end

section
/-! PROOFS. The lane tables of a census are lawful (R167): what keeps them so. -/

namespace Sys2Proof.Machine

/-! ## Assigning lanes (R169) -/

theorem assignLanes_length (a : Addr) (lanes : List Nat) (t : List (Option Addr)) :
    (assignLanes a lanes t).length = t.length := by
  unfold assignLanes
  induction lanes generalizing t with
  | nil => rfl
  | cons k ks ih => rw [List.foldl_cons, ih, List.length_set]

theorem assignLanes_getD (a : Addr) (lanes : List Nat) (t : List (Option Addr)) (k : Nat) :
    (assignLanes a lanes t).getD k none = if k ∈ lanes ∧ k < t.length then some a else t.getD k none := by
  unfold assignLanes
  induction lanes generalizing t with
  | nil => simp
  | cons j js ih =>
    rw [List.foldl_cons, ih, List.length_set]
    by_cases hk : k < t.length
    · by_cases hj : j = k
      · subst hj; by_cases hmem : j ∈ js <;> simp [List.getD_eq_getElem?_getD, hk, hmem]
      · have hj' : k ≠ j := fun he => hj he.symm
        by_cases hmem : k ∈ js <;> simp [List.getD_eq_getElem?_getD, hk, hmem, hj, hj']
    · simp [List.getD_eq_getElem?_getD, hk]

/-- An uplink entry in which a station owns the lanes of a set. -/
def Entry.assigned (e : Entry) (a : Addr) (lanes : List Nat) : Entry :=
  e.updUplink (fun p => { p with table := assignLanes a lanes p.table })

section
variable (e : Entry) (a : Addr) (lanes : List Nat)

theorem Entry.assigned_bare : (e.assigned a lanes).bare = e.bare := e.updUplink_bare _
@[simp] theorem Entry.assigned_held : (e.assigned a lanes).held = e.held := e.updUplink_held _
@[simp] theorem Entry.assigned_claim : (e.assigned a lanes).claim = e.claim := e.updUplink_claim _
@[simp] theorem Entry.assigned_laneClaim : (e.assigned a lanes).laneClaim = e.laneClaim := e.updUplink_laneClaim _
@[simp] theorem Entry.assigned_offer : (e.assigned a lanes).offer = e.offer := by
  cases h : e.uplink <;> simp [Entry.assigned, Entry.offer, h]

theorem Entry.assigned_tableOk {e : Entry} (he : e.tableOk) : (e.assigned a lanes).tableOk :=
  Entry.tableOk_updUplink (fun p hp => (assignLanes_length a lanes p.table).trans hp) he

theorem Entry.assigned_owner {e : Entry} (he : e.tableOk) (k : Nat) :
    (e.assigned a lanes).owner k =
      if k ∈ lanes ∧ k < Config.lanes ∧ e.uplink.isSome then some a else e.owner k := by
  cases hu : e.uplink with
  | none => simp [Entry.assigned, Entry.owner, Entry.table, hu]
  | some p =>
    simp only [Entry.assigned, Entry.owner, Entry.table, Entry.updUplink_uplink, hu, Option.map_some,
      assignLanes_getD, he p hu, Option.isSome_some, and_true]

end

section
variable {c : Census} (h : c.Shaped)
include h

theorem Census.Shaped.assign (u a : Addr) (lanes : List Nat) : (c.assign u a lanes).Shaped :=
  h.upd fun _ => Entry.assigned_tableOk a lanes

theorem Census.Shaped.get_assign (u a b : Addr) (lanes : List Nat) :
    (c.assign u a lanes).get b = if b = u then (c.get b).assigned a lanes else c.get b := h.get_upd u b _

end

/-! ## Lawful lane tables (R167) -/

/-- `Census.lanesLawful`, clause by clause. -/
structure Census.Lawful (c : Census) : Prop where
  held : ∀ u k a, (c.get u).owner k = some a → 0 < (c.get a).held
  offered : ∀ u k a, (c.get u).owner k = some a → k < (c.get u).offer
  single : ∀ u v k j a, (c.get u).owner k = some a → (c.get v).owner j = some a → u = v
  offer_le : ∀ u, (c.get u).offer ≤ Config.lanes
  unclaimed : ∀ a q, (c.get a).laneClaim = some q → ∀ u k, (c.get u).owner k ≠ some a
  claim : ∀ a x, (c.get a).claim = some x → (c.get a).held < x

theorem Census.lawful_iff (c : Census) : c.Lawful ↔ c.lanesLawful := by
  constructor
  · rintro ⟨hheld, hoffered, hsingle, hle, hunclaimed, hclaim⟩
    refine ⟨hheld, fun u k hk => ?_, hsingle, hle, hunclaimed, hclaim⟩
    cases ho : (c.get u).table.getD k none with
    | none => rfl
    | some a => exact absurd (hoffered u k a ho) (Nat.not_lt.mpr hk)
  · rintro ⟨hheld, hoffered, hsingle, hle, hunclaimed, hclaim⟩
    refine ⟨hheld, fun u k a ho => ?_, hsingle, hle, hunclaimed, hclaim⟩
    refine Classical.byContradiction fun hk => ?_
    have hnone : (c.get u).owner k = none := hoffered u k (Nat.not_lt.mp hk)
    rw [ho] at hnone
    cases hnone

/-- Lanes that are only taken away leave lawful tables, where levels, offers and claims stay lawful. -/
theorem Census.Lawful.shrink {c c' : Census} (h : c.Lawful)
    (howner : ∀ u k a, (c'.get u).owner k = some a →
      (c.get u).owner k = some a ∧ 0 < (c'.get a).held ∧ k < (c'.get u).offer)
    (hoffer : ∀ u, (c'.get u).offer ≤ Config.lanes)
    (hlane : ∀ a q, (c'.get a).laneClaim = some q →
      (∃ r, (c.get a).laneClaim = some r) ∨ ∀ u k, (c'.get u).owner k ≠ some a)
    (hclaim : ∀ a x, (c'.get a).claim = some x → (c'.get a).held < x) : c'.Lawful where
  held u k a ho := (howner u k a ho).2.1
  offered u k a ho := (howner u k a ho).2.2
  single u v k j a hu hv := h.single u v k j a (howner u k a hu).1 (howner v j a hv).1
  offer_le := hoffer
  unclaimed a q hq u k ho := by
    rcases hlane a q hq with ⟨r, hr⟩ | hnone
    · exact h.unclaimed a r hr u k (howner u k a ho).1
    · exact hnone u k ho
  claim := hclaim

/-- Levels, claims and offers stand, and lanes and lane claims are only taken away. -/
theorem Census.Lawful.sub {c c' : Census} (h : c.Lawful)
    (hheld : ∀ a, (c'.get a).held = (c.get a).held) (hclaim : ∀ a, (c'.get a).claim = (c.get a).claim)
    (hoffer : ∀ a, (c'.get a).offer = (c.get a).offer)
    (hlane : ∀ a q, (c'.get a).laneClaim = some q → (c.get a).laneClaim = some q)
    (howner : ∀ u k a, (c'.get u).owner k = some a → (c.get u).owner k = some a) : c'.Lawful := by
  refine h.shrink (fun u k a ho => ?_) (fun u => ?_) (fun a q hq => .inl ⟨q, hlane a q hq⟩) (fun a x hx => ?_)
  · rw [hheld, hoffer]
    exact ⟨howner u k a ho, h.held u k a (howner u k a ho), h.offered u k a (howner u k a ho)⟩
  · rw [hoffer]; exact h.offer_le u
  · rw [hclaim] at hx; rw [hheld]; exact h.claim a x hx

/-- Entries that show the same levels, claims, offers and owners. -/
theorem Census.Lawful.congr {c c' : Census} (h : c.Lawful)
    (hheld : ∀ a, (c'.get a).held = (c.get a).held) (hclaim : ∀ a, (c'.get a).claim = (c.get a).claim)
    (hlane : ∀ a, (c'.get a).laneClaim = (c.get a).laneClaim) (hoffer : ∀ a, (c'.get a).offer = (c.get a).offer)
    (howner : ∀ a k, (c'.get a).owner k = (c.get a).owner k) : c'.Lawful :=
  h.sub hheld hclaim hoffer (fun a _ hq => (hlane a).symm.trans hq) (fun u k _ ho => (howner u k).symm.trans ho)

theorem Census.Lawful.of_entries {c c' : Census} (h : c.Lawful) (he : c'.entries = c.entries) : c'.Lawful := by
  have hget := Census.get_congr he
  exact h.congr (fun a => by rw [hget]) (fun a => by rw [hget]) (fun a => by rw [hget]) (fun a => by rw [hget])
    (fun a k => by rw [hget])

theorem Census.Lawful.mark {c : Census} (h : c.Lawful) (u : Addr) : (c.mark u).Lawful := h.of_entries rfl

theorem Entry.owner_of_freeing {e : Entry} {a b : Addr} {k : Nat} (h : (e.freeing a).owner k = some b) :
    e.owner k = some b ∧ b ≠ a := by
  rw [Entry.freeing_owner] at h
  split at h
  · cases h
  · rename_i hne; exact ⟨h, fun hb => hne (hb ▸ h)⟩

section
variable {c : Census} (hs : c.Shaped) (h : c.Lawful)
include hs h

/-- One entry changes, and shows the same. -/
theorem Census.Lawful.updSame {a : Addr} {f : Entry → Entry} (hheld : (f (c.get a)).held = (c.get a).held)
    (hclaim : (f (c.get a)).claim = (c.get a).claim) (hlane : (f (c.get a)).laneClaim = (c.get a).laneClaim)
    (hoffer : (f (c.get a)).offer = (c.get a).offer)
    (howner : ∀ k, (f (c.get a)).owner k = (c.get a).owner k) : (c.upd a f).Lawful := by
  refine h.congr (fun b => ?_) (fun b => ?_) (fun b => ?_) (fun b => ?_) (fun b k => ?_) <;>
    by_cases hb : b = a <;> simp [hs.get_upd, *]

/-- A station that owns no other uplink's lanes takes lanes below the offer. -/
theorem Census.Lawful.assign {u a : Addr} {lanes : List Nat} (hheld : 0 < (c.get a).held)
    (hfree : (c.get a).laneClaim = none) (honly : ∀ v k, (c.get v).owner k = some a → v = u)
    (hlanes : ∀ k ∈ lanes, k < (c.get u).offer) : (c.assign u a lanes).Lawful := by
  have hlevel : ∀ b, ((c.assign u a lanes).get b).held = (c.get b).held := fun b => by
    rw [hs.get_assign]; split <;> simp
  have hoffer : ∀ b, ((c.assign u a lanes).get b).offer = (c.get b).offer := fun b => by
    rw [hs.get_assign]; split <;> simp
  have hclaim : ∀ b, ((c.assign u a lanes).get b).claim = (c.get b).claim := fun b => by
    rw [hs.get_assign]; split <;> simp
  have hlane : ∀ b, ((c.assign u a lanes).get b).laneClaim = (c.get b).laneClaim := fun b => by
    rw [hs.get_assign]; split <;> simp
  have howner : ∀ v k b, ((c.assign u a lanes).get v).owner k = some b →
      (c.get v).owner k = some b ∨ (v = u ∧ b = a ∧ k ∈ lanes) := by
    intro v k b ho
    rw [hs.get_assign] at ho
    split at ho
    · rename_i hv
      rw [Entry.assigned_owner _ _ (hs.tables v)] at ho
      split at ho
      · rename_i hk
        exact .inr ⟨hv, (Option.some.inj ho).symm, hk.1⟩
      · exact .inl ho
    · exact .inl ho
  constructor
  · intro v k b ho
    rw [hlevel]
    rcases howner v k b ho with hold | ⟨-, rfl, -⟩
    · exact h.held v k b hold
    · exact hheld
  · intro v k b ho
    rw [hoffer]
    rcases howner v k b ho with hold | ⟨rfl, -, hk⟩
    · exact h.offered v k b hold
    · exact hlanes k hk
  · intro v w k j b hv hw
    rcases howner v k b hv with hold | ⟨rfl, rfl, -⟩ <;> rcases howner w j _ hw with hold' | ⟨rfl, hb, -⟩
    · exact h.single v w k j b hold hold'
    · exact honly v k (hb ▸ hold)
    · exact (honly w j hold').symm
    · rfl
  · exact fun v => (hoffer v).symm ▸ h.offer_le v
  · intro b q hq v k ho
    rw [hlane] at hq
    rcases howner v k b ho with hold | ⟨-, rfl, -⟩
    · exact h.unclaimed b q hq v k hold
    · rw [hfree] at hq; cases hq
  · intro b x hx
    rw [hclaim] at hx
    rw [hlevel]
    exact h.claim b x hx

theorem Census.Lawful.dropLaneClaim (a : Addr) : (c.dropLaneClaim a).Lawful := by
  have hget := hs.get_dropLaneClaim a
  refine h.sub (fun b => ?_) (fun b => ?_) (fun b => ?_) (fun b q hq => ?_) (fun u k b ho => ?_)
  · rw [hget]; split <;> simp
  · rw [hget]; split <;> simp
  · rw [hget]; split <;> simp
  · rw [hget] at hq
    split at hq
    · simp at hq
    · exact hq
  · rw [hget] at ho
    split at ho
    · simpa using ho
    · exact ho

theorem Census.Lawful.freeLanes (a : Addr) : (c.freeLanes a).Lawful := by
  have hget := hs.get_freeLanes a
  refine h.sub (fun b => ?_) (fun b => ?_) (fun b => ?_) (fun b q hq => ?_) (fun u k b ho => ?_)
  · rw [hget, Entry.freeing_held]
  · rw [hget, Entry.freeing_claim]
  · rw [hget, Entry.freeing_offer]
  · rwa [hget, Entry.freeing_laneClaim] at hq
  · rw [hget] at ho
    exact (Entry.owner_of_freeing ho).1

theorem Census.Lawful.freeOn (a u : Addr) : (c.freeOn a u).Lawful := by
  have hget := hs.get_freeOn a u
  refine h.sub (fun b => ?_) (fun b => ?_) (fun b => ?_) (fun b q hq => ?_) (fun v k b ho => ?_)
  · rw [hget]; split <;> simp
  · rw [hget]; split <;> simp
  · rw [hget]; split <;> simp
  · rw [hget] at hq
    split at hq
    · simpa using hq
    · exact hq
  · rw [hget] at ho
    split at ho
    · exact (Entry.owner_of_freeing ho).1
    · exact ho

/-- A station whose held level falls to 0 owns no lane, and has no lane claim. -/
theorem Census.Lawful.heldZero {a : Addr} (hnone : (c.get a).claim = none) : (c.heldZero a).Lawful := by
  have hget := hs.get_heldZero a
  have howner : ∀ u k b, ((c.heldZero a).get u).owner k = some b → (c.get u).owner k = some b ∧ b ≠ a := by
    intro u k b ho
    rw [hget] at ho
    split at ho
    · rw [Entry.mk_owner, RolePart.view_owner, Entry.withoutLaneClaim_owner] at ho
      exact Entry.owner_of_freeing ho
    · exact Entry.owner_of_freeing ho
  have hheld : ∀ b, b ≠ a → ((c.heldZero a).get b).held = (c.get b).held := fun b hb => by
    rw [hget, if_neg hb, Entry.freeing_held]
  have hoffer : ∀ b, ((c.heldZero a).get b).offer = (c.get b).offer := fun b => by
    rw [hget]; split <;> simp
  refine h.shrink (fun u k b ho => ?_) (fun u => ?_) (fun b q hq => ?_) (fun b x hx => ?_)
  · obtain ⟨hold, hb⟩ := howner u k b ho
    rw [hheld b hb, hoffer]
    exact ⟨hold, h.held u k b hold, h.offered u k b hold⟩
  · rw [hoffer]; exact h.offer_le u
  · rw [hget] at hq
    split at hq
    · simp at hq
    · rw [Entry.freeing_laneClaim] at hq; exact .inl ⟨q, hq⟩
  · by_cases hb : b = a
    · rw [hget, if_pos hb] at hx; simp [hb, hnone] at hx
    · rw [hget, if_neg hb, Entry.freeing_claim] at hx
      rw [hheld b hb]; exact h.claim b x hx

/-- A pending claim withdrawn. -/
theorem Census.Lawful.withdraw (a : Addr) : (c.upd a (fun e => { e with claim := none })).Lawful := by
  have hget := fun b => hs.get_upd a b (fun e => { e with claim := none })
  refine h.shrink (fun v k b ho => ?_) (fun v => ?_) (fun b q hq => .inl ⟨q, ?_⟩) (fun b x hx => ?_)
  · have ho' : (c.get v).owner k = some b := by
      rw [hget] at ho; split at ho <;> simpa using ho
    refine ⟨ho', ?_, ?_⟩
    · have := h.held v k b ho'
      rw [hget]; split <;> simpa
    · have := h.offered v k b ho'
      rw [hget]; split <;> simpa
  · have := h.offer_le v
    rw [hget]; split <;> simpa
  · rw [hget] at hq; split at hq <;> simpa using hq
  · rw [hget] at hx
    split at hx
    · cases hx
    · rw [hget, if_neg ‹_›]; exact h.claim b x hx

theorem Census.Lawful.localZero (a : Addr) : (c.localZero a).Lawful := by
  have hsu : (c.upd a (fun e => { e with claim := none })).Shaped := hs.upd fun _ => Entry.tableOk_of_part rfl
  unfold Census.localZero
  refine Census.Lawful.heldZero hsu (h.withdraw hs a) ?_
  rw [hs.get_upd, if_pos rfl]

theorem Census.Lawful.setOffer (u : Addr) {k : Nat} (hk : k ≤ Config.lanes) : (c.setOffer u k).Lawful := by
  refine h.shrink (fun v j b ho => ?_) (fun v => ?_) (fun b q hq => ?_) (fun b x hx => ?_)
  · obtain ⟨hold, hj⟩ := hs.setOffer_owner_some ho
    refine ⟨hold, ?_, ?_⟩
    · rw [hs.setOffer_held]; exact h.held v j b hold
    · have hlt := h.offered v j b hold
      rw [hs.setOffer_offer]
      split
      · rename_i hv
        subst hv
        split
        · by_cases hkp : k < (c.get v).offer
          · exact hj rfl hkp
          · omega
        · exact hlt
      · exact hlt
  · rw [hs.setOffer_offer]
    split
    · split
      · exact hk
      · exact h.offer_le u
    · exact h.offer_le v
  · obtain ⟨n, hn⟩ := hs.setOffer_laneClaim_some hq
    exact .inl ⟨_, hn⟩
  · rw [hs.setOffer_claim] at hx; rw [hs.setOffer_held]; exact h.claim b x hx

end

end Sys2Proof.Machine
end

section
/-! PROOFS. What a follow-up (R25) and the answer of the role blocks make of the census, as a run of small steps:
admissions, shed targets, lane grants, marks and the report, and the station's own writes into its role part and its held level. -/

namespace Sys2Proof.Machine

/-! ## Writes into a role part -/

/-- A write into the role part that leaves role, lane claim, offer and lane table. -/
structure Entry.PartWrite (e e' : Entry) : Prop where
  bare : e'.bare = e.bare
  role : e'.role = e.role
  laneClaim : e'.laneClaim = e.laneClaim
  offer : e'.offer = e.offer
  table : e'.table = e.table

theorem Entry.updBlade_partWrite (e : Entry) {f : BladePart → BladePart} (hf : ∀ p, (f p).laneClaim = p.laneClaim) :
    e.PartWrite (e.updBlade f) := by
  refine ⟨e.updBlade_bare f, ?_, ?_, e.updBlade_offer f, Entry.table_congr (e.updBlade_uplink f)⟩
  · cases h : e.part <;> simp [Entry.updBlade, Entry.role, h]
  · cases h : e.blade <;> simp [Entry.laneClaim, h, hf]

theorem Entry.updFan_partWrite (e : Entry) (f : FanPart → FanPart) : e.PartWrite (e.updFan f) := by
  refine ⟨e.updFan_bare f, ?_, ?_, ?_, ?_⟩ <;> cases h : e.part <;>
    simp [Entry.updFan, Entry.role, Entry.laneClaim, Entry.blade, Entry.offer, Entry.table, Entry.uplink, h]

theorem Entry.updSupply_partWrite (e : Entry) (f : SupplyPart → SupplyPart) : e.PartWrite (e.updSupply f) := by
  refine ⟨e.updSupply_bare f, ?_, ?_, ?_, ?_⟩ <;> cases h : e.part <;>
    simp [Entry.updSupply, Entry.role, Entry.laneClaim, Entry.blade, Entry.offer, Entry.table, Entry.uplink, h]

theorem Entry.updUplink_partWrite (e : Entry) {f : UplinkPart → UplinkPart} (hoffer : ∀ p, (f p).offer = p.offer)
    (htable : ∀ p, (f p).table = p.table) : e.PartWrite (e.updUplink f) := by
  refine ⟨e.updUplink_bare f, ?_, e.updUplink_laneClaim f, ?_, ?_⟩ <;> cases h : e.part <;>
    simp [Entry.updUplink, Entry.role, Entry.offer, Entry.table, Entry.uplink, h, hoffer, htable]

theorem Entry.PartWrite.owner {e e' : Entry} (h : e.PartWrite e') (k : Nat) : e'.owner k = e.owner k := by
  simp only [Entry.owner, h.table]

theorem Entry.PartWrite.tableOk {e e' : Entry} (h : e.PartWrite e') (he : e.tableOk) : e'.tableOk := by
  rw [Entry.tableOk_iff] at he ⊢
  rwa [h.role, h.table]

/-- An entry that shows no role takes none by a write into its part. -/
theorem Entry.PartWrite.vacant {e' : Entry} (h : Entry.vacant.PartWrite e') : e' = Entry.vacant := by
  have hpart : e'.part = .unknown := by
    have := h.role
    cases hp : e'.part <;> simp [Entry.role, hp, Entry.vacant] at this ⊢
  have hbare : e'.bare = Entry.vacant := h.bare
  rw [← hbare, Entry.bare, ← hpart]

/-! ## The steps -/

/-- One step of a follow-up, or one write of a role block into the self entry. -/
inductive CenStep (own : Addr) : Census → Census → Prop
  | admission {c : Census} {a : Addr} {level : Nat} (hclaim : (c.get a).claim = some level) :
    CenStep own c (c.upd a (fun e => e.admitAt level))
  | shed (c : Census) (a : Addr) (level : Nat) : CenStep own c (c.upd a (fun e => e.shedTo level))
  | grant {c : Census} {a u : Addr} {n : Nat} (hclaim : (c.get a).laneClaim = some (u, n))
    (hheld : 0 < (c.get a).held) (hfree : n ≤ (c.get u).freeLanes.length) :
    CenStep own c ((c.dropLaneClaim a).assign u a ((c.get u).freeLanes.take n))
  | notes (c : Census) (marked : List Addr) (report : TallyReport) :
    CenStep own c { c with marked := marked, report := report }
  | selfPart {c : Census} {f : Entry → Entry} (hf : ∀ e : Entry, e.PartWrite (f e)) : CenStep own c (c.upd own f)
  | selfZero (c : Census) : CenStep own c (c.localZero own)

/-- A run of steps. -/
inductive CenSteps (own : Addr) (c : Census) : Census → Prop
  | refl : CenSteps own c c
  | tail {c' c'' : Census} : CenSteps own c c' → CenStep own c' c'' → CenSteps own c c''

theorem CenStep.once {own : Addr} {c c' : Census} (h : CenStep own c c') : CenSteps own c c' := .tail .refl h

theorem CenSteps.trans {own : Addr} {c c' c'' : Census} (h : CenSteps own c c') (h' : CenSteps own c' c'') :
    CenSteps own c c'' := by
  induction h' with
  | refl => exact h
  | tail _ hstep ih => exact ih.tail hstep

theorem CenSteps.head {own : Addr} {c c' c'' : Census} (h : CenStep own c c') (h' : CenSteps own c' c'') :
    CenSteps own c c'' := h.once.trans h'

theorem Entry.shedTo_eq (e : Entry) (level : Nat) : ∃ o, e.shedTo level = { e with shed := o } := by
  unfold Entry.shedTo
  split
  · exact ⟨some level, rfl⟩
  · exact ⟨e.shed, rfl⟩

/-! ## The walks are runs of steps -/

theorem Census.walk_steps (own : Addr) (budget : Nat) (list : List Addr) (c : Census) :
    CenSteps own c (Census.walk budget list c) := by
  induction list generalizing c with
  | nil => exact .refl
  | cons a rest ih =>
    unfold Census.walk
    split
    · exact ih c
    · rename_i level hclaim
      split
      · exact .head (.admission hclaim) (ih _)
      · exact .refl

theorem Census.shedPass_steps (own : Addr) (budget : Nat) (level : Entry → Nat) (list : List Addr) (c : Census) :
    CenSteps own c (Census.shedPass budget level list c) := by
  induction list generalizing c with
  | nil => exact .refl
  | cons a rest ih =>
    unfold Census.shedPass
    split
    · exact .refl
    · exact .head (.shed c a (level (c.get a))) (ih _)

theorem Census.shedAll_steps (own : Addr) (budget : Nat) (c : Census) : CenSteps own c (c.shedAll budget) :=
  (Census.shedPass_steps own budget _ _ c).trans (Census.shedPass_steps own budget _ _ _)

/-- A lane claim is only removed by the steps of a lane walk, never made or moved. -/
theorem Census.laneClaim_of_grant {c : Census} {a u b : Addr} {lanes : List Nat} {q : Addr × Nat} (hs : c.Shaped)
    (h : (((c.dropLaneClaim a).assign u a lanes).get b).laneClaim = some q) : (c.get b).laneClaim = some q := by
  rw [(hs.dropLaneClaim a).get_assign] at h
  have h' : ((c.dropLaneClaim a).get b).laneClaim = some q := by split at h <;> simpa using h
  rw [hs.get_dropLaneClaim] at h'
  split at h'
  · simp at h'
  · exact h'

theorem Census.laneWalk_steps (own u : Addr) (list : List Addr) {c : Census} (hs : c.Shaped)
    (hlist : ∀ a ∈ list, ∀ v n, (c.get a).laneClaim = some (v, n) → v = u) :
    CenSteps own c (Census.laneWalk u list c) := by
  induction list generalizing c with
  | nil => exact .refl
  | cons a rest ih =>
    have hrest : ∀ b ∈ rest, ∀ v n, (c.get b).laneClaim = some (v, n) → v = u :=
      fun b hb => hlist b (List.mem_cons_of_mem a hb)
    unfold Census.laneWalk
    split
    · exact ih hs hrest
    · rename_i v n hclaim
      have hv := hlist a List.mem_cons_self v n hclaim
      subst hv
      dsimp only
      split
      · rename_i hok
        refine CenSteps.head (.grant hclaim hok.1 hok.2) (ih ?_ ?_)
        · exact (hs.dropLaneClaim a).assign v a _
        · exact fun b hb w m hw => hrest b hb w m (Census.laneClaim_of_grant hs hw)
      · exact .refl

theorem Census.mem_laneWaiting {c : Census} {u a : Addr} (h : a ∈ c.laneWaiting u) :
    ∃ n, (c.get a).laneClaim = some (u, n) := by
  simp only [Census.laneWaiting, Census.byPriority, List.mem_flatMap, List.mem_filter] at h
  obtain ⟨p, -, ⟨-, hq⟩, -⟩ := h
  split at hq
  · rename_i v n hclaim
    exact ⟨n, by rw [hclaim, beq_iff_eq.mp hq]⟩
  · cases hq

theorem Census.walkUplink_steps (own u : Addr) {c : Census} (hs : c.Shaped) : CenSteps own c (c.walkUplink u) := by
  unfold Census.walkUplink
  split
  · refine Census.laneWalk_steps own u _ hs fun a ha v n hv => ?_
    obtain ⟨m, hm⟩ := Census.mem_laneWaiting ha
    rw [hv] at hm
    exact congrArg Prod.fst (Option.some.inj hm)
  · exact .refl

/-! ## What a step keeps -/

theorem CenStep.shaped {own : Addr} {c c' : Census} (h : CenStep own c c') (hs : c.Shaped) : c'.Shaped := by
  cases h with
  | admission hclaim => exact hs.upd fun _ => Entry.tableOk_of_part rfl
  | shed a level => exact hs.upd fun e => Entry.tableOk_of_part (by obtain ⟨o, ho⟩ := e.shedTo_eq level; rw [ho])
  | grant => exact (hs.dropLaneClaim _).assign _ _ _
  | notes => exact hs.of_entries rfl
  | selfPart hf => exact hs.upd fun e => (hf e).tableOk
  | selfZero => exact hs.localZero own

theorem CenSteps.shaped {own : Addr} {c c' : Census} (h : CenSteps own c c') (hs : c.Shaped) : c'.Shaped := by
  induction h with
  | refl => exact hs
  | tail _ hstep ih => exact hstep.shaped ih

theorem Census.walkMarked_steps (own : Addr) {c : Census} (hs : c.Shaped) : CenSteps own c c.walkMarked := by
  have hfold : ∀ (us : List Addr) (c : Census), c.Shaped → CenSteps own c (us.foldl Census.walkUplink c) := by
    intro us
    induction us with
    | nil => exact fun c _ => .refl
    | cons u us ih =>
      intro c hs
      have hu := Census.walkUplink_steps own u hs
      exact hu.trans (ih _ (hu.shaped hs))
  exact (hfold _ c hs).tail (.notes _ [] _)

theorem Census.Lawful.admission {c : Census} (hs : c.Shaped) (h : c.Lawful) {a : Addr} {level : Nat}
    (hclaim : (c.get a).claim = some level) : (c.upd a (fun e => e.admitAt level)).Lawful := by
  have hget := fun b => hs.get_upd a b (fun e => e.admitAt level)
  have hlevel := h.claim a level hclaim
  have hparts : ∀ b, ((c.upd a (fun e => e.admitAt level)).get b).part = (c.get b).part := fun b => by
    rw [hget]; split <;> rfl
  refine h.shrink (fun v k b ho => ?_) (fun v => ?_) (fun b q hq => .inl ⟨q, ?_⟩) (fun b x hx => ?_)
  · have ho' : (c.get v).owner k = some b := by
      rw [hget] at ho; split at ho <;> simpa [Entry.admitAt] using ho
    refine ⟨ho', ?_, ?_⟩
    · have := h.held v k b ho'
      rw [hget]; split
      · simp only [Entry.admitAt]; omega
      · exact this
    · have := h.offered v k b ho'
      rw [hget]; split <;> simpa [Entry.admitAt]
  · have := h.offer_le v
    rw [hget]; split <;> simpa [Entry.admitAt]
  · rw [hget] at hq; split at hq <;> simpa [Entry.admitAt] using hq
  · rw [hget] at hx ⊢
    split at hx
    · cases hx
    · exact if_neg ‹b ≠ a› ▸ h.claim b x hx

theorem Entry.mem_freeLanes {e : Entry} {k : Nat} (h : k ∈ e.freeLanes) : k < e.offer ∧ e.owner k = none := by
  simpa [Entry.freeLanes, Entry.owner] using h

theorem CenStep.lawful {own : Addr} {c c' : Census} (h : CenStep own c c') (hs : c.Shaped) (hl : c.Lawful) :
    c'.Lawful := by
  cases h with
  | admission hclaim => exact hl.admission hs hclaim
  | shed a level =>
    obtain ⟨o, ho⟩ := (c.get a).shedTo_eq level
    exact hl.updSame hs (by rw [ho]) (by rw [ho]) (by simp [ho]) (by simp [ho]) (by simp [ho])
  | @grant a u n hclaim hheld hfree =>
    have hd := hs.get_dropLaneClaim a
    refine (hl.dropLaneClaim hs a).assign (hs.dropLaneClaim a) ?_ ?_ ?_ ?_
    · rw [hd]; simpa using hheld
    · rw [hd]; simp
    · intro v k ho
      refine absurd ?_ (hl.unclaimed a _ hclaim v k)
      rw [hd] at ho
      split at ho <;> simpa using ho
    · intro k hk
      have := (Entry.mem_freeLanes (List.mem_of_mem_take hk)).1
      rw [hd]; split <;> simpa
  | notes => exact hl.of_entries rfl
  | selfPart hf =>
    have hw := hf (c.get own)
    exact hl.updSame hs (Entry.held_of_bare hw.bare) (Entry.claim_of_bare hw.bare) hw.laneClaim hw.offer hw.owner
  | selfZero => exact hl.localZero hs own

theorem CenSteps.lawful {own : Addr} {c c' : Census} (h : CenSteps own c c') (hs : c.Shaped) (hl : c.Lawful) :
    c'.Lawful := by
  induction h with
  | refl => exact hl
  | tail hsteps hstep ih => exact hstep.lawful (CenSteps.shaped hsteps hs) ih

/-- What no step touches beside the entries. -/
structure Census.SameClock (c c' : Census) : Prop where
  announceTimer : c'.announceTimer = c.announceTimer
  ownAnnounced : c'.ownAnnounced = c.ownAnnounced
  anomalies : c'.anomalies = c.anomalies
  deficit : c'.deficit = c.deficit
  overdraw : c'.overdraw = c.overdraw

theorem Census.SameClock.trans {c c' c'' : Census} (h : c.SameClock c') (h' : c'.SameClock c'') : c.SameClock c'' :=
  ⟨h'.announceTimer.trans h.announceTimer, h'.ownAnnounced.trans h.ownAnnounced, h'.anomalies.trans h.anomalies,
    h'.deficit.trans h.deficit, h'.overdraw.trans h.overdraw⟩

theorem Census.upd_sameClock (c : Census) (a : Addr) (f : Entry → Entry) : c.SameClock (c.upd a f) := ⟨rfl, rfl, rfl, rfl, rfl⟩

theorem Census.freeOn_sameClock (c : Census) (a u : Addr) : c.SameClock (c.freeOn a u) := by
  unfold Census.freeOn; split <;> exact ⟨rfl, rfl, rfl, rfl, rfl⟩

theorem Census.freeLanes_sameClock (c : Census) (a : Addr) : c.SameClock (c.freeLanes a) := by
  unfold Census.freeLanes
  generalize allAddrs = us
  induction us generalizing c with
  | nil => exact ⟨rfl, rfl, rfl, rfl, rfl⟩
  | cons u us ih => exact (c.freeOn_sameClock a u).trans (ih _)

theorem Census.heldZero_sameClock (c : Census) (a : Addr) : c.SameClock (c.heldZero a) := by
  unfold Census.heldZero
  exact ((c.freeLanes_sameClock a).trans (Census.upd_sameClock _ a _)).trans (Census.upd_sameClock _ a _)

theorem Census.localZero_sameClock (c : Census) (a : Addr) : c.SameClock (c.localZero a) := by
  unfold Census.localZero
  exact (Census.upd_sameClock _ a _).trans (Census.heldZero_sameClock _ a)

theorem CenStep.sameClock {own : Addr} {c c' : Census} (h : CenStep own c c') : c.SameClock c' := by
  cases h with
  | admission | shed | grant | notes | selfPart => exact ⟨rfl, rfl, rfl, rfl, rfl⟩
  | selfZero => exact c.localZero_sameClock own

theorem CenSteps.sameClock {own : Addr} {c c' : Census} (h : CenSteps own c c') : c.SameClock c' := by
  induction h with
  | refl => exact ⟨rfl, rfl, rfl, rfl, rfl⟩
  | tail _ hstep ih => exact ih.trans hstep.sameClock

/-! ## A census without entries stays so -/

def Census.allVacant (c : Census) : Prop := ∀ a, c.get a = Entry.vacant

theorem Census.allVacant.upd {c : Census} (hs : c.Shaped) (h : c.allVacant) {a : Addr} {f : Entry → Entry}
    (hf : f Entry.vacant = Entry.vacant) : (c.upd a f).allVacant := fun b => by
  rw [hs.get_upd, h b, hf]; split <;> rfl

theorem Census.allVacant.localZero {c : Census} (hs : c.Shaped) (h : c.allVacant) (a : Addr) :
    (c.localZero a).allVacant := fun b => by
  rw [hs.get_localZero, h b]; split <;> rfl

theorem CenStep.allVacant {own : Addr} {c c' : Census} (h : CenStep own c c') (hs : c.Shaped) (hv : c.allVacant) :
    c'.allVacant := by
  cases h with
  | @admission a level hclaim => rw [hv a] at hclaim; cases hclaim
  | shed a level =>
    refine hv.upd hs ?_
    simp [Entry.shedTo, Entry.vacant, Entry.effective]
  | @grant a u n hclaim => rw [hv a] at hclaim; cases hclaim
  | notes => exact hv
  | selfPart hf => exact hv.upd hs (hf _).vacant
  | selfZero => exact hv.localZero hs own

theorem CenSteps.allVacant {own : Addr} {c c' : Census} (h : CenSteps own c c') (hs : c.Shaped) (hv : c.allVacant) :
    c'.allVacant := by
  induction h with
  | refl => exact hv
  | tail hsteps hstep ih => exact hstep.allVacant (CenSteps.shaped hsteps hs) ih

end Sys2Proof.Machine
end

section
/-! PROOFS. What a follow-up and the role blocks leave of each entry: all but levels and lanes, and of a peer's levels
and lanes only what admission (R76) and the lane walk (R169) give it. -/

namespace Sys2Proof.Machine

/-! ## What no step writes -/

/-- An entry without its levels and its role part. -/
def Entry.core (e : Entry) : Entry := { e with held := 0, claim := none, shed := none, part := .unknown }

/-- A role part without lane claim and lane table. -/
def RolePart.face : RolePart → RolePart
  | .blade p => .blade { p with laneClaim := none }
  | .uplink p => .uplink { p with table := [] }
  | .fan p => .fan p
  | .supply p => .supply p
  | .unknown => .unknown

theorem Entry.core_of_bare {e e' : Entry} (h : e'.bare = e.bare) : e'.core = e.core := by
  have : e'.bare.core = e.bare.core := by rw [h]
  exact this

section
variable (e : Entry) (a : Addr)

theorem Entry.freeing_core : (e.freeing a).core = e.core := Entry.core_of_bare (e.freeing_bare a)
theorem Entry.withoutLaneClaim_core : e.withoutLaneClaim.core = e.core := Entry.core_of_bare (e.updBlade_bare _)

theorem Entry.freeing_face : (e.freeing a).part.face = e.part.face := by
  cases h : e.part <;> simp [Entry.freeing, Entry.updUplink, RolePart.face, h]
theorem Entry.assigned_face (lanes : List Nat) : (e.assigned a lanes).part.face = e.part.face := by
  cases h : e.part <;> simp [Entry.assigned, Entry.updUplink, RolePart.face, h]
theorem Entry.withoutLaneClaim_face : e.withoutLaneClaim.part.face = e.part.face := by
  cases h : e.part <;> simp [Entry.withoutLaneClaim, Entry.updBlade, RolePart.face, h]

end

theorem Entry.role_of_face {e e' : Entry} (h : e'.part.face = e.part.face) : e'.role = e.role := by
  cases hp : e.part <;> cases hp' : e'.part <;> simp [RolePart.face, hp, hp'] at h <;> simp [Entry.role, hp, hp']

theorem CenStep.core {own : Addr} {c c' : Census} (h : CenStep own c c') (hs : c.Shaped) (b : Addr) :
    (c'.get b).core = (c.get b).core := by
  cases h with
  | admission => rw [hs.get_upd]; split <;> rfl
  | shed a level =>
    rw [hs.get_upd]
    split
    · obtain ⟨o, ho⟩ := (c.get b).shedTo_eq level
      rw [ho]; rfl
    · rfl
  | @grant a u n =>
    rw [(hs.dropLaneClaim a).get_assign, hs.get_dropLaneClaim]
    have hd : (if b = a then (c.get b).withoutLaneClaim else c.get b).core = (c.get b).core := by
      split
      · exact Entry.withoutLaneClaim_core _
      · rfl
    split
    · exact (Entry.core_of_bare (Entry.assigned_bare _ _ _)).trans hd
    · exact hd
  | notes => rfl
  | selfPart hf =>
    rw [hs.get_upd]
    split
    · exact Entry.core_of_bare (hf _).bare
    · rfl
  | selfZero =>
    rw [hs.get_localZero]
    split
    · exact (Entry.withoutLaneClaim_core ((c.get b).freeing own)).trans (Entry.freeing_core _ own)
    · exact Entry.freeing_core _ own

theorem CenSteps.core {own : Addr} {c c' : Census} (h : CenSteps own c c') (hs : c.Shaped) (b : Addr) :
    (c'.get b).core = (c.get b).core := by
  induction h with
  | refl => rfl
  | tail hsteps hstep ih => exact (hstep.core (CenSteps.shaped hsteps hs) b).trans ih

theorem CenStep.role {own : Addr} {c c' : Census} (h : CenStep own c c') (hs : c.Shaped) (b : Addr) :
    (c'.get b).role = (c.get b).role := by
  cases h with
  | admission => rw [hs.get_upd]; split <;> rfl
  | shed a level =>
    rw [hs.get_upd]
    split
    · obtain ⟨o, ho⟩ := (c.get b).shedTo_eq level
      rw [ho]; rfl
    · rfl
  | @grant a u n =>
    refine Entry.role_of_face ?_
    rw [(hs.dropLaneClaim a).get_assign, hs.get_dropLaneClaim]
    split <;> split <;> simp only [Entry.assigned_face, Entry.withoutLaneClaim_face]
  | notes => rfl
  | selfPart hf =>
    rw [hs.get_upd]
    split
    · exact (hf _).role
    · rfl
  | selfZero =>
    refine Entry.role_of_face ?_
    rw [hs.get_localZero]
    split
    · exact (Entry.withoutLaneClaim_face ((c.get b).freeing own)).trans (Entry.freeing_face _ own)
    · exact Entry.freeing_face _ own

theorem CenSteps.role {own : Addr} {c c' : Census} (h : CenSteps own c c') (hs : c.Shaped) (b : Addr) :
    (c'.get b).role = (c.get b).role := by
  induction h with
  | refl => rfl
  | tail hsteps hstep ih => exact (hstep.role (CenSteps.shaped hsteps hs) b).trans ih

/-- The offers are written by the offer logic alone (R165). -/
theorem CenStep.offer {own : Addr} {c c' : Census} (h : CenStep own c c') (hs : c.Shaped) (b : Addr) :
    (c'.get b).offer = (c.get b).offer := by
  cases h with
  | admission => rw [hs.get_upd]; split <;> simp [Entry.admitAt]
  | shed a level =>
    rw [hs.get_upd]
    split
    · obtain ⟨o, ho⟩ := (c.get b).shedTo_eq level
      simp [ho]
    · rfl
  | @grant a u n =>
    rw [(hs.dropLaneClaim a).get_assign, hs.get_dropLaneClaim]
    split <;> split <;> simp
  | notes => rfl
  | selfPart hf =>
    rw [hs.get_upd]
    split
    · exact (hf _).offer
    · rfl
  | selfZero => rw [hs.get_localZero]; split <;> simp

theorem CenSteps.offer {own : Addr} {c c' : Census} (h : CenSteps own c c') (hs : c.Shaped) (b : Addr) :
    (c'.get b).offer = (c.get b).offer := by
  induction h with
  | refl => rfl
  | tail hsteps hstep ih => exact (hstep.offer (CenSteps.shaped hsteps hs) b).trans ih

/-! ## A peer's role part and levels -/

/-- The held level and the claim of an entry stand, or the claim has been admitted (R76). -/
def Entry.Admitted (e e' : Entry) : Prop :=
  (e'.held = e.held ∧ e'.claim = e.claim) ∨ ∃ x, e.claim = some x ∧ e'.held = x ∧ e'.claim = none

theorem Entry.Admitted.trans {e e' e'' : Entry} (h : e.Admitted e') (h' : e'.Admitted e'') : e.Admitted e'' := by
  rcases h with ⟨hheld, hclaim⟩ | ⟨x, hx, hheld, hclaim⟩ <;> rcases h' with ⟨hheld', hclaim'⟩ | ⟨y, hy, hheld', hclaim'⟩
  · exact .inl ⟨hheld'.trans hheld, hclaim'.trans hclaim⟩
  · exact .inr ⟨y, hclaim ▸ hy, hheld', hclaim'⟩
  · exact .inr ⟨x, hx, hheld'.trans hheld, hclaim'.trans hclaim⟩
  · rw [hclaim] at hy; cases hy

section
variable {own b : Addr} {c c' : Census} (hs : c.Shaped) (hb : b ≠ own)
include hs hb

theorem CenStep.face (h : CenStep own c c') : (c'.get b).part.face = (c.get b).part.face := by
  cases h with
  | admission => rw [hs.get_upd]; split <;> rfl
  | shed a level =>
    rw [hs.get_upd]
    split
    · obtain ⟨o, ho⟩ := (c.get b).shedTo_eq level
      rw [ho]
    · rfl
  | @grant a u n =>
    rw [(hs.dropLaneClaim a).get_assign, hs.get_dropLaneClaim]
    split <;> split <;> simp only [Entry.assigned_face, Entry.withoutLaneClaim_face]
  | notes => rfl
  | selfPart => rw [hs.get_upd, if_neg hb]
  | selfZero => rw [hs.get_localZero, if_neg hb, Entry.freeing_face]

theorem CenSteps.face (h : CenSteps own c c') : (c'.get b).part.face = (c.get b).part.face := by
  induction h with
  | refl => rfl
  | tail hsteps hstep ih => exact (hstep.face (CenSteps.shaped hsteps hs) hb).trans ih

theorem CenStep.admitted (h : CenStep own c c') : (c.get b).Admitted (c'.get b) := by
  cases h with
  | @admission a level hclaim =>
    rw [hs.get_upd]
    split
    · exact .inr ⟨level, ‹b = a› ▸ hclaim, rfl, rfl⟩
    · exact .inl ⟨rfl, rfl⟩
  | shed a level =>
    refine .inl ?_
    rw [hs.get_upd]
    split
    · obtain ⟨o, ho⟩ := (c.get b).shedTo_eq level
      rw [ho]; exact ⟨rfl, rfl⟩
    · exact ⟨rfl, rfl⟩
  | @grant a u n =>
    refine .inl ?_
    rw [(hs.dropLaneClaim a).get_assign, hs.get_dropLaneClaim]
    split <;> split <;> simp
  | notes => exact .inl ⟨rfl, rfl⟩
  | selfPart => rw [hs.get_upd, if_neg hb]; exact .inl ⟨rfl, rfl⟩
  | selfZero => rw [hs.get_localZero, if_neg hb]; exact .inl ⟨Entry.freeing_held _ _, Entry.freeing_claim _ _⟩

theorem CenSteps.admitted (h : CenSteps own c c') : (c.get b).Admitted (c'.get b) := by
  induction h with
  | refl => exact .inl ⟨rfl, rfl⟩
  | tail hsteps hstep ih => exact ih.trans (hstep.admitted (CenSteps.shaped hsteps hs) hb)

end

/-! ## A station's lanes and its lane claim -/

/-- A step that is no grant to station b leaves its lane claim and its lanes; a grant gives it as many free lanes as it
claims. -/
theorem CenStep.lanes {own b : Addr} {c c' : Census} (h : CenStep own c c') (hs : c.Shaped) (hb : b ≠ own) :
    ((c'.get b).laneClaim = (c.get b).laneClaim ∧ ∀ v k, (c'.get v).owner k = some b ↔ (c.get v).owner k = some b) ∨
    ∃ u n, (c.get b).laneClaim = some (u, n) ∧ 0 < (c.get b).held ∧ n ≤ (c.get u).freeLanes.length ∧
      c' = (c.dropLaneClaim b).assign u b ((c.get u).freeLanes.take n) := by
  cases h with
  | admission =>
    refine .inl ⟨by rw [hs.get_upd]; split <;> simp [Entry.admitAt], fun v k => ?_⟩
    rw [hs.get_upd]; split <;> simp [Entry.admitAt]
  | shed a level =>
    have heq : ∀ e : Entry, (e.shedTo level).laneClaim = e.laneClaim ∧ ∀ k, (e.shedTo level).owner k = e.owner k := by
      intro e
      obtain ⟨o, ho⟩ := e.shedTo_eq level
      rw [ho]; simp
    refine .inl ⟨by rw [hs.get_upd]; split <;> simp [heq], fun v k => ?_⟩
    rw [hs.get_upd]; split <;> simp [heq]
  | @grant a u n hclaim hheld hfree =>
    by_cases hab : b = a
    · subst hab
      exact .inr ⟨u, n, hclaim, hheld, hfree, rfl⟩
    · have hd := (hs.dropLaneClaim a).get_assign u a (lanes := (c.get u).freeLanes.take n)
      refine .inl ⟨?_, fun v k => ?_⟩
      · rw [hd, hs.get_dropLaneClaim, if_neg hab]; split <;> simp
      · rw [hd]
        have hdrop : ((c.dropLaneClaim a).get v).owner k = (c.get v).owner k := by
          rw [hs.get_dropLaneClaim]; split <;> simp
        split
        · rename_i hv
          rw [Entry.assigned_owner _ _ ((hs.dropLaneClaim a).tables v), hdrop]
          split
          · rename_i hk
            have hnone := (Entry.mem_freeLanes (List.mem_of_mem_take hk.1)).2
            rw [hv, hnone]
            simp [Ne.symm hab]
          · rfl
        · rw [hdrop]
  | notes => exact .inl ⟨rfl, fun _ _ => Iff.rfl⟩
  | selfPart hf =>
    refine .inl ⟨by rw [hs.get_upd, if_neg hb], fun v k => ?_⟩
    rw [hs.get_upd]
    split
    · rw [(hf _).owner]
    · rfl
  | selfZero =>
    refine .inl ⟨by rw [hs.get_localZero, if_neg hb, Entry.freeing_laneClaim], fun v k => ?_⟩
    have hfree : ((c.get v).freeing own).owner k = some b ↔ (c.get v).owner k = some b := by
      rw [Entry.freeing_owner]
      split
      · rename_i ho; simp [ho, Ne.symm hb]
      · rfl
    rw [hs.get_localZero]
    split <;> simpa using hfree

theorem Census.lanesOf_congr {c c' : Census} {a : Addr} (h : ∀ v k, (c'.get v).owner k = some a ↔ (c.get v).owner k = some a)
    (u : Addr) : (c'.get u).lanesOf a = (c.get u).lanesOf a := by
  simp only [Entry.lanesOf]
  refine List.filter_congr fun k _ => ?_
  rw [Bool.eq_iff_iff, beq_iff_eq, beq_iff_eq]
  exact h u k

/-- Station a waits for n lanes on uplink u and owns none, or has been given n lanes there. -/
def Census.Served (c : Census) (a u : Addr) (n : Nat) : Prop :=
  ((c.get a).laneClaim = some (u, n) ∧ ∀ v k, (c.get v).owner k ≠ some a) ∨
  ((c.get a).laneClaim = none ∧ ((c.get u).lanesOf a).length = n)

theorem Entry.freeLanes_nodup (e : Entry) : e.freeLanes.Nodup := List.nodup_range.filter _

/-- As many lanes are owned as were taken from the free ones. -/
theorem Entry.assigned_lanesOf_length {e : Entry} {a : Addr} {n : Nat} (he : e.tableOk) (hoffer : e.offer ≤ Config.lanes)
    (hnone : ∀ k, e.owner k ≠ some a) (hn : n ≤ e.freeLanes.length) :
    ((e.assigned a (e.freeLanes.take n)).lanesOf a).length = n := by
  have hperm : ((e.assigned a (e.freeLanes.take n)).lanesOf a).Perm (e.freeLanes.take n) := by
    refine (List.perm_ext_iff_of_nodup ?_ ?_).mpr fun k => ?_
    · exact List.nodup_range.filter _
    · exact e.freeLanes_nodup.sublist (List.take_sublist _ _)
    · rw [Entry.mem_lanesOf, Entry.assigned_owner _ _ he]
      constructor
      · rintro ⟨-, ho⟩
        split at ho
        · exact (‹_ ∧ _› : _ ∧ _).1
        · exact absurd ho (hnone k)
      · intro hk
        have hlt := (Entry.mem_freeLanes (List.mem_of_mem_take hk)).1
        have hup : e.uplink.isSome := by
          cases hu : e.uplink with
          | none => simp [Entry.offer, hu] at hlt
          | some p => rfl
        exact ⟨by omega, if_pos ⟨hk, by omega, hup⟩⟩
  rw [hperm.length_eq, List.length_take]
  omega

theorem CenStep.served {own a u : Addr} {n : Nat} {c c' : Census} (h : CenStep own c c') (hs : c.Shaped) (ha : a ≠ own)
    (hoffer : (c.get u).offer ≤ Config.lanes) (hserved : c.Served a u n) : c'.Served a u n := by
  rcases h.lanes hs ha with ⟨hclaim, howner⟩ | ⟨v, m, hclaim, -, hm, rfl⟩
  · rcases hserved with ⟨hwait, hnone⟩ | ⟨hdone, hlen⟩
    · exact .inl ⟨hclaim.trans hwait, fun v k ho => hnone v k ((howner v k).mp ho)⟩
    · exact .inr ⟨hclaim.trans hdone, by rw [Census.lanesOf_congr howner, hlen]⟩
  · rcases hserved with ⟨hwait, hnone⟩ | ⟨hdone, -⟩
    · obtain ⟨rfl, rfl⟩ := Prod.mk.inj (Option.some.inj (hclaim.symm.trans hwait))
      have hget := (hs.dropLaneClaim a).get_assign v a (lanes := (c.get v).freeLanes.take m)
      have hdrop : ∀ b, ((c.dropLaneClaim a).get b).uplink = (c.get b).uplink := fun b => by
        rw [hs.get_dropLaneClaim]; split <;> simp
      refine .inr ⟨?_, ?_⟩
      · rw [hget, hs.get_dropLaneClaim]; split <;> simp
      · have hlen := Entry.assigned_lanesOf_length (hs.tables v) hoffer (hnone v) hm
        refine Eq.trans ?_ hlen
        rw [hget, if_pos rfl]
        simp only [Entry.lanesOf, Entry.table, Entry.assigned, Entry.updUplink_uplink, hdrop]
    · rw [hdone] at hclaim; cases hclaim

theorem CenSteps.served {own a u : Addr} {n : Nat} {c c' : Census} (h : CenSteps own c c') (hs : c.Shaped)
    (ha : a ≠ own) (hoffer : (c.get u).offer ≤ Config.lanes) (hserved : c.Served a u n) : c'.Served a u n := by
  induction h with
  | refl => exact hserved
  | tail hsteps hstep ih =>
    have hs' := CenSteps.shaped hsteps hs
    exact hstep.served hs' ha (by rw [CenSteps.offer hsteps hs]; exact hoffer) ih

/-- A station without a lane claim keeps its lanes, and makes no claim. -/
theorem CenSteps.unclaimedLanes {own a : Addr} {c c' : Census} (h : CenSteps own c c') (hs : c.Shaped) (ha : a ≠ own)
    (hnone : (c.get a).laneClaim = none) :
    (c'.get a).laneClaim = none ∧ ∀ v k, (c'.get v).owner k = some a ↔ (c.get v).owner k = some a := by
  induction h with
  | refl => exact ⟨hnone, fun _ _ => Iff.rfl⟩
  | tail hsteps hstep ih =>
    obtain ⟨hclaim, howner⟩ := ih
    rcases hstep.lanes (CenSteps.shaped hsteps hs) ha with ⟨hsame, howner'⟩ | ⟨v, m, hclaim', -⟩
    · exact ⟨hsame.trans hclaim, fun v k => (howner' v k).trans (howner v k)⟩
    · rw [hclaim] at hclaim'; cases hclaim'

/-- A station without power and without a power claim is given no lanes. -/
theorem CenSteps.powerlessLanes {own a : Addr} {c c' : Census} (h : CenSteps own c c') (hs : c.Shaped) (ha : a ≠ own)
    (hheld : (c.get a).held = 0) (hclaim : (c.get a).claim = none) :
    (c'.get a).laneClaim = (c.get a).laneClaim ∧ ∀ v k, (c'.get v).owner k = some a ↔ (c.get v).owner k = some a := by
  induction h with
  | refl => exact ⟨rfl, fun _ _ => Iff.rfl⟩
  | @tail d d' hsteps hstep ih =>
    obtain ⟨hlane, howner⟩ := ih
    have hzero : (d.get a).held = 0 := by
      rcases CenSteps.admitted hs ha hsteps with ⟨hd, -⟩ | ⟨x, hx, -⟩
      · exact hd.trans hheld
      · rw [hclaim] at hx; cases hx
    rcases hstep.lanes (CenSteps.shaped hsteps hs) ha with ⟨hsame, howner'⟩ | ⟨v, m, -, hpos, -⟩
    · exact ⟨hsame.trans hlane, fun v k => (howner' v k).trans (howner v k)⟩
    · omega

end Sys2Proof.Machine
end

section
/-! PROOFS. The follow-up (R25) and the evaluation of the role blocks, as a run of small moves of the state: census steps,
the own offer, events, requests in the slots of the clients, and the registers of the station's own role. -/

namespace Sys2Proof.Machine

/-! ## The fan drive's sizes and limits -/

/-- The tach counts (R136) and the saturation count (R140) within their limits. -/
def Fdu.within (f : Fdu) : Prop := (∀ c ∈ f.channels, c.tach ≤ Config.counterMax) ∧ f.saturation ≤ 8

/-- A change of the fan drive that keeps its six channels and its limits. -/
structure Fdu.Keeps (f g : Fdu) : Prop where
  length : f.channels.length = Config.fans → g.channels.length = Config.fans
  within : f.within → g.within

theorem Fdu.Keeps.refl (f : Fdu) : f.Keeps f := ⟨id, id⟩

theorem Fdu.Keeps.trans {f g h : Fdu} (hfg : f.Keeps g) (hgh : g.Keeps h) : f.Keeps h :=
  ⟨hgh.length ∘ hfg.length, hgh.within ∘ hfg.within⟩

theorem Fdu.Keeps.of_channels {f g : Fdu} (hc : g.channels = f.channels) (hs : f.saturation ≤ 8 → g.saturation ≤ 8) :
    f.Keeps g := ⟨fun h => hc ▸ h, fun h => ⟨hc ▸ h.1, hs h.2⟩⟩

theorem Fdu.channel_tach_le {f : Fdu} (h : f.within) (k : Nat) : (f.channel k).tach ≤ Config.counterMax := by
  simp only [Fdu.channel, List.getD_eq_getElem?_getD]
  by_cases hk : k < f.channels.length
  · rw [List.getElem?_eq_getElem hk]
    exact h.1 _ (List.getElem_mem hk)
  · rw [List.getElem?_eq_none (by omega)]
    exact Nat.zero_le _

theorem Fdu.keeps_mapChannels (f : Fdu) {g : Nat → FanChannel → FanChannel} (hg : ∀ k c, (g k c).tach ≤ c.tach) :
    f.Keeps (f.mapChannels g) := by
  refine ⟨fun _ => f.mapChannels_length g, fun h => ⟨fun c hc => ?_, h.2⟩⟩
  obtain ⟨k, -, rfl⟩ := List.mem_map.mp hc
  exact Nat.le_trans (hg k _) (Fdu.channel_tach_le h k)

theorem Fdu.keeps_updChannel (f : Fdu) (k : Nat) {g : FanChannel → FanChannel}
    (hg : ∀ c, c.tach ≤ Config.counterMax → (g c).tach ≤ Config.counterMax) : f.Keeps (f.updChannel k g) := by
  refine ⟨fun h => (f.updChannel_length k g).trans h, fun h => ⟨fun c hc => ?_, h.2⟩⟩
  rcases List.mem_or_eq_of_mem_set hc with hc | rfl
  · exact h.1 c hc
  · exact hg _ (Fdu.channel_tach_le h k)

section
variable (c : FanChannel) (d p : Nat)

theorem FanChannel.begin_tach : c.begin.tach = c.tach := by
  unfold FanChannel.begin; split
  · split <;> rfl
  all_goals rfl
theorem FanChannel.update_tach : (c.update d p).tach = c.tach := by unfold FanChannel.update; split <;> rfl
theorem FanChannel.loadNow_tach : c.loadNow.tach = c.tach := by unfold FanChannel.loadNow; split <;> rfl
theorem FanChannel.beginMute_tach : (c.beginMute p).tach = c.tach := by
  unfold FanChannel.beginMute; split
  · rfl
  · exact c.begin_tach

end

/-! ## A request touches the queue alone (R13) -/

theorem State.request_eq (s : State) (r : FrameReq) : s.request r = { s with pbc := (s.request r).pbc } := by
  unfold State.request State.enqueue
  split
  · split <;> rfl
  · rfl

theorem State.requestIf_eq (s : State) (b : Bool) (r : FrameReq) :
    s.requestIf b r = { s with pbc := (s.requestIf b r).pbc } := by
  unfold State.requestIf
  split
  · exact s.request_eq r
  · rfl

@[simp] theorem State.request_cen (s : State) (r : FrameReq) : (s.request r).cen = s.cen := by rw [s.request_eq r]
@[simp] theorem State.request_life (s : State) (r : FrameReq) : (s.request r).life = s.life := by rw [s.request_eq r]
@[simp] theorem State.request_client (s : State) (r : FrameReq) : (s.request r).client = s.client := by rw [s.request_eq r]
@[simp] theorem State.request_rsq (s : State) (r : FrameReq) : (s.request r).rsq = s.rsq := by rw [s.request_eq r]
@[simp] theorem State.request_spm (s : State) (r : FrameReq) : (s.request r).spm = s.spm := by rw [s.request_eq r]
@[simp] theorem State.request_lmp (s : State) (r : FrameReq) : (s.request r).lmp = s.lmp := by rw [s.request_eq r]
@[simp] theorem State.request_lnu (s : State) (r : FrameReq) : (s.request r).lnu = s.lnu := by rw [s.request_eq r]
@[simp] theorem State.request_lpt (s : State) (r : FrameReq) : (s.request r).lpt = s.lpt := by rw [s.request_eq r]
@[simp] theorem State.requestIf_cen (s : State) (b : Bool) (r : FrameReq) : (s.requestIf b r).cen = s.cen := by
  rw [s.requestIf_eq b r]
@[simp] theorem State.requestIf_life (s : State) (b : Bool) (r : FrameReq) : (s.requestIf b r).life = s.life := by
  rw [s.requestIf_eq b r]
@[simp] theorem State.requestIf_client (s : State) (b : Bool) (r : FrameReq) : (s.requestIf b r).client = s.client := by
  rw [s.requestIf_eq b r]
@[simp] theorem State.requestIf_rsq (s : State) (b : Bool) (r : FrameReq) : (s.requestIf b r).rsq = s.rsq := by
  rw [s.requestIf_eq b r]
@[simp] theorem State.requestIf_spm (s : State) (b : Bool) (r : FrameReq) : (s.requestIf b r).spm = s.spm := by
  rw [s.requestIf_eq b r]
@[simp] theorem State.requestIf_lmp (s : State) (b : Bool) (r : FrameReq) : (s.requestIf b r).lmp = s.lmp := by
  rw [s.requestIf_eq b r]
@[simp] theorem State.requestIf_lnu (s : State) (b : Bool) (r : FrameReq) : (s.requestIf b r).lnu = s.lnu := by
  rw [s.requestIf_eq b r]
@[simp] theorem State.requestIf_lpt (s : State) (b : Bool) (r : FrameReq) : (s.requestIf b r).lpt = s.lpt := by
  rw [s.requestIf_eq b r]

/-! ## The moves -/

/-- The slots that the role blocks write in an answer, by the state of the station. -/
def StationState.answers (x : StationState) : SlotId → Bool
  | .airflowDrop => x.listening
  | .heat => x == .joined || x == .leaving
  | .lanesDrop | .powerClaim | .powerRelease | .laneClaim | .laneRelease => x == .joined
  | .capacityDrop | .depart | .announce | .inventory | .query => false

/-- What the host and the timers have set in the client of a blade. -/
def Client.wishes (c : Client) : HostTarget × Timer × Nat × Nat := (c.hostTarget, c.criticalTimer, c.lanesWanted, c.lastSent)

/-- What the ends of shifts have left in the Lane Map Port. -/
def Lmp.record (l : Lmp) : Option LaneMap × Bool × CrossbarState := (l.committed, l.trusted, l.crossbar)

/-- The shed targets, with SHED_TARGET for the own one (R90). -/
def State.shedTold (s : State) : State :=
  let t := s.updCen (fun c => c.shedAll (s.cen.shedBudget s.policy))
  match t.self.shed with
  | some level => t.raiseIf (s.self.shed != some level) (.shedTarget level)
  | none => t

/-- The deficit flag, with its events (R89). -/
def State.deficitTold (s : State) (budget : Nat) : State :=
  if s.cen.effLoad ≤ budget then
    if s.cen.deficit then (s.updCen (fun c => { c with deficit := false })).raise .budgetRestored else s
  else if s.cen.deficit then s
  else (s.updCen (fun c => { c with deficit := true })).raise (.budgetDeficit (s.cen.effLoad - budget))

theorem State.shed_eq (s : State) : s.shed = s.shedTold.deficitTold (s.cen.shedBudget s.policy) := rfl

/-- The station is a blade, or its sequencer is in use all the same. -/
abbrev State.ownsRails (s : State) : Prop := s.role = .blade ∨ s.rsq ≠ Rsq.reset

/-- A run of moves of the follow-up and the role blocks; `offers` allows a change of the own offer, `sequences` a move of
the Rail Sequencer. -/
inductive Answer (offers sequences : Bool) : State → State → Prop
  | refl (s : State) : Answer offers sequences s s
  | trans {s t u : State} : Answer offers sequences s t → Answer offers sequences t u → Answer offers sequences s u
  | events (s : State) (es : List Event) : Answer offers sequences s (s.raiseAll es)
  | census (s : State) {c : Census} (hsteps : s.cen.Shaped → CenSteps s.addr s.cen c) (hclock : s.cen.SameClock c) :
    Answer offers sequences s { s with cen := c }
  | offer (s : State) {k : Nat} (hoffers : offers = true) (hk : k ≤ Config.lanes) :
    Answer offers sequences s (s.updCen (fun c => c.setOffer s.addr k))
  | flags (s : State) (hacting : s.station.acting = true) (deficit overdraw : Bool) :
    Answer offers sequences s { s with cen := { s.cen with deficit := deficit, overdraw := overdraw } }
  | request (s : State) {r : FrameReq} (hr : s.station.answers r.slot = true) : Answer offers sequences s (s.request r)
  | trim (s : State) (wanted : Option FrameReq) {i : SlotId} (hi : s.station.answers i = true) :
    Answer offers sequences s (s.trimSlot wanted i)
  | client (s : State) (c : Client) (hwishes : c.wishes = s.client.wishes) : Answer offers sequences s { s with client := c }
  | rails (s : State) (r : Rsq) (hseq : sequences = true) (howns : s.ownsRails) : Answer offers sequences s { s with rsq := r }
  | fans (s : State) {f : Fdu} (hrole : s.role = .fan) (hf : s.fdu.Keeps f) : Answer offers sequences s { s with fdu := f }
  | lanePort (s : State) (l : Lmp) (hrole : s.role = .uplink) (hrecord : l.record = s.lmp.record) :
    Answer offers sequences s { s with lmp := l }

namespace Answer

variable {o w : Bool} {s t : State}

theorem ofIf {p : Prop} [Decidable p] {u : State} (ht : Answer o w s t) (hu : Answer o w s u) :
    Answer o w s (if p then t else u) := by split <;> assumption

theorem raise (s : State) (e : Event) : Answer o w s (s.raise e) := events s [e]

theorem raiseIf (s : State) (b : Bool) (e : Event) : Answer o w s (s.raiseIf b e) := by
  unfold State.raiseIf; split
  · exact raise s e
  · exact refl s

/-- A request is taken in the states that listen, and is no move elsewhere. -/
theorem requestIf (s : State) (b : Bool) {r : FrameReq}
    (hr : b = true → s.station.listening = true → s.station.answers r.slot = true) : Answer o w s (s.requestIf b r) := by
  unfold State.requestIf; split
  · by_cases hl : s.station.listening = true
    · exact request s (hr ‹_› hl)
    · rw [State.request, if_neg hl]
      exact refl s
  · exact refl s

theorem steps (s : State) {f : Census → Census} (h : s.cen.Shaped → CenSteps s.addr s.cen (f s.cen))
    (hclock : s.cen.SameClock (f s.cen)) : Answer o w s (s.updCen f) := census s h hclock

theorem notes (s : State) (marked : List Addr) (report : TallyReport) :
    Answer o w s { s with cen := { s.cen with marked := marked, report := report } } :=
  census s (fun _ => (CenStep.notes s.cen marked report).once) ⟨rfl, rfl, rfl, rfl, rfl⟩

theorem selfPart (s : State) {f : Entry → Entry} (hf : ∀ e : Entry, e.PartWrite (f e)) : Answer o w s (s.updSelf f) :=
  census s (fun _ => (CenStep.selfPart hf).once) ⟨rfl, rfl, rfl, rfl, rfl⟩

/-! ## The follow-up -/

theorem lanesLost (s : State) (pre : Census) (k : Follow) : Answer o w s (s.lanesLost pre k) := by
  unfold State.lanesLost; split
  · exact refl s
  · exact raiseIf s _ _

theorem walk_sameClock (budget : Nat) (list : List Addr) (c : Census) : c.SameClock (Census.walk budget list c) :=
  CenSteps.sameClock (Census.walk_steps 0 budget list c)

theorem walkPower (s : State) (pre : Census) : Answer o w s (s.walkPower pre) := by
  have hwalk : Answer o w s (s.updCen (fun c => Census.walk (c.admission s.policy) c.waiting c)) :=
    steps s (fun _ => Census.walk_steps _ _ _ _) (walk_sameClock _ _ _)
  unfold State.walkPower
  split
  · exact hwalk
  · dsimp only; split
    · exact hwalk.trans (raise _ _)
    · exact hwalk.trans (raiseIf _ _ _)

theorem shed (hacting : s.station.acting = true) : Answer o w s s.shed := by
  rw [s.shed_eq]
  refine Answer.trans (t := s.shedTold) ?_ ?_
  · refine Answer.trans (steps s (f := fun c => c.shedAll (s.cen.shedBudget s.policy))
      (fun _ => Census.shedAll_steps _ _ _) (CenSteps.sameClock (Census.shedAll_steps 0 _ _))) ?_
    unfold State.shedTold; dsimp only; split
    · exact raiseIf _ _ _
    · exact refl _
  · have hu : s.shedTold.station.acting = true := by
      unfold State.shedTold; dsimp only; split
      · unfold State.raiseIf; split <;> exact hacting
      · exact hacting
    generalize s.shedTold = u at hu
    unfold State.deficitTold
    split
    · split
      · exact (flags u hu false u.cen.overdraw).trans (raise _ _)
      · exact refl u
    · split
      · exact refl u
      · exact (flags u hu true u.cen.overdraw).trans (raise _ _)

theorem laneWalk_sameClock (u : Addr) (list : List Addr) (c : Census) : c.SameClock (Census.laneWalk u list c) := by
  induction list generalizing c with
  | nil => exact ⟨rfl, rfl, rfl, rfl, rfl⟩
  | cons a rest ih =>
    unfold Census.laneWalk; split
    · exact ih c
    · dsimp only; split
      · exact Census.SameClock.trans (c' := (c.dropLaneClaim a).assign u a _) ⟨rfl, rfl, rfl, rfl, rfl⟩ (ih _)
      · exact ⟨rfl, rfl, rfl, rfl, rfl⟩

theorem walkMarked_sameClock (c : Census) : c.SameClock c.walkMarked := by
  have hfold : ∀ (us : List Addr) (c : Census), c.SameClock (us.foldl Census.walkUplink c) := by
    intro us
    induction us with
    | nil => exact fun c => ⟨rfl, rfl, rfl, rfl, rfl⟩
    | cons u us ih =>
      intro c
      refine Census.SameClock.trans ?_ (ih (c.walkUplink u))
      unfold Census.walkUplink; split
      · exact laneWalk_sameClock u _ c
      · exact ⟨rfl, rfl, rfl, rfl, rfl⟩
  exact (hfold _ c).trans ⟨rfl, rfl, rfl, rfl, rfl⟩

theorem walkLanes (s : State) : Answer o w s s.walkLanes := by
  have hwalk : Answer o w s (s.updCen Census.walkMarked) :=
    steps s (fun hs => Census.walkMarked_steps _ hs) (walkMarked_sameClock _)
  unfold State.walkLanes
  dsimp only; split
  · exact hwalk
  · split
    · exact hwalk
    · exact (hwalk.trans (client (s.updCen Census.walkMarked)
        { s.client with unavailableReported := false } rfl)).trans (raiseIf _ _ _)

theorem overdrawCheck (hacting : s.station.acting = true) : Answer o w s s.overdrawCheck := by
  unfold State.overdrawCheck
  dsimp only; split
  · exact (flags s hacting s.cen.deficit true).trans (raise _ _)
  · split
    · exact (flags s hacting s.cen.deficit false).trans (raise _ _)
    · exact refl s

theorem recordTally (s : State) : Answer o w s s.recordTally := notes s s.cen.marked (s.cen.tally s.policy)

theorem fixed (h : Answer o w s t) : t.fixed = s.fixed := by
  induction h with
  | refl => rfl
  | trans _ _ ih ih' => exact ih'.trans ih
  | events s es => exact s.raiseAll_fixed es
  | request s => exact s.request_fixed _
  | trim s wanted => exact s.trimSlot_fixed wanted _
  | census | offer | flags | client | rails | fans | lanePort => rfl

theorem life (h : Answer o w s t) : t.life = s.life := congrArg Fixed.life h.fixed
theorem role (h : Answer o w s t) : t.role = s.role := congrArg (fun l => l.straps.role) h.life
theorem addr (h : Answer o w s t) : t.addr = s.addr := congrArg (fun l => l.straps.address) h.life
theorem station (h : Answer o w s t) : t.station = s.station := congrArg Life.station h.life

/-- A further move that only the station's own role makes. -/
theorem andThen {r : Role} {f : State → State} (h : Answer o w s t) (hr : s.role = r)
    (hf : t.role = r → Answer o w t (f t)) : Answer o w s (f t) := h.trans (hf (h.role.trans hr))

theorem followUp (s : State) (pre : Census) (k : Follow) : Answer o w s (s.followUp pre k) := by
  unfold State.followUp
  dsimp only
  have hpower : Answer o w s ((s.lanesLost pre k).walkPower pre) := (lanesLost s pre k).trans (walkPower _ pre)
  generalize (s.lanesLost pre k).walkPower pre = t at hpower ⊢
  have hshed : Answer o w s (if (t.station.acting && !k.parking) = true then t.shed else t) := by
    split
    · rename_i hact
      exact hpower.trans (shed (Bool.and_eq_true_iff.mp hact).1)
    · exact hpower
  generalize (if (t.station.acting && !k.parking) = true then t.shed else t) = u at hshed ⊢
  refine Answer.trans ?_ (recordTally _)
  have hlanes : Answer o w s u.walkLanes := hshed.trans (walkLanes u)
  split
  · rename_i hact
    exact hlanes.trans (overdrawCheck (Bool.and_eq_true_iff.mp hact).2)
  · exact hlanes

theorem localZero (s : State) : Answer o w s s.localZero :=
  (census s (fun _ => (CenStep.selfZero s.cen).once) (s.cen.localZero_sameClock s.addr)).trans (followUp _ _ _)

/-! ## The blade -/

section
variable (howns : s.ownsRails)
include howns

theorem railsOff : Answer o true s s.railsOff := (rails s _ rfl howns).trans (raiseIf _ _ _)

theorem enterStopping (k : Nat) : Answer o true s (s.enterStopping k) := rails s _ rfl howns

theorem takeDown : Answer o true s s.takeDown := by
  unfold State.takeDown; split
  · exact railsOff howns
  · exact enterStopping howns _

theorem stopRails (r : StopReason) : Answer o true s (s.stopRails r) := by
  unfold State.stopRails
  split
  case h_4 | h_5 => exact takeDown howns
  case h_6 => exact (rails s _ rfl howns).trans (raise _ _)
  case h_7 =>
    unfold State.cutGrace
    dsimp only; split
    · exact (rails s { s.rsq with grace := some (s.graceOf r), stopReason := laterReason s.rsq.stopReason r } rfl howns).trans
        (raise _ _)
    · exact rails s _ rfl howns
  all_goals exact refl s

theorem stopRailsNow : Answer o true s s.stopRailsNow := by
  unfold State.stopRailsNow
  split
  case h_4 | h_5 | h_6 | h_7 => exact takeDown howns
  all_goals exact refl s

theorem startRails : Answer o true s s.startRails := by
  unfold State.startRails State.enterStagger State.enterRamp
  split
  · split <;> exact rails s _ rfl howns
  · exact refl s

theorem cancelStop : Answer o true s s.cancelStop := by
  unfold State.cancelStop
  split
  · exact ((rails s _ rfl howns).trans (raise _ _)).trans (raise _ _)
  · exact refl s

theorem armClear : Answer o true s s.armClear := by
  unfold State.armClear; split
  · exact refl s
  · exact rails s _ rfl howns

theorem heldZeroRails : Answer o true s s.heldZeroRails := by
  unfold State.heldZeroRails; split
  · exact railsOff howns
  · exact refl s

end

theorem evalAirflow (s : State) : Answer o w s s.evalAirflow := by
  unfold State.evalAirflow
  dsimp only; split
  · exact refl s
  · exact (client s { s.client with zoneAirflow := s.cen.zoneAirflow s.cfg.zone } rfl).trans (raiseIf _ _ _)

theorem evalCapped (s : State) : Answer o w s s.evalCapped := by
  unfold State.evalCapped; split
  · exact client s { s.client with capped := false } rfl
  · split
    · exact (client s { s.client with capped := true } rfl).trans (raiseIf _ _ _)
    · exact client s { s.client with capped := false } rfl

theorem endOvertemp (s : State) : Answer o w s s.endOvertemp := by
  unfold State.endOvertemp; split
  · exact (client s { s.client with overtemp := false } rfl).trans (raise _ _)
  · exact refl s

theorem syncSlots (s : State) {wanted : Option FrameReq} {slots : List SlotId}
    (hslots : ∀ i ∈ slots, s.station.answers i = true)
    (hwanted : ∀ r, wanted = some r → s.station.answers r.slot = true) : Answer o w s (s.syncSlots wanted slots) := by
  have htrim : Answer o w s (slots.foldl (fun t i => t.trimSlot wanted i) s) := by
    clear hwanted
    induction slots generalizing s with
    | nil => exact refl s
    | cons i rest ih =>
      have hfirst : Answer o w s (s.trimSlot wanted i) := trim s wanted (hslots i List.mem_cons_self)
      exact hfirst.trans (ih _ fun j hj => by rw [hfirst.station]; exact hslots j (List.mem_cons_of_mem i hj))
  unfold State.syncSlots
  dsimp only; split
  · exact htrim
  · rename_i r
    split
    · exact htrim
    · exact htrim.trans (request _ (by rw [htrim.station]; exact hwanted r rfl))

theorem wantedPower_slot {T h : Nat} {c : Option Nat} {off : Bool} {r : FrameReq} (hr : wantedPower T h c off = some r) :
    r.slot = .powerClaim ∨ r.slot = .powerRelease := by
  unfold wantedPower at hr
  (repeat' split at hr) <;> cases hr <;> simp [FrameReq.slot]

theorem wantedLanes_slot {h w : Nat} {H : Option (Addr × List Nat)} {Q : Option (Addr × Nat)} {live : Bool}
    {chosen : Option Addr} {r : FrameReq} (hr : wantedLanes h w H Q live chosen = some r) :
    r.slot = .laneClaim ∨ r.slot = .laneRelease := by
  unfold wantedLanes at hr
  split at hr
  · cases hr
  · split at hr
    · split at hr <;> cases hr; exact .inr rfl
    · split at hr <;> cases hr; exact .inr rfl
    · split at hr
      · cases hr
      · obtain ⟨u, -, rfl⟩ := Option.map_eq_some_iff.mp hr
        exact .inl rfl

/-- The clients of a blade send in JOINED alone (R98, R174). -/
theorem clientActive_joined (h : s.clientActive = true) : s.station = .joined := by
  simp only [State.clientActive, Bool.and_eq_true, beq_iff_eq] at h
  exact h.1

theorem evalPowerClient (s : State) : Answer o w s s.evalPowerClient := by
  unfold State.evalPowerClient; split
  · rename_i hactive
    refine syncSlots s (slots := [.powerClaim, .powerRelease]) ?_ fun r hr => ?_
    · rw [clientActive_joined hactive]; decide
    · rw [clientActive_joined hactive]
      rcases wantedPower_slot hr with h | h <;> rw [h] <;> rfl
  · exact refl s

theorem setReported (s : State) (b : Bool) : Answer o w s (s.setReported b) := client s _ rfl

theorem reportUnavailable (s : State) : Answer o w s s.reportUnavailable :=
  ofIf ((setReported s true).trans (raise _ _)) (refl s)

theorem clearReported (s : State) (wanted : Option FrameReq) : Answer o w s (s.clearReported wanted) :=
  ofIf (setReported s false) (refl s)

theorem evalLaneClient (s : State) : Answer o w s s.evalLaneClient := by
  unfold State.evalLaneClient
  split
  · rename_i hactive
    have hclear : Answer o w s (s.clearReported s.wantedLaneRequest) := clearReported s _
    refine (hclear.trans ?_).trans (reportUnavailable _)
    refine syncSlots _ ?_ fun r hr => ?_
    · rw [hclear.station, clientActive_joined hactive]; decide
    · rw [hclear.station, clientActive_joined hactive]
      rcases wantedLanes_slot hr with h | h <;> rw [h] <;> rfl
  · exact refl s

theorem writeDemand (s : State) : Answer o w s s.writeDemand :=
  selfPart s fun e => e.updBlade_partWrite fun _ => rfl

theorem testHeat (s : State) : Answer o w s s.testHeat := requestIf s _ fun h _ => by
  simp only [Bool.and_eq_true] at h
  exact h.1.1

section
variable (hrole : s.role = .blade)
include hrole

theorem stopAtZero : Answer o true s s.stopAtZero := by
  unfold State.stopAtZero; split
  · exact refl s
  · exact (client s { s.client with stopReason := some s.reasonForZero } rfl).andThen (f := fun u => u.stopRails s.reasonForZero) hrole fun h => stopRails (.inl h) _

theorem compose (force : Bool) : Answer o true s (s.compose force) := by
  unfold State.compose; split
  · dsimp only
    have hT : Answer o true s { s.evalCapped with client := { s.evalCapped.client with target := s.evalCapped.target } } :=
      (evalCapped s).trans (client s.evalCapped { s.evalCapped.client with target := s.evalCapped.target } rfl)
    split
    · exact hT.andThen (f := State.stopAtZero) hrole stopAtZero
    · exact hT
  · exact refl s

theorem bladeLimits (force : Bool) : Answer o true s (s.bladeLimits force) := by
  unfold State.bladeLimits
  have h1 : Answer o true s s.followHeld := rails s _ rfl (.inl hrole)
  have h2 := h1.andThen (f := State.heldZeroRails) hrole fun h => heldZeroRails (.inl h)
  have h3 := (h2.trans (evalAirflow _)).andThen (f := fun u => u.compose force) hrole fun h => compose h force
  exact (h3.trans (endOvertemp _)).andThen (f := fun u => u.compose false) hrole fun h => compose h false

theorem bladeZero (before : State) : Answer o true s (s.bladeZero before) := by
  unfold State.bladeZero; split
  · have h1 : Answer o true s { s with rsq := { s.rsq with clearOnOff := false } } := rails s _ rfl (.inl hrole)
    exact (h1.trans (localZero _)).andThen (f := fun u => u.bladeLimits false) hrole fun h => bladeLimits h false
  · exact refl s

theorem bladeRequests (points : Points) (before : State) : Answer o true s (s.bladeRequests points before) := by
  unfold State.bladeRequests
  dsimp only
  refine Answer.trans (Answer.trans ?_ (writeDemand _)) (testHeat _)
  refine Answer.trans ?_ (ofIf (evalLaneClient _) (refl _))
  exact ofIf ((startRails (.inl hrole)).trans (evalPowerClient _)) (refl s)

end

theorem evalBlade (s : State) (force : Bool) (points : Points) (before : State) :
    Answer o true s (s.evalBlade force points before) := by
  unfold State.evalBlade
  split
  · rename_i hb
    have hrole : s.role = .blade := by simp [State.isBlade] at hb; exact hb.1
    have h1 : Answer o true s (s.bladeLimits force) := bladeLimits hrole force
    have h2 := h1.andThen (f := fun u => u.bladeZero before) hrole fun h => bladeZero h before
    exact h2.andThen (f := fun u => u.bladeRequests _ before) hrole fun h => bladeRequests h _ before
  · exact refl s

/-! ## The fan tray -/

section
variable (hrole : s.role = .fan)
include hrole

theorem updFdu {g : Fdu → Fdu} (hg : ∀ f : Fdu, f.Keeps (g f)) : Answer o w s (s.updFdu g) := fans s hrole (hg s.fdu)

theorem endRetained : Answer o w s s.endRetained := by
  unfold State.endRetained; split
  · exact updFdu hrole fun f => .of_channels rfl id
  · exact refl s

end

theorem saturationAfter_le (n d : Nat) : saturationAfter n d ≤ 8 := by
  unfold saturationAfter; split
  · exact Nat.min_le_left _ _
  · exact Nat.zero_le _

theorem fanUpdate_keeps (f : Fdu) (b c z : Nat) (w : Bool) :
    f.Keeps { f.mapChannels (fun _ ch => ch.update c (f.compare c)) with
      zoneDemand := z, base := b, boost := w, duty := c, saturation := saturationAfter f.saturation c } :=
  (f.keeps_mapChannels fun _ ch => Nat.le_of_eq (ch.update_tach _ _)).trans (.of_channels rfl fun _ => saturationAfter_le _ _)

theorem fanUpdate (hrole : s.role = .fan) (start : Bool) : Answer o w s (s.fanUpdate start) :=
  updFdu hrole fun f => fanUpdate_keeps f _ _ _ _

theorem writeFan (hrole : s.role = .fan) (v : Airflow) : Answer o w s (s.writeFan v) := by
  unfold State.writeFan
  exact (fans s (f := { s.fdu with airflow := v }) hrole (.of_channels rfl id)).trans
    (selfPart _ (f := fun e => e.updFan (fun p => { p with airflow := v, duty := s.fdu.duty }))
      fun e => e.updFan_partWrite _)

section
variable (hrole : s.role = .fan)
include hrole

theorem evalOwnAirflow : Answer o w s s.evalOwnAirflow := by
  unfold State.evalOwnAirflow
  dsimp only; split
  · exact writeFan hrole _
  · exact ((writeFan hrole _).trans (requestIf _ _ (r := .airflowDrop s.cfg.zone s.airflowNow)
      fun _ hl => hl)).trans (raiseIf _ _ _)

theorem thenFdu {g : Fdu → Fdu} (h : Answer o w s t) (hg : ∀ f : Fdu, f.Keeps (g f)) : Answer o w s (t.updFdu g) :=
  h.andThen (f := fun u => u.updFdu g) hrole fun ht => updFdu ht hg

theorem beginDrive : Answer o w s s.beginDrive := by
  unfold State.beginDrive
  dsimp only
  have hbegin := thenFdu hrole (g := fun f => { f.mapChannels (fun _ c => c.begin) with mode := .drive, saturation := 0 })
    (endRetained (o := o) (w := w) hrole)
    fun f => (f.keeps_mapChannels fun _ c => Nat.le_of_eq c.begin_tach).trans (.of_channels rfl fun _ => Nat.zero_le _)
  have hupdate := hbegin.andThen (f := fun u => u.fanUpdate true) hrole fun h => fanUpdate h true
  exact ofIf (thenFdu hrole hupdate fun f => f.keeps_mapChannels fun _ c => Nat.le_of_eq c.loadNow_tach) hupdate

theorem beginMute : Answer o w s s.beginMute := by
  unfold State.beginMute
  exact thenFdu hrole (endRetained hrole)
    fun f => (f.keeps_mapChannels fun _ c => Nat.le_of_eq (c.beginMute_tach _)).trans (.of_channels rfl fun _ => Nat.zero_le _)

theorem endDrive : Answer o w s s.endDrive := by
  unfold State.endDrive
  exact thenFdu hrole (endRetained hrole)
    fun f => (f.keeps_mapChannels (g := fun _ c => c.stop) fun _ c => Nat.le_refl _).trans
      (.of_channels rfl fun _ => Nat.zero_le _)

end

theorem settleDrive (s : State) : Answer o w s s.settleDrive := by
  unfold State.settleDrive
  split
  · rename_i hb
    have hrole : s.role = .fan := by simpa [State.isFan] using hb
    dsimp only; split
    · exact refl s
    · split
      · exact (beginDrive hrole).andThen (f := State.evalOwnAirflow) hrole evalOwnAirflow
      · exact (beginMute hrole).andThen (f := State.evalOwnAirflow) hrole evalOwnAirflow
      · exact (endDrive hrole).andThen (f := State.evalOwnAirflow) hrole evalOwnAirflow
      · exact refl s
  · exact refl s

/-! ## The uplink, and the answer as a whole -/

theorem give_record (l : Lmp) (m : LaneMap) : (l.give m).record = l.record := by
  unfold Lmp.give
  split
  · rfl
  · split <;> rfl

theorem followTable (s : State) (pre : Census) : Answer o w s (s.followTable pre) := by
  unfold State.followTable; split
  · rename_i h
    exact lanePort s _ (by simp [State.isUplink] at h; exact h.1.1) (give_record _ _)
  · exact refl s

theorem writeOffer (s : State) {k : Nat} (hk : k ≤ Config.lanes) : Answer true w s (s.writeOffer k) :=
  ((offer s rfl hk).trans (followUp _ _ _)).trans (followTable _ _)

/-- The offer that the offer logic writes (R165) is within the part's lanes; in MUTE and LEAVING it writes 0 or nothing. -/
theorem offerNow_le (s : State) (h : s.offerNow ≠ s.self.offer) : s.offerNow ≤ Config.lanes := by
  unfold State.offerNow at h ⊢
  split
  · split
    · exact s.cfg.lanesConfigured_le
    · exact Nat.zero_le _
  · rename_i hm
    rw [hm] at h
    dsimp only at h
    split at h
    · rw [if_pos ‹_›]; exact Nat.zero_le _
    · exact absurd rfl h
  · rename_i hm
    rw [hm] at h
    exact absurd rfl h
  all_goals exact Nat.zero_le _

theorem evalOffer (s : State) : Answer true w s s.evalOffer := by
  unfold State.evalOffer
  dsimp only; split
  · exact refl s
  · rename_i hk
    have hwrite := writeOffer (w := w) s (offerNow_le s (by simpa using hk))
    refine hwrite.trans (requestIf _ _ fun hb _ => ?_)
    rw [hwrite.station]
    exact (Bool.and_eq_true_iff.mp hb).1

theorem evalXbar (hrole : s.role = .uplink) : Answer o w s s.evalXbar := by
  unfold State.evalXbar State.setXbar State.updLmp
  split
  case h_2 | h_3 => exact refl s
  all_goals exact lanePort s _ hrole rfl

theorem evalUplink (s : State) (pre : Census) : Answer true w s (s.evalUplink pre) := by
  unfold State.evalUplink; split
  · rename_i h
    have hrole : s.role = .uplink := by simp [State.isUplink] at h; exact h.1
    exact ((followTable s pre).trans (evalOffer _)).andThen (f := State.evalXbar) hrole evalXbar
  · exact refl s

theorem evalEssential (s : State) : Answer o w s s.evalEssential := by
  unfold State.evalEssential; split
  · exact refl s
  · refine requestIf s _ fun h _ => ?_
    simp only [Bool.and_eq_true] at h
    exact h.1.1.1.1

theorem evalRoles (s : State) (pre : Census) (force : Bool) (points : Points) (before : State) :
    Answer true true s (s.evalRoles pre force points before) :=
  (((evalBlade s force points before).trans (settleDrive _)).trans (evalUplink _ pre)).trans (evalEssential _)

end Answer

end Sys2Proof.Machine
end

section
/-! PROOFS. What every transition but a reset keeps: the part's sizes, its limits, the lane tables, and the reset values of
the units that the station's role does not use. Each is a promise of its own; a transition keeps them all. -/

namespace Sys2Proof.Machine

/-! ## The promises -/

/-- The fault score (R16) and the receive counters (R21) within their limits. -/
def Pbc.within (p : Pbc) : Prop :=
  p.faultScore ≤ Config.faultMax ∧ p.checkFailures ≤ Config.counterMax ∧ p.vetoes ≤ Config.counterMax

/-- START or SETUP: the station takes no part in the bus and its census is empty. -/
def StationState.apart : StationState → Bool
  | .start | .setup => true
  | .parked | .listen | .joined | .leaving | .mute => false

/-- The leaving of an uplink waits for its ALERT, after which the all-idle map is loaded (R63). -/
def Life.idling (l : Life) : Prop := l.leaving.map (fun v => v.step) = some .lanesAlert

/-- What a transition keeps. -/
inductive Promise where
  | entries | tables | vacant
  | inputs | records | trays
  | events | receive | anomalies | drive | slots
  | noRails | noFans | noSupply | noPort

def Promise.holds (s : State) : Promise → Prop
  | .entries => s.cen.Shaped
  | .tables => s.cen.Shaped ∧ s.cen.Lawful
  | .vacant => s.station.apart = true → s.cen.Shaped ∧ s.cen.allVacant
  | .inputs => s.lnu.inputs.length = Config.inputs
  | .records => s.msu.channels.length = Config.channels
  | .trays => s.fdu.channels.length = Config.fans
  | .events => s.lpt.within
  | .receive => s.pbc.within
  | .anomalies => s.cen.anomalies ≤ Config.counterMax
  | .drive => s.fdu.within
  | .slots => s.slotted
  | .noRails => s.role ≠ .blade ∧ s.rsq = Rsq.reset
  | .noFans => s.role ≠ .fan ∧ s.fdu = Fdu.reset
  | .noSupply => s.role ≠ .supply ∧ s.spm = Spm.reset
  | .noPort => s.role ≠ .uplink ∧ ¬ s.life.idling ∧ s.lmp = Lmp.reset

/-- A transition under the same straps that keeps every promise. -/
structure Keeps (s t : State) : Prop where
  straps : t.life.straps = s.life.straps
  promises : ∀ p : Promise, p.holds s → p.holds t

theorem State.shaped_iff (s : State) : s.shaped ↔
    Promise.entries.holds s ∧ Promise.inputs.holds s ∧ Promise.records.holds s ∧ Promise.trays.holds s := by
  constructor
  · rintro ⟨hlen, hin, hrec, hfan, htab⟩
    exact ⟨⟨hlen, fun a => (Entry.tableOk_iff _).mpr (htab _ (Census.get_mem hlen a))⟩, hin, hrec, hfan⟩
  · rintro ⟨hcen, hin, hrec, hfan⟩
    refine ⟨hcen.sized, hin, hrec, hfan, fun e he => ?_⟩
    obtain ⟨a, rfl⟩ := Census.exists_get_of_mem hcen.sized he
    exact (Entry.tableOk_iff _).mp (hcen.tables a)

theorem State.shaped.cen {s : State} (h : s.shaped) : s.cen.Shaped := ((State.shaped_iff s).mp h).1

theorem State.bounded_iff (s : State) : s.bounded ↔
    Promise.events.holds s ∧ Promise.receive.holds s ∧ Promise.anomalies.holds s ∧ Promise.drive.holds s ∧
      Promise.slots.holds s := by
  constructor
  · rintro ⟨hev, hov, hfault, hcheck, hveto, hanom, htach, hsat, hslots⟩
    exact ⟨⟨hev, hov⟩, ⟨hfault, hcheck, hveto⟩, hanom, ⟨htach, hsat⟩, hslots⟩
  · rintro ⟨⟨hev, hov⟩, ⟨hfault, hcheck, hveto⟩, hanom, ⟨htach, hsat⟩, hslots⟩
    exact ⟨hev, hov, hfault, hcheck, hveto, hanom, htach, hsat, hslots⟩

theorem StationState.apart_iff (t : StationState) : t.apart = true ↔ t = .start ∨ t = .setup := by
  cases t <;> simp [StationState.apart]

theorem State.lanesLawful_iff {s : State} (hs : s.cen.Shaped) :
    s.lanesLawful ↔ Promise.tables.holds s ∧ Promise.vacant.holds s := by
  unfold State.lanesLawful Promise.holds
  rw [← Census.lawful_iff, StationState.apart_iff]
  constructor
  · exact fun ⟨hl, hv⟩ => ⟨⟨hs, hl⟩, fun h => ⟨hs, hv h⟩⟩
  · exact fun ⟨hl, hv⟩ => ⟨hl.2, fun h => (hv h).2⟩

theorem Keeps.shaped {s t : State} (h : Keeps s t) (hs : s.shaped) : t.shaped := by
  obtain ⟨hcen, hin, hrec, hfan⟩ := (State.shaped_iff s).mp hs
  exact (State.shaped_iff t).mpr
    ⟨h.promises .entries hcen, h.promises .inputs hin, h.promises .records hrec, h.promises .trays hfan⟩

namespace Keeps

variable {s t u : State}

theorem role (h : Keeps s t) : t.role = s.role := congrArg Straps.role h.straps
theorem addr (h : Keeps s t) : t.addr = s.addr := congrArg Straps.address h.straps

theorem refl (s : State) : Keeps s s := ⟨rfl, fun _ => id⟩

theorem trans (h : Keeps s t) (h' : Keeps t u) : Keeps s u :=
  ⟨h'.straps.trans h.straps, fun p => h'.promises p ∘ h.promises p⟩

theorem ofIf {p : Prop} [Decidable p] (ht : Keeps s t) (hu : Keeps s u) : Keeps s (if p then t else u) := by
  split <;> assumption

/-- A further transition that only the station's own role makes. -/
theorem andThen {r : Role} {f : State → State} (h : Keeps s t) (hr : s.role = r)
    (hf : t.role = r → Keeps t (f t)) : Keeps s (f t) := h.trans (hf (h.role.trans hr))

/-! ## A change of one unit -/

theorem client (s : State) (c : Client) : Keeps s { s with client := c } := ⟨rfl, fun p h => by cases p <;> exact h⟩

theorem cen (s : State) {c : Census} (hshaped : s.cen.Shaped → c.Shaped)
    (hlawful : s.cen.Shaped → s.cen.Lawful → c.Lawful)
    (hvacant : s.station.apart = true → s.cen.Shaped → s.cen.allVacant → c.allVacant)
    (hanomalies : s.cen.anomalies ≤ Config.counterMax → c.anomalies ≤ Config.counterMax) :
    Keeps s { s with cen := c } := by
  refine ⟨rfl, fun p h => ?_⟩
  cases p
  case entries => exact hshaped h
  case tables => exact ⟨hshaped h.1, hlawful h.1 h.2⟩
  case vacant => exact fun ha => ⟨hshaped (h ha).1, hvacant ha (h ha).1 (h ha).2⟩
  case anomalies => exact hanomalies h
  all_goals exact h

theorem lpt (s : State) {l : Lpt} (hl : s.lpt.within → l.within) : Keeps s { s with lpt := l } := by
  refine ⟨rfl, fun p h => ?_⟩
  cases p
  case events => exact hl h
  all_goals exact h

theorem pbc (s : State) {b : Pbc} (hwithin : s.pbc.within → b.within) (hslots : s.slotted → ({ s with pbc := b } : State).slotted) :
    Keeps s { s with pbc := b } := by
  refine ⟨rfl, fun p h => ?_⟩
  cases p
  case receive => exact hwithin h
  case slots => exact hslots h
  all_goals exact h

theorem life (s : State) {l : Life} (hstraps : l.straps = s.life.straps)
    (hapart : l.station.apart = true → s.station.apart = true)
    (hidling : l.idling → s.life.idling ∨ s.role = .uplink) : Keeps s { s with life := l } := by
  have hrole : ({ s with life := l } : State).role = s.role := congrArg Straps.role hstraps
  refine ⟨hstraps, fun p h => ?_⟩
  cases p
  case vacant => exact fun ha => h (hapart ha)
  case noRails | noFans | noSupply => exact ⟨hrole ▸ h.1, h.2⟩
  case noPort => exact ⟨hrole ▸ h.1, fun hl => (hidling hl).elim h.2.1 h.1, h.2.2⟩
  all_goals exact h

theorem rsq (s : State) {r : Rsq} (hr : s.role = .blade ∨ (s.rsq = Rsq.reset → r = Rsq.reset)) :
    Keeps s { s with rsq := r } := by
  refine ⟨rfl, fun p h => ?_⟩
  cases p
  case noRails => exact ⟨h.1, (hr.resolve_left h.1) h.2⟩
  all_goals exact h

theorem fdu (s : State) {f : Fdu} (hf : s.fdu.Keeps f) (hr : s.role = .fan ∨ (s.fdu = Fdu.reset → f = Fdu.reset)) :
    Keeps s { s with fdu := f } := by
  refine ⟨rfl, fun p h => ?_⟩
  cases p
  case noFans => exact ⟨h.1, (hr.resolve_left h.1) h.2⟩
  case trays => exact hf.length h
  case drive => exact hf.within h
  all_goals exact h

theorem spm (s : State) {m : Spm} (hr : s.role = .supply ∨ (s.spm = Spm.reset → m = Spm.reset)) :
    Keeps s { s with spm := m } := by
  refine ⟨rfl, fun p h => ?_⟩
  cases p
  case noSupply => exact ⟨h.1, (hr.resolve_left h.1) h.2⟩
  all_goals exact h

theorem lmp (s : State) {m : Lmp} (hr : s.role = .uplink ∨ s.life.idling ∨ (s.lmp = Lmp.reset → m = Lmp.reset)) :
    Keeps s { s with lmp := m } := by
  refine ⟨rfl, fun p h => ?_⟩
  cases p
  case noPort => exact ⟨h.1, h.2.1, (hr.resolve_left h.1).resolve_left h.2.1 h.2.2⟩
  all_goals exact h

theorem msu (s : State) {m : Msu} (hm : s.msu.channels.length = Config.channels → m.channels.length = Config.channels) :
    Keeps s { s with msu := m } := by
  refine ⟨rfl, fun p h => ?_⟩
  cases p
  case records => exact hm h
  all_goals exact h

theorem lnu (s : State) {l : Lnu} (hl : s.lnu.inputs.length = Config.inputs → l.inputs.length = Config.inputs) :
    Keeps s { s with lnu := l } := by
  refine ⟨rfl, fun p h => ?_⟩
  cases p
  case inputs => exact hl h
  all_goals exact h

/-! ## Events and frames -/

theorem raiseAll (s : State) (es : List Event) : Keeps s (s.raiseAll es) := lpt s fun h => Lpt.pushAll_within es h
theorem raise (s : State) (e : Event) : Keeps s (s.raise e) := raiseAll s [e]
theorem raiseIf (s : State) (b : Bool) (e : Event) : Keeps s (s.raiseIf b e) := ofIf (raise s e) (refl s)
theorem respond (s : State) (status : PortStatus) (data : List Byte) : Keeps s (s.respond status data) := lpt s id

theorem setSlot (s : State) {i : SlotId} {f : Option QueuedFrame} (hf : s.slotted → ∀ g, f = some g → g.fits i = true) :
    Keeps s (s.setSlot i f) := pbc s id fun h => State.setSlot_slotted h (hf h)

theorem emptySlot (s : State) (i : SlotId) : Keeps s (s.setSlot i none) := setSlot s fun _ _ hg => by cases hg

theorem clearQueue (s : State) : Keeps s s.clearQueue :=
  pbc s id fun _ i f hf => by rw [State.slot, TxQueue.get_empty] at hf; cases hf

/-- A frame that loses its follow-on stays in its slot. -/
theorem dropFollowOn (s : State) {i : SlotId} {f : QueuedFrame} (hf : s.slot i = some f) :
    Keeps s (s.setSlot i (some { f with followOn := none })) := by
  refine setSlot s fun h g hg => ?_
  cases hg
  exact (QueuedFrame.fits_iff _ _).mpr ⟨(h i f hf).1, fun r hr => by cases hr⟩

theorem enqueue (s : State) (r : FrameReq) : Keeps s (s.enqueue r) := by
  unfold State.enqueue
  split
  · exact setSlot s fun _ g hg => by cases hg; simp [QueuedFrame.fits, State.fresh]
  · rename_i f hf
    refine setSlot s fun h g hg => ?_
    cases hg
    obtain ⟨hcontents, hfollow⟩ := h _ f hf
    rw [QueuedFrame.fits_iff]
    unfold QueuedFrame.requested
    split
    · split
      · exact ⟨hcontents, hfollow⟩
      · exact ⟨hcontents, fun q hq => by cases hq; rfl⟩
    · exact ⟨rfl, hfollow⟩

theorem request (s : State) (r : FrameReq) : Keeps s (s.request r) := ofIf (enqueue s r) (refl s)
theorem requestIf (s : State) (b : Bool) (r : FrameReq) : Keeps s (s.requestIf b r) := ofIf (request s r) (refl s)

theorem trimSlot (s : State) (wanted : Option FrameReq) (i : SlotId) : Keeps s (s.trimSlot wanted i) := by
  unfold State.trimSlot
  split
  · exact refl s
  · rename_i f hf
    exact ofIf (ofIf (refl s) (dropFollowOn s hf)) (ofIf (refl s) (emptySlot s i))

end Keeps

/-! ## An answer keeps every promise -/

theorem Census.allVacant.setOffer {c : Census} (hs : c.Shaped) (h : c.allVacant) (u : Addr) (k : Nat) :
    (c.setOffer u k).allVacant := by
  have hmove : ∀ old, (Entry.vacant.offering k).claimUnder u old k = Entry.vacant := fun old => by
    simp [Entry.offering, Entry.claimUnder, Entry.dropClaimOn, Entry.limitClaimOn, Entry.updUplink, Entry.updBlade,
      Entry.vacant, Entry.laneClaim, Entry.blade]
  have hstay : ∀ old, Entry.vacant.claimUnder u old k = Entry.vacant := hmove
  rcases Census.setOffer_eq hs u k with ⟨c', heq, -, hget⟩ | ⟨heq, -⟩ <;> rw [heq]
  · intro b
    rw [Census.mark_get, hget, h b]
    split
    · exact hmove _
    · exact hstay _
  · exact h

theorem Census.setOffer_sameClock (c : Census) (u : Addr) (k : Nat) : c.SameClock (c.setOffer u k) := by
  unfold Census.setOffer
  dsimp only
  split
  · split <;> exact ⟨rfl, rfl, rfl, rfl, rfl⟩
  · split <;> exact ⟨rfl, rfl, rfl, rfl, rfl⟩

theorem Answer.keeps {o w : Bool} {s t : State} (h : Answer o w s t) : Keeps s t := by
  induction h with
  | refl s => exact .refl s
  | trans _ _ ih ih' => exact ih.trans ih'
  | events s es => exact .raiseAll s es
  | census s hsteps hclock =>
    exact .cen s (fun hs => CenSteps.shaped (hsteps hs) hs) (fun hs => CenSteps.lawful (hsteps hs) hs)
      (fun _ hs => CenSteps.allVacant (hsteps hs) hs) (fun h => hclock.anomalies ▸ h)
  | @offer s k _ hk =>
    exact .cen s (fun hs => hs.setOffer s.addr k) (fun hs hl => hl.setOffer hs s.addr hk)
      (fun _ hs hv => hv.setOffer hs s.addr k) (fun h => (s.cen.setOffer_sameClock s.addr k).anomalies ▸ h)
  | flags s =>
    exact .cen s (fun hs => hs.of_entries rfl) (fun _ hl => hl.of_entries rfl) (fun _ _ hv => hv) id
  | request s => exact .request s _
  | trim s wanted => exact .trimSlot s wanted _
  | client s c => exact .client s c
  | rails s r _ howns => exact .rsq s (howns.imp id fun hne h => absurd h hne)
  | fans s hrole hf => exact .fdu s hf (.inl hrole)
  | lanePort s l hrole => exact .lmp s (.inl hrole)

end Sys2Proof.Machine
end

section
/-! PROOFS. The transitions of station life keep every promise: MUTE, LISTEN, PARKED, LEAVING, JOINED, SETUP and the
seating loss. -/

namespace Sys2Proof.Machine

/-! ## Entries that show what they showed -/

/-- Levels, claim and role part of an entry stand. -/
structure Entry.Stands (e e' : Entry) : Prop where
  part : e'.part = e.part
  held : e'.held = e.held
  claim : e'.claim = e.claim

theorem Entry.Stands.shows {e e' : Entry} (h : e.Stands e') :
    e'.laneClaim = e.laneClaim ∧ e'.offer = e.offer ∧ ∀ k, e'.owner k = e.owner k := by
  have hview : e'.part.view = e.part.view := by rw [h.part]
  refine ⟨?_, ?_, fun k => ?_⟩
  · rw [← RolePart.view_laneClaim, hview, RolePart.view_laneClaim]
  · rw [← RolePart.view_offer, hview, RolePart.view_offer]
  · rw [← RolePart.view_owner, hview, RolePart.view_owner]

theorem Census.Lawful.updStands {c : Census} (hs : c.Shaped) (h : c.Lawful) {a : Addr} {f : Entry → Entry}
    (hf : ∀ e : Entry, e.Stands (f e)) : (c.upd a f).Lawful := by
  obtain ⟨hlane, hoffer, howner⟩ := (hf (c.get a)).shows
  exact h.updSame hs (hf _).held (hf _).claim hlane hoffer howner

theorem Census.Lawful.updAllStands {c : Census} (hs : c.Shaped) (h : c.Lawful) {f : Entry → Entry}
    (hf : ∀ e : Entry, e.Stands (f e)) : (c.updAll f).Lawful := by
  have hget := Census.get_updAll (c := c) f hs.sized
  refine h.congr (fun a => ?_) (fun a => ?_) (fun a => ?_) (fun a => ?_) (fun a k => ?_) <;> rw [hget]
  · exact (hf _).held
  · exact (hf _).claim
  · exact (hf _).shows.1
  · exact (hf _).shows.2.1
  · exact (hf _).shows.2.2 k

namespace Keeps

variable {s t u : State}

theorem updEntry (s : State) (a : Addr) {f : Entry → Entry} (hf : ∀ e : Entry, e.Stands (f e))
    (hvacant : s.station.apart = true → f Entry.vacant = Entry.vacant) : Keeps s (s.updEntry a f) :=
  cen s (fun hs => hs.upd fun e => Entry.tableOk_of_part (hf e).part) (fun hs hl => hl.updStands hs hf)
    (fun ha hs hv => hv.upd hs (hvacant ha)) id

/-- The entries stand, and no anomaly is counted. -/
theorem sameEntries (s : State) {c : Census} (hentries : c.entries = s.cen.entries)
    (hanomalies : c.anomalies = s.cen.anomalies) : Keeps s { s with cen := c } :=
  cen s (fun hs => hs.of_entries hentries) (fun _ hl => hl.of_entries hentries)
    (fun _ _ hv a => (Census.get_congr hentries a).trans (hv a)) (fun h => hanomalies ▸ h)

theorem anomaly (s : State) : Keeps s s.anomaly :=
  cen s (fun hs => hs.of_entries rfl) (fun _ hl => hl.of_entries rfl) (fun _ _ hv => hv) satInc_le

theorem announceTimer (s : State) (x : Timer) : Keeps s (s.updCen (fun c => { c with announceTimer := x })) :=
  sameEntries s rfl rfl

theorem ownStation (s : State) (p : Option PeerState) (h : s.station.apart = false) : Keeps s (s.ownStation p) :=
  updEntry s _ (fun _ => ⟨rfl, rfl, rfl⟩) fun ha => by rw [h] at ha; cases ha

/-! ## Units -/

theorem updLife (s : State) {g : Life → Life} (hstraps : (g s.life).straps = s.life.straps)
    (hapart : (g s.life).station.apart = true → s.station.apart = true)
    (hidling : (g s.life).idling → s.life.idling ∨ s.role = .uplink) : Keeps s (s.updLife g) :=
  life s hstraps hapart hidling

theorem enterState (s : State) (x : StationState) (hx : x.apart = true → s.station.apart = true) :
    Keeps s (s.enterState x) := (life s (l := { s.life with station := x }) rfl hx .inl).trans (raise _ _)

/-- A change of the Lane Map Port that leaves its reset values as they are. -/
theorem updLmp (s : State) {g : Lmp → Lmp} (hg : g Lmp.reset = Lmp.reset) : Keeps s (s.updLmp g) :=
  lmp s (.inr (.inr fun h => by rw [h, hg]))

theorem updSpm (s : State) {g : Spm → Spm} (hr : s.role = .supply ∨ s.spm ≠ Spm.reset) : Keeps s (s.updSpm g) :=
  spm s (hr.imp id fun hne h => absurd h hne)

theorem newEvent (s : State) : Keeps s s.newEvent := pbc s id fun h => State.slotted_congr rfl h

/-! ## MUTE (R66) -/

theorem enterMute (s : State) (cause : MuteCause) : Keeps s (s.enterMute cause) := by
  unfold State.enterMute
  dsimp only
  have hbus : Keeps s (s.muteBus cause) :=
    (pbc s (b := { s.pbc with muteFlag := true, muteCause := some cause, queue := .empty, onLine := none,
                              dropDepart := false }) id
      fun _ i f hf => by rw [State.slot, TxQueue.get_empty] at hf; cases hf).trans (raise _ _)
  have hlife := hbus.trans (updLife _ (g := Life.mute) rfl (fun h => by cases h) fun h => by cases h)
  have hcen := hlife.trans (announceTimer _ none)
  have hport := hcen.trans (updLmp _ (g := fun l => { l with waiting := none }) rfl)
  refine hport.trans (Keeps.trans ?_ (Answer.evalRoles _ _ _ _ _).keeps)
  exact ofIf (Answer.localZero (o := true) (w := true) _).keeps (refl _)

end Keeps

/-! ## LISTEN (R44, R56) -/

theorem Census.get_listen (c : Census) (own b : Addr) :
    (c.listen own).get b = if b = own then (c.get own).listenSelf else Entry.vacant := by
  have hsized : ({ c with entries := List.replicate Config.stations Entry.vacant } : Census).sized :=
    List.length_replicate
  have hget := Census.get_upd hsized own b (fun _ => (c.get own).listenSelf)
  have hvacant : ({ c with entries := List.replicate Config.stations Entry.vacant } : Census).get b = Entry.vacant := by
    simp only [Census.get, List.getD_eq_getElem?_getD, List.getElem?_replicate]
    split <;> rfl
  rw [hvacant] at hget
  exact hget

theorem Entry.listenSelf_eq (e : Entry) :
    e.listenSelf = ({ e.withoutLaneClaim with claim := none, shed := none, station := none } : Entry).emptied := rfl

theorem Census.Shaped.listen (c : Census) (own : Addr) : (c.listen own).Shaped := by
  refine ⟨by simp [Census.sized, Census.listen], fun b => ?_⟩
  rw [Census.get_listen]
  split
  · rw [Entry.listenSelf_eq]; exact Entry.emptied_tableOk _
  · exact Entry.vacant_tableOk

theorem Census.Lawful.listen {c : Census} (h : c.Lawful) (own : Addr) : (c.listen own).Lawful := by
  have hnone : ∀ b k, ((c.listen own).get b).owner k = none := fun b k => by
    rw [Census.get_listen]
    split
    · rw [Entry.listenSelf_eq, Entry.emptied_owner]
    · rfl
  refine h.shrink (fun u k a ho => ?_) (fun u => ?_) (fun a q _ => .inr fun u k => ?_) (fun a x hx => ?_)
  · rw [hnone] at ho; cases ho
  · rw [Census.get_listen]
    split
    · rw [Entry.listenSelf_eq, Entry.emptied_offer, Entry.mk_offer, RolePart.view_offer, Entry.withoutLaneClaim_offer]
      exact h.offer_le own
    · exact Nat.zero_le _
  · rw [hnone]; simp
  · rw [Census.get_listen] at hx
    split at hx
    · rw [Entry.listenSelf_eq, Entry.emptied_claim] at hx; cases hx
    · cases hx

namespace Keeps

variable {s t u : State}

theorem disposeDepart (s : State) : Keeps s s.disposeDepart := by
  unfold State.disposeDepart
  exact ofIf (pbc s id fun h => State.slotted_congr rfl h) (ofIf ((emptySlot s _).trans (raise _ _)) (refl s))

theorem enterListen (s : State) : Keeps s s.enterListen := by
  unfold State.enterListen
  dsimp only
  have hlife : Keeps s ((s.enterState .listen).updLife (fun l => { l with listenTimer := some listenMs })) :=
    (enterState s .listen fun h => by cases h).trans (updLife _ rfl id .inl)
  have hcen : Keeps s (((s.enterState .listen).updLife (fun l => { l with listenTimer := some listenMs })).updCen
      (fun c => c.listen s.addr)) :=
    hlife.trans (cen _ (fun _ => Census.Shaped.listen _ _) (fun _ hl => hl.listen _) (fun h => by cases h) id)
  have hport := hcen.trans (updLmp _ (g := fun l => { l with waiting := none, forcedIdle := false }) rfl)
  have hclient := hport.trans (client _ { s.client with lastSent := 0 })
  have hroles := fun pre before =>
    (hclient.trans (disposeDepart _)).trans (Answer.evalRoles _ pre false .none before).keeps
  exact ofIf ((hroles _ _).trans (enterMute _ _)) (hroles _ _)

theorem testJoin (s : State) : Keeps s s.testJoin := ofIf (enterListen s) (refl s)

/-! ## PARKED (R44, R54, R92, R164) -/

theorem stopTimers (s : State) : Keeps s (s.updCen (fun c => { c.stopTimers with deficit := false, overdraw := false })) := by
  have hstands : ∀ e : Entry, e.Stands { e with silence := none, staleHold := none, quiet := none } :=
    fun _ => ⟨rfl, rfl, rfl⟩
  refine cen s (fun hs => ?_) (fun hs hl => ?_) (fun _ hs hv => ?_) id
  · exact (hs.updAll fun e => Entry.tableOk_of_part (hstands e).part).of_entries rfl
  · exact (hl.updAllStands hs hstands).of_entries rfl
  · intro a
    have hget := Census.get_updAll (c := s.cen) (fun e => { e with silence := none, staleHold := none, quiet := none })
      hs.sized a
    rw [hv a] at hget
    exact hget

theorem becomeParked (s : State) : Keeps s s.becomeParked := by
  unfold State.becomeParked
  dsimp only
  have hlife : Keeps s ((s.updLife Life.park).enterState .parked) :=
    (updLife s (g := Life.park) rfl id fun h => by cases h).trans (enterState _ .parked fun h => by cases h)
  exact ((hlife.trans (ownStation _ none rfl)).trans (stopTimers _)).trans (Answer.evalRoles _ _ _ _ _).keeps

theorem park (s : State) : Keeps s s.park := (clearQueue s).trans (becomeParked _)

/-! ## LEAVING (R59 to R64) -/

theorem setStep (s : State) {step : LeaveStep} (h : step ≠ .lanesAlert) : Keeps s (s.setStep step) := by
  refine updLife s rfl id fun hl => ?_
  unfold Life.idling at hl
  cases hv : s.life.leaving with
  | none => simp [hv] at hl
  | some v => simp [hv, h] at hl

theorem beginDeparture (s : State) : Keeps s s.beginDeparture := by
  unfold State.beginDeparture
  split
  · exact (setStep s (by decide)).trans (request _ _)
  · exact refl s

theorem beginRelease (s : State) : Keeps s s.beginRelease :=
  ofIf ((setStep s (by decide)).trans (request _ _)) (beginDeparture s)

theorem beginLaneRelease (s : State) : Keeps s s.beginLaneRelease := by
  unfold State.beginLaneRelease
  split
  · exact (setStep s (by decide)).trans (request _ _)
  · exact beginRelease s

theorem afterIdleMap (s : State) : Keeps s s.afterIdleMap :=
  ofIf ((updLmp s (g := fun l => { l with xbarEn := false }) rfl).trans (beginRelease _)) (setStep s (by decide))

theorem completeDeparture (s : State) (reason : DepartReason) : Keeps s (s.completeDeparture reason) :=
  ((updLife s rfl id .inl).trans (park _)).trans (testJoin _)

theorem darkenSupply (s : State) : Keeps s s.darkenSupply := spm s (.inr fun h => by rw [h]; rfl)

theorem advanceLeaving (s : State) : Keeps s s.advanceLeaving := by
  unfold State.advanceLeaving
  split
  · rename_i l _ hl
    split
    · exact ofIf (beginLaneRelease s) (refl s)
    · exact ofIf (beginRelease s) (refl s)
    · exact ofIf ((darkenSupply s).trans (beginDeparture _)) (refl s)
    · rename_i hstep
      have hidling : s.life.idling := by rw [Life.idling, hl, Option.map_some, hstep]
      exact ofIf ((lmp s (.inr (.inl hidling))).trans (afterIdleMap _)) (refl s)
    · exact ofIf (afterIdleMap s) (refl s)
    · exact ofIf (beginDeparture s) (refl s)
    · exact ofIf (completeDeparture s _) (refl s)
  · exact refl s

theorem react (s : State) (pre : Census) (points : Points) (before : State) : Keeps s (s.react pre points before) :=
  (Answer.evalRoles s pre false points before).keeps.trans (advanceLeaving _)

theorem removeClaim (s : State) (i : SlotId) : Keeps s (s.removeClaim i) := by
  unfold State.removeClaim
  split
  · exact refl s
  · rename_i f hf
    exact ofIf (dropFollowOn s hf) (emptySlot s i)

/-- A Supply Monitor in use, or a supply, takes a state with its part of the self entry (R159). -/
theorem writeSupply (s : State) (x : SupplyState) (capacity : Nat) (hr : s.role = .supply ∨ s.spm ≠ Spm.reset) :
    Keeps s (s.writeSupply x capacity) := by
  unfold State.writeSupply
  exact (updSpm s (g := fun m => { m with state := x, capacity := capacity }) hr).trans
    (Answer.selfPart (o := true) (w := true) _ fun e => e.updSupply_partWrite _).keeps

theorem leaveSupply (hr : s.role = .supply) : Keeps s s.leaveSupply := by
  have hwrite := (writeSupply s .offline 0 (.inl hr)).trans (raiseIf _ (s.spm.state != .offline) (.supplyState .offline))
  exact (hwrite.andThen (f := fun u => u.updSpm (fun p =>
    { p with activity := .frozen, recovery := none, qualification := 0 })) hr fun h => updSpm _ (.inl h)).trans (request _ _)

theorem leaveRole (s : State) : Keeps s s.leaveRole := by
  unfold State.leaveRole
  split
  · exact (Answer.evalBlade (o := true) s _ _ _).keeps.trans (advanceLeaving _)
  · exact (Answer.settleDrive (o := true) (w := true) s).keeps.trans (beginRelease _)
  · exact leaveSupply ‹_›
  · exact (ofIf (refl s) (Answer.writeOffer (w := true) s (Nat.zero_le _)).keeps).trans (request _ _)

theorem enterLeaving (s : State) (reason : DepartReason) : Keeps s (s.enterLeaving reason) := by
  unfold State.enterLeaving
  dsimp only
  have hclaims : Keeps s ((s.removeClaim .powerClaim).removeClaim .laneClaim) :=
    (removeClaim s _).trans (removeClaim _ _)
  generalize (s.removeClaim .powerClaim).removeClaim .laneClaim = t at hclaims ⊢
  have hlife : Keeps s (t.updLife (fun l =>
      { l with bumpTimer := none, leaving := some { reason := reason, step := firstStep s.role } })) := by
    refine hclaims.trans (updLife _ rfl id fun h => .inr ?_)
    have hstep : firstStep s.role = .lanesAlert := Option.some.inj h
    rw [hclaims.role]
    generalize s.role = r at hstep ⊢
    cases r <;> cases hstep
    rfl
  exact ((hlife.trans (enterState _ .leaving fun h => by cases h)).trans (ownStation _ _ rfl)).trans (leaveRole _)

theorem cancelLeaving (hr : s.role = .blade) : Keeps s s.cancelLeaving := by
  unfold State.cancelLeaving
  dsimp only
  have hjoined : Keeps s (((s.updLife (fun l => { l with leaving := none })).enterState .joined).ownStation (some .joined)) :=
    ((updLife s rfl id fun h => by cases h).trans (enterState _ .joined fun h => by cases h)).trans (ownStation _ _ rfl)
  exact (hjoined.andThen (f := State.cancelStop) hr fun h => (Answer.cancelStop (o := true) (.inl h)).keeps).trans
    (Answer.evalBlade (o := true) _ _ _ _).keeps

/-! ## JOINED (R57) -/

theorem joinRole (s : State) : Keeps s s.joinRole := by
  unfold State.joinRole
  split
  · exact ((client s _).trans (raise _ _)).trans (Answer.evalBlade (o := true) _ _ _ _).keeps
  · exact (Answer.settleDrive (o := true) (w := true) s).keeps
  · exact updSpm s (.inl ‹_›)
  · exact (Answer.evalUplink (w := true) s _).keeps

theorem enterJoined (s : State) : Keeps s s.enterJoined := by
  unfold State.enterJoined
  dsimp only
  have hjoined : Keeps s (((s.updLife (fun l => { l with listenTimer := none })).enterState .joined).ownStation (some .joined)) :=
    ((updLife s rfl id .inl).trans (enterState _ .joined fun h => by cases h)).trans (ownStation _ _ rfl)
  have hframes := (hjoined.trans (request _ .announce)).trans (request _ (.inventory 0))
  refine (Keeps.trans ?_ (Answer.recordTally (o := true) (w := true) _).keeps).trans (joinRole _)
  refine ((hframes.trans (announceTimer _ _)).trans (raise _ _)).trans (Answer.shed (o := true) (w := true) ?_).keeps
  simp only [State.station, State.raise_life, State.updCen_life, State.request_life]
  rfl

/-- FAULT is entered by a sequencer in use (R108). -/
theorem enterFault (howns : s.ownsRails) : Keeps s s.enterFault :=
  (rsq s (r := { s.rsq.enter .fault with clearOnOff := false }) (howns.imp id fun hne h => absurd h hne)).trans
    (client _ { s.client with hostTarget := .off })

/-! ## SETUP (R51) -/

theorem railsReset (s : State) {r : Rsq} (hr : s.rsq = Rsq.reset → r = Rsq.reset) : Keeps s { s with rsq := r } :=
  rsq s (.inr hr)

theorem railsOff (s : State) : Keeps s s.railsOff :=
  (railsReset s (r := s.rsq.enter .off) fun h => by rw [h]; rfl).trans (raiseIf _ _ _)

theorem forceRailsOff (s : State) : Keeps s s.forceRailsOff :=
  (railsOff s).trans (railsReset _ fun h => by rw [h]; rfl)

/-- The fan drive's end leaves the reset values of a station without fans. -/
theorem endDrive (s : State) : Keeps s s.endDrive := by
  have hretained : Keeps s s.endRetained := by
    unfold State.endRetained
    split
    · rename_i hm
      exact fdu s (.of_channels rfl id) (.inr fun h => by rw [h] at hm; cases hm)
    · exact refl s
  have hstop : (Fdu.reset.mapChannels (fun _ c => c.stop)) = Fdu.reset := by decide
  refine hretained.trans (fdu _ (f := { s.endRetained.fdu.mapChannels (fun _ c => c.stop) with
    mode := .none, duty := 0, saturation := 0 }) ?_ (.inr fun h => ?_))
  · exact (Fdu.keeps_mapChannels _ (g := fun _ c => c.stop) fun _ c => Nat.le_refl _).trans (.of_channels rfl fun _ => Nat.zero_le _)
  · rw [h, hstop]; rfl

theorem endRetentions (s : State) : Keeps s s.endRetentions := by
  unfold State.endRetentions
  have hrails := (railsOff s).trans (railsReset _ (r := { s.railsOff.rsq with retained := 0 }) fun h => by rw [h]; rfl)
  exact (hrails.trans (life _ (l := { s.railsOff.life with retention := false }) rfl id .inl)).trans (endDrive _)

theorem consumeLatches (s : State) : Keeps s s.consumeLatches := lnu s id

theorem enterSetup (s : State) (cause : SetupCause) (image : BootImage) (h : s.station.apart = true) :
    Keeps s (s.enterSetup cause image) := by
  unfold State.enterSetup
  dsimp only
  have hinstall : Keeps s ((s.raise (.setupEntered cause)).install image) :=
    (raise s _).trans (updLife _ rfl id .inl)
  have hret := hinstall.trans (endRetentions _)
  have hlife := hret.trans (updLife _ (g := fun l => { l with setupCause := some cause }) rfl id .inl)
  have hapart : ((((s.raise (.setupEntered cause)).install image).endRetentions.updLife
      (fun l => { l with setupCause := some cause })).consumeLatches).station.apart = true := by
    simpa [State.station, State.consumeLatches, State.endRetentions_life, State.install] using h
  exact (hlife.trans (consumeLatches _)).trans (enterState _ .setup fun _ => hapart)

/-! ## Seating loss (R20, R65) -/

theorem parkSupply (hr : s.role = .supply) : Keeps s s.parkSupply := by
  unfold State.parkSupply
  exact ((updSpm s (.inl hr)).trans (writeSupply _ .offline 0 (.inl hr))).trans (raiseIf _ _ _)

theorem seatLossBus (s : State) : Keeps s s.seatLossBus := by
  unfold State.seatLossBus
  refine pbc s id fun hs i f hf => ?_
  dsimp only [State.slot] at hf
  by_cases hi : i = .depart
  · subst hi
    rw [TxQueue.get_put_self] at hf
    cases hf
    split <;> exact ⟨rfl, fun r hr => by cases hr⟩
  · rw [TxQueue.get_put_other _ _ hi, TxQueue.get_empty] at hf
    cases hf

theorem seatLossBlocks (s : State) : Keeps s s.seatLossBlocks := by
  unfold State.seatLossBlocks
  dsimp only
  have hrails : Keeps s (if s.isBlade = true then s.forceRailsOff else s) := ofIf (forceRailsOff s) (refl s)
  generalize (if s.isBlade = true then s.forceRailsOff else s) = t at hrails ⊢
  have hfans : Keeps s (if t.isFan = true then t.endDrive.evalOwnAirflow else t) := by
    split
    · have hrole : t.role = .fan := by simpa [State.isFan] using ‹t.isFan = true›
      exact (hrails.trans (endDrive t)).trans
        ((Answer.evalOwnAirflow (o := true) (w := true) ((endDrive t).role.trans hrole)).keeps)
    · exact hrails
  generalize (if t.isFan = true then t.endDrive.evalOwnAirflow else t) = u at hfans ⊢
  have hsupply : Keeps s (if u.isSupply = true then u.parkSupply else u) := by
    split
    · exact hfans.trans (parkSupply (by simpa [State.isSupply] using ‹u.isSupply = true›))
    · exact hfans
  exact (hsupply.trans (updLmp _ (g := Lmp.abandon) rfl)).trans (updLife _ rfl id .inl)

theorem localZero (s : State) : Keeps s s.localZero := (Answer.localZero (o := true) (w := true) s).keeps

theorem evalRoles (s : State) (pre : Census) (force : Bool) (points : Points) (before : State) :
    Keeps s (s.evalRoles pre force points before) := (Answer.evalRoles s pre force points before).keeps

theorem seatingLoss (s : State) : Keeps s s.seatingLoss := by
  unfold State.seatingLoss
  dsimp only
  have hblocks := seatLossBlocks s
  have hzero := hblocks.trans (localZero _)
  split
  · exact refl s
  · exact (hzero.trans (seatLossBus _)).trans (becomeParked _)
  · exact (hzero.trans (seatLossBus _)).trans (becomeParked _)
  · exact (hzero.trans (seatLossBus _)).trans (becomeParked _)
  · exact hzero.trans (evalRoles _ _ _ _ _)
  · exact (hzero.trans (ofIf (Answer.writeOffer (w := true) _ (Nat.zero_le _)).keeps (refl _))).trans (evalRoles _ _ _ _ _)
  · exact hblocks

end Keeps

end Sys2Proof.Machine
end

section
/-! PROOFS. The census operations of the accepted frames keep lane tables lawful and leave the census's counters: levels and
claims (R75, R80), the freeing (R30), lane claims (R168), and an announced lane holding (R35). -/

namespace Sys2Proof.Machine

/-! ## The counters -/

theorem Census.mark_sameClock (c : Census) (u : Addr) : c.SameClock (c.mark u) := ⟨rfl, rfl, rfl, rfl, rfl⟩

theorem Census.dropLaneClaimsOn_sameClock (c : Census) (u : Addr) : c.SameClock (c.dropLaneClaimsOn u) := ⟨rfl, rfl, rfl, rfl, rfl⟩

theorem Census.free_sameClock (c : Census) (a : Addr) : c.SameClock (c.free a) := by
  rw [Census.free_eq]
  have hzero := c.localZero_sameClock a
  split
  · exact ((hzero.trans (Census.upd_sameClock _ a _)).trans (Census.dropLaneClaimsOn_sameClock _ a)).trans
      (Census.mark_sameClock _ a)
  · exact hzero

theorem Census.vacate_sameClock (c : Census) (a : Addr) : c.SameClock (c.vacate a) :=
  (c.free_sameClock a).trans (Census.upd_sameClock _ a _)

theorem Census.setHeld_sameClock (c : Census) (a : Addr) (x : Nat) : c.SameClock (c.setHeld a x) := by
  unfold Census.setHeld
  split
  · exact c.heldZero_sameClock a
  · exact ⟨rfl, rfl, rfl, rfl, rfl⟩

theorem Census.freeOnAll_sameClock (a : Addr) (us : List Addr) (c : Census) :
    c.SameClock (us.foldl (fun c u => c.freeOn a u) c) := by
  induction us generalizing c with
  | nil => exact ⟨rfl, rfl, rfl, rfl, rfl⟩
  | cons u us ih => exact (c.freeOn_sameClock a u).trans (ih _)

theorem Census.freeHolders_sameClock (u : Addr) (ts : List Addr) (c : Census) :
    c.SameClock (ts.foldl (fun c t => c.freeOn t u) c) := by
  induction ts generalizing c with
  | nil => exact ⟨rfl, rfl, rfl, rfl, rfl⟩
  | cons t ts ih => exact (c.freeOn_sameClock t u).trans (ih _)

theorem Census.putLaneClaim_sameClock (c : Census) (a u : Addr) (n : Nat) : c.SameClock (c.putLaneClaim a u n) :=
  ⟨rfl, rfl, rfl, rfl, rfl⟩

/-! ## Levels and claims (R75, R80, R34) -/

section
variable {c : Census} (hs : c.Shaped) (a : Addr) (x : Nat)
include hs

theorem Census.Shaped.setHeld_other (b : Addr) (hb : b ≠ a) :
    ((c.setHeld a x).get b).held = (c.get b).held ∧ ((c.setHeld a x).get b).claim = (c.get b).claim := by
  unfold Census.setHeld
  split
  · rw [hs.get_heldZero, if_neg hb]; exact ⟨Entry.freeing_held _ _, Entry.freeing_claim _ _⟩
  · rw [hs.get_upd, if_neg hb]; exact ⟨rfl, rfl⟩

theorem Census.Shaped.setHeld_claim (b : Addr) : ((c.setHeld a x).get b).claim = (c.get b).claim := by
  unfold Census.setHeld
  split
  · rw [hs.get_heldZero]; split <;> simp
  · rw [hs.get_upd]
    split
    · obtain ⟨o, ho⟩ := Entry.trimShed_eq ({ c.get b with held := x })
      rw [ho]
    · rfl

theorem Census.Shaped.setHeld_held : ((c.setHeld a x).get a).held = x := by
  unfold Census.setHeld
  split
  · rename_i hx
    rw [hs.get_heldZero, if_pos rfl, beq_iff_eq.mp hx]
  · rw [hs.get_upd, if_pos rfl]
    obtain ⟨o, ho⟩ := Entry.trimShed_eq ({ c.get a with held := x })
    rw [ho]

/-- A held level takes no lane from a station but the last from its own, and none where it is above 0. -/
theorem Census.Shaped.setHeld_lanes (u : Addr) : ((c.setHeld a x).get u).offer = (c.get u).offer ∧
    (∀ q, ((c.setHeld a x).get u).laneClaim = some q → (c.get u).laneClaim = some q) ∧
    ∀ k b, ((c.setHeld a x).get u).owner k = some b → (c.get u).owner k = some b ∧ (b = a → 0 < x) := by
  unfold Census.setHeld
  split
  · rw [hs.get_heldZero]
    refine ⟨?_, fun q hq => ?_, fun k b ho => ?_⟩
    · split <;> simp
    · split at hq
      · simp at hq
      · simpa using hq
    · have ho' : ((c.get u).freeing a).owner k = some b := by split at ho <;> simpa using ho
      obtain ⟨hold, hb⟩ := Entry.owner_of_freeing ho'
      exact ⟨hold, fun hba => absurd hba hb⟩
  · rename_i hx
    have hpos : 0 < x := Nat.pos_of_ne_zero fun h0 => hx (by rw [h0]; rfl)
    rw [hs.get_upd]
    split
    · obtain ⟨o, ho⟩ := Entry.trimShed_eq ({ c.get u with held := x })
      rw [ho]
      exact ⟨by simp, fun q hq => by simpa using hq, fun k b ho' => ⟨by simpa using ho', fun _ => hpos⟩⟩
    · exact ⟨rfl, fun q hq => hq, fun k b ho' => ⟨ho', fun _ => hpos⟩⟩

end

section
variable {c : Census} (hs : c.Shaped) (h : c.Lawful)
include hs h

/-- A claim above the held level is taken. -/
theorem Census.Lawful.updClaim {a : Addr} {f : Entry → Entry} (hpart : ∀ e : Entry, (f e).part = e.part)
    (hheld : ∀ e : Entry, (f e).held = e.held) (hclaim : ∀ e : Entry, ∀ x, (f e).claim = some x → e.held < x) :
    (c.upd a f).Lawful := by
  have hget := fun b => hs.get_upd a b f
  have hview : ∀ b, ((c.upd a f).get b).part = (c.get b).part := fun b => by
    rw [hget]; split
    · exact hpart _
    · rfl
  have hview' : ∀ b, ((c.upd a f).get b).part.view = (c.get b).part.view := fun b => by rw [hview]
  have hheld' : ∀ b, ((c.upd a f).get b).held = (c.get b).held := fun b => by
    rw [hget]; split
    · exact hheld _
    · rfl
  have howner : ∀ b k, ((c.upd a f).get b).owner k = (c.get b).owner k := fun b k => by
    rw [← RolePart.view_owner, hview', RolePart.view_owner]
  have hoffer : ∀ b, ((c.upd a f).get b).offer = (c.get b).offer := fun b => by
    rw [← RolePart.view_offer, hview', RolePart.view_offer]
  refine h.shrink (fun u k b ho => ?_) (fun u => ?_) (fun b q hq => .inl ⟨q, ?_⟩) (fun b x hx => ?_)
  · rw [howner] at ho
    rw [hheld', hoffer]
    exact ⟨ho, h.held u k b ho, h.offered u k b ho⟩
  · rw [hoffer]; exact h.offer_le u
  · rwa [← RolePart.view_laneClaim, hview', RolePart.view_laneClaim] at hq
  · rw [hheld']
    rw [hget] at hx
    split at hx
    · exact hclaim _ x hx
    · exact h.claim b x hx

/-- A held level of a station without a power claim. -/
theorem Census.Lawful.setHeld {a : Addr} {x : Nat} (hnone : (c.get a).claim = none) : (c.setHeld a x).Lawful := by
  refine h.shrink (fun u k b ho => ?_) (fun u => ?_) (fun b q hq => .inl ⟨q, ?_⟩) (fun b y hy => ?_)
  · obtain ⟨hoffer, -, howner⟩ := hs.setHeld_lanes a x u
    obtain ⟨ho', hpos⟩ := howner k b ho
    rw [hoffer]
    refine ⟨ho', ?_, h.offered u k b ho'⟩
    by_cases hb : b = a
    · subst hb; rw [hs.setHeld_held]; exact hpos rfl
    · rw [(hs.setHeld_other a x b hb).1]; exact h.held u k b ho'
  · rw [(hs.setHeld_lanes a x u).1]; exact h.offer_le u
  · obtain ⟨-, hlane, -⟩ := hs.setHeld_lanes a x b
    exact hlane q hq
  · rw [hs.setHeld_claim] at hy
    by_cases hb : b = a
    · rw [hb, hnone] at hy; cases hy
    · rw [(hs.setHeld_other a x b hb).1]; exact h.claim b y hy

/-- A held level is set, with the claim that stands beside it (R34, R80). -/
theorem Census.Lawful.setLevels {a : Addr} {x : Nat} {f : Entry → Entry} (hpart : ∀ e : Entry, (f e).part = e.part)
    (hheld : ∀ e : Entry, (f e).held = e.held) (hclaim : ∀ e : Entry, ∀ y, (f e).claim = some y → x < y) :
    ((c.setHeld a x).upd a f).Lawful := by
  have hset := hs.setHeld a x
  have hget := fun b => hset.get_upd a b f
  have hview : ∀ b, (((c.setHeld a x).upd a f).get b).part.view = ((c.setHeld a x).get b).part.view := fun b => by
    rw [hget]; split
    · rw [hpart]
    · rfl
  have howner : ∀ b k, (((c.setHeld a x).upd a f).get b).owner k = ((c.setHeld a x).get b).owner k := fun b k => by
    rw [← RolePart.view_owner, hview, RolePart.view_owner]
  have hoffer : ∀ b, (((c.setHeld a x).upd a f).get b).offer = ((c.setHeld a x).get b).offer := fun b => by
    rw [← RolePart.view_offer, hview, RolePart.view_offer]
  have hlane : ∀ b, (((c.setHeld a x).upd a f).get b).laneClaim = ((c.setHeld a x).get b).laneClaim := fun b => by
    rw [← RolePart.view_laneClaim, hview, RolePart.view_laneClaim]
  have hlevel : ∀ b, (((c.setHeld a x).upd a f).get b).held = ((c.setHeld a x).get b).held := fun b => by
    rw [hget]; split
    · exact hheld _
    · rfl
  have hold := hs.setHeld_other a x
  have hself := hs.setHeld_held a x
  have hlanes := hs.setHeld_lanes a x
  refine h.shrink (fun u k b ho => ?_) (fun u => ?_) (fun b q hq => .inl ⟨q, ?_⟩) (fun b y hy => ?_)
  · rw [howner] at ho
    obtain ⟨ho', hpos⟩ := (hlanes u).2.2 k b ho
    rw [hoffer, (hlanes u).1, hlevel]
    refine ⟨ho', ?_, h.offered u k b ho'⟩
    by_cases hb : b = a
    · subst hb; rw [hself]; exact hpos rfl
    · rw [(hold b hb).1]; exact h.held u k b ho'
  · rw [hoffer, (hlanes u).1]; exact h.offer_le u
  · rw [hlane] at hq; exact (hlanes b).2.1 q hq
  · rw [hlevel]
    rw [hget] at hy
    by_cases hb : b = a
    · rw [if_pos hb] at hy
      rw [hb, hself]
      exact hclaim _ y hy
    · rw [if_neg hb, (hold b hb).2] at hy
      rw [(hold b hb).1]
      exact h.claim b y hy

/-- The freeing (R30). -/
theorem Census.Lawful.free (a : Addr) : (c.free a).Lawful := by
  have hz := h.localZero hs a
  rw [Census.free_eq]
  split
  · have hsu : ((c.localZero a).upd a Entry.emptied).Shaped := (hs.localZero a).upd fun e _ => e.emptied_tableOk
    refine Census.Lawful.mark ?_ a
    have hget := fun b => (hs.localZero a).get_upd a b Entry.emptied
    refine hz.sub (fun b => ?_) (fun b => ?_) (fun b => ?_) (fun b q hq => ?_) (fun u k b ho => ?_)
    · rw [hsu.get_dropLaneClaimsOn, hget]; split <;> simp
    · rw [hsu.get_dropLaneClaimsOn, hget]; split <;> simp
    · rw [hsu.get_dropLaneClaimsOn, hget]; split <;> simp
    · rw [hsu.get_dropLaneClaimsOn, Entry.dropClaimOn_laneClaim, Option.filter_eq_some_iff, hget] at hq
      have hq' := hq.1
      split at hq' <;> simpa using hq'
    · rw [hsu.get_dropLaneClaimsOn, Entry.dropClaimOn_owner, hget] at ho
      split at ho
      · simp at ho
      · exact ho
  · exact hz

/-- An entry that is freed, and then shows neither role part nor claim. -/
theorem Census.Lawful.clear {a : Addr} {f : Entry → Entry} (hclaim : ∀ e : Entry, e.claim = none → (f e).claim = none)
    (hpart : ∀ e : Entry, (f e).part = .unknown) : ((c.free a).upd a f).Lawful := by
  have hfree := h.free hs a
  have hget := fun b => (hs.free a).get_upd a b f
  have hgone : ∀ v k, ((c.free a).get v).owner k ≠ some a := by
    intro v k ho
    have hpos := hfree.held v k a ho
    obtain ⟨hzero, -⟩ := hs.get_free_self a
    omega
  have hempty : ∀ e : Entry, (f e).offer = 0 ∧ (f e).laneClaim = none ∧ ∀ k, (f e).owner k = none := fun e => by
    simp [Entry.offer, Entry.laneClaim, Entry.owner, Entry.table, Entry.uplink, Entry.blade, hpart e]
  refine hfree.shrink (fun u k b ho => ?_) (fun u => ?_) (fun b q hq => ?_) (fun b x hx => ?_)
  · rw [hget] at ho
    by_cases hu : u = a
    · rw [if_pos hu, (hempty _).2.2] at ho; cases ho
    · rw [if_neg hu] at ho
      have hb : b ≠ a := by
        rintro rfl; exact hgone u k ho
      rw [hget, hget, if_neg hu, if_neg hb]
      exact ⟨ho, hfree.held u k b ho, hfree.offered u k b ho⟩
  · rw [hget]; split
    · rw [(hempty _).1]; exact Nat.zero_le _
    · exact hfree.offer_le u
  · rw [hget] at hq
    split at hq
    · rw [(hempty _).2.1] at hq; cases hq
    · exact .inl ⟨q, hq⟩
  · rw [hget] at hx
    split at hx
    · rename_i hb; rw [hb, hclaim _ (hs.get_free_self a).2.1] at hx; cases hx
    · rename_i hb; rw [hget, if_neg hb]; exact hfree.claim b x hx

theorem Census.Lawful.vacate (a : Addr) : (c.vacate a).Lawful :=
  h.clear hs (f := fun _ => .vacant) (fun _ _ => rfl) fun _ => rfl

/-! ## Lane claims (R168, R170) -/

/-- A lane claim of a station that owns no lane. -/
theorem Census.Lawful.putLaneClaim {a u : Addr} {n : Nat} (hnone : ∀ v k, (c.get v).owner k ≠ some a) :
    (c.putLaneClaim a u n).Lawful := by
  refine Census.Lawful.mark ?_ u
  have hget := fun b => hs.get_upd a b
    (fun e => e.updBlade (fun p => { p with laneClaim := some (u, min n (c.get u).offer) }))
  have howner : ∀ b k, ((c.upd a (fun e => e.updBlade (fun p =>
      { p with laneClaim := some (u, min n (c.get u).offer) }))).get b).owner k = (c.get b).owner k := fun b k => by
    rw [hget]; split <;> simp
  have hoffer : ∀ b, ((c.upd a (fun e => e.updBlade (fun p =>
      { p with laneClaim := some (u, min n (c.get u).offer) }))).get b).offer = (c.get b).offer := fun b => by
    rw [hget]; split <;> simp
  have hheld : ∀ b, ((c.upd a (fun e => e.updBlade (fun p =>
      { p with laneClaim := some (u, min n (c.get u).offer) }))).get b).held = (c.get b).held := fun b => by
    rw [hget]; split <;> simp
  refine h.shrink (fun v k b ho => ?_) (fun v => ?_) (fun b q hq => ?_) (fun b x hx => ?_)
  · rw [howner] at ho
    rw [hheld, hoffer]
    exact ⟨ho, h.held v k b ho, h.offered v k b ho⟩
  · rw [hoffer]; exact h.offer_le v
  · rw [hget] at hq
    split at hq
    · rename_i hb
      exact .inr fun v k => by rw [howner, hb]; exact hnone v k
    · exact .inl ⟨q, hq⟩
  · rw [hheld]
    rw [hget] at hx
    refine h.claim b x ?_
    split at hx <;> simpa using hx

theorem Census.Lawful.takeLaneClaim (a u : Addr) (n : Nat) : (c.takeLaneClaim a u n).Lawful := by
  refine (h.freeLanes hs a).putLaneClaim (hs.freeLanes a) fun v k => ?_
  rw [hs.get_freeLanes]
  exact fun ho => (Entry.owner_of_freeing ho).2 rfl

theorem Census.Lawful.takeLaneRelease (a u : Addr) : (c.takeLaneRelease a u).Lawful := by
  have hfree := h.freeOn hs a u
  unfold Census.takeLaneRelease
  dsimp only
  split
  · split
    · exact hfree.dropLaneClaim (hs.freeOn a u) a
    · exact hfree
  · exact hfree

end

section
variable {c : Census} (hs : c.Shaped)
include hs

theorem Census.Shaped.putLaneClaim (a u : Addr) (n : Nat) : (c.putLaneClaim a u n).Shaped :=
  Census.Shaped.mark (hs.upd fun e => Entry.tableOk_congr (e.updBlade_uplink _)) u

theorem Census.Shaped.takeLaneClaim (a u : Addr) (n : Nat) : (c.takeLaneClaim a u n).Shaped :=
  (hs.freeLanes a).putLaneClaim a u n

theorem Census.Shaped.takeLaneRelease (a u : Addr) : (c.takeLaneRelease a u).Shaped := by
  unfold Census.takeLaneRelease
  dsimp only
  split
  · split
    · exact (hs.freeOn a u).dropLaneClaim a
    · exact hs.freeOn a u
  · exact hs.freeOn a u

end

/-! ## An announced lane holding (R35) -/

/-- Only the lane table of an entry differs. -/
structure Entry.TableOnly (e e' : Entry) : Prop where
  bare : e'.bare = e.bare
  face : e'.part.face = e.part.face
  laneClaim : e'.laneClaim = e.laneClaim
  offer : e'.offer = e.offer

theorem Entry.TableOnly.refl (e : Entry) : e.TableOnly e := ⟨rfl, rfl, rfl, rfl⟩

theorem Entry.TableOnly.trans {e e' e'' : Entry} (h : e.TableOnly e') (h' : e'.TableOnly e'') : e.TableOnly e'' :=
  ⟨h'.bare.trans h.bare, h'.face.trans h.face, h'.laneClaim.trans h.laneClaim, h'.offer.trans h.offer⟩

theorem Entry.updTable_tableOnly (e : Entry) (f : List (Option Addr) → List (Option Addr)) :
    e.TableOnly (e.updUplink (fun p => { p with table := f p.table })) := by
  refine ⟨e.updUplink_bare _, ?_, e.updUplink_laneClaim _, ?_⟩ <;> cases h : e.part <;>
    simp [Entry.updUplink, RolePart.face, Entry.offer, Entry.uplink, h]

theorem clearSlots_getD (ks : List Nat) (t : List (Option Addr)) (k : Nat) :
    (ks.foldl (fun t k => t.set k none) t).getD k none = if k ∈ ks then none else t.getD k none := by
  induction ks generalizing t with
  | nil => simp
  | cons j ks ih =>
    rw [List.foldl_cons, ih]
    simp only [List.getD_eq_getElem?_getD, List.getElem?_set, List.mem_cons]
    by_cases hk : k ∈ ks
    · simp [hk]
    · by_cases hj : k = j
      · subst hj; split <;> simp [hk]; split <;> rfl
      · simp [hk, hj, Ne.symm hj]

theorem clearSlots_length (ks : List Nat) (t : List (Option Addr)) :
    (ks.foldl (fun t k => t.set k none) t).length = t.length := by
  induction ks generalizing t with
  | nil => rfl
  | cons j ks ih => rw [List.foldl_cons, ih, List.length_set]

/-- What a census operation on lane tables keeps: the sizes, and all of every entry but its lane table. -/
structure Census.Relaned (c c' : Census) : Prop where
  shaped : c'.Shaped
  entries : ∀ b, (c.get b).TableOnly (c'.get b)

theorem Census.Relaned.trans {c c' c'' : Census} (h : c.Relaned c') (h' : c'.Relaned c'') : c.Relaned c'' :=
  ⟨h'.shaped, fun b => (h.entries b).trans (h'.entries b)⟩

section
variable {c : Census} (hs : c.Shaped)
include hs

theorem Census.Shaped.freeOnAll_relaned (a : Addr) (us : List Addr) : c.Relaned (us.foldl (fun c u => c.freeOn a u) c) := by
  obtain ⟨hshaped, hget⟩ := hs.freeOnAll a us
  refine ⟨hshaped, fun b => ?_⟩
  rw [hget]
  split
  · exact (c.get b).updTable_tableOnly (freeSlots a)
  · exact .refl _

theorem Census.Shaped.assign_relaned (u a : Addr) (lanes : List Nat) : c.Relaned (c.assign u a lanes) := by
  refine ⟨hs.assign u a lanes, fun b => ?_⟩
  rw [hs.get_assign]
  split
  · exact (c.get b).updTable_tableOnly (assignLanes a lanes)
  · exact .refl _

theorem Census.Shaped.freeOutside (a u : Addr) (lanes : List Nat) :
    c.Relaned (c.freeOutside a u lanes) ∧ ∀ v k, ((c.freeOutside a u lanes).get v).owner k =
      if v = u ∧ (c.get v).owner k = some a ∧ k ∉ lanes then none else (c.get v).owner k := by
  unfold Census.freeOutside
  have hmem : ∀ k, k ∈ ((c.get u).lanesOf a).filter (fun k => !lanes.contains k) ↔
      (c.get u).owner k = some a ∧ k ∉ lanes := by
    intro k
    rw [List.mem_filter, Entry.mem_lanesOf]
    constructor
    · rintro ⟨⟨-, ho⟩, hk⟩; exact ⟨ho, by simpa using hk⟩
    · rintro ⟨ho, hk⟩; exact ⟨⟨Entry.owner_lt (hs.tables u) ho, ho⟩, by simpa using hk⟩
  dsimp only
  generalize ((c.get u).lanesOf a).filter (fun k => !lanes.contains k) = drop at hmem ⊢
  split
  · rename_i hempty
    refine ⟨⟨hs, fun _ => .refl _⟩, fun v k => ?_⟩
    rw [if_neg]
    rintro ⟨rfl, ho⟩
    rw [List.isEmpty_iff.mp hempty] at hmem
    exact List.not_mem_nil ((hmem k).mpr ho)
  · have hget := fun b => hs.get_upd u b (fun e => e.updUplink (fun p => { p with table := drop.foldl (fun t k => t.set k none) p.table }))
    refine ⟨⟨?_, fun b => ?_⟩, fun v k => ?_⟩
    · refine Census.Shaped.mark (hs.upd fun e he => Entry.tableOk_updUplink (fun p hp => ?_) he) u
      exact (clearSlots_length drop p.table).trans hp
    · rw [Census.mark_get, hget]
      split
      · exact (c.get b).updTable_tableOnly (fun t => drop.foldl (fun t k => t.set k none) t)
      · exact .refl _
    · rw [Census.mark_get, hget]
      by_cases hv : v = u
      · subst hv
        rw [if_pos rfl]
        cases hu : (c.get v).uplink with
        | none => simp [Entry.owner, Entry.table, hu]
        | some p =>
          have hnew : ((c.get v).updUplink (fun p => { p with table := drop.foldl (fun t k => t.set k none) p.table })).owner k =
              if k ∈ drop then none else (c.get v).owner k := by
            simp only [Entry.owner, Entry.table, Entry.updUplink_uplink, hu, Option.map_some]
            exact clearSlots_getD drop p.table k
          rw [hnew]
          simp only [hmem, true_and]
      · rw [if_neg hv, if_neg (fun hh => hv hh.1)]

theorem Census.Shaped.freeHolders (u : Addr) (ts : List Addr) :
    c.Relaned (ts.foldl (fun c t => c.freeOn t u) c) ∧ ∀ v k b, ((ts.foldl (fun c t => c.freeOn t u) c).get v).owner k = some b ↔
      (c.get v).owner k = some b ∧ ¬ (v = u ∧ b ∈ ts) := by
  induction ts generalizing c with
  | nil => exact ⟨⟨hs, fun _ => .refl _⟩, fun v k b => by simp⟩
  | cons t ts ih =>
    obtain ⟨hrelaned, howner⟩ := ih (hs.freeOn t u)
    have hget := hs.get_freeOn t u
    refine ⟨Census.Relaned.trans ⟨hs.freeOn t u, fun b => ?_⟩ hrelaned, fun v k b => ?_⟩
    · rw [hget]
      split
      · exact (c.get b).updTable_tableOnly (freeSlots t)
      · exact .refl _
    · rw [List.foldl_cons, howner, hget]
      by_cases hv : v = u
      · rw [if_pos hv, Entry.freeing_owner]
        by_cases ho : (c.get v).owner k = some t
        · rw [if_pos ho, ho]
          constructor
          · rintro ⟨hb, -⟩; cases hb
          · rintro ⟨hb, hn⟩; exact absurd ⟨hv, by simp [Option.some.inj hb]⟩ hn
        · rw [if_neg ho]
          constructor
          · rintro ⟨hb, hn⟩
            refine ⟨hb, fun hmem => hn ⟨hv, (List.mem_cons.mp hmem.2).resolve_left fun hbt => ho (hbt ▸ hb)⟩⟩
          · rintro ⟨hb, hn⟩
            exact ⟨hb, fun hmem => hn ⟨hv, List.mem_cons_of_mem t hmem.2⟩⟩
      · rw [if_neg hv]
        simp [hv]

/-- R35 steps 1 to 4: the announced lanes are the sender's, it owns no other, and whoever held one of them has lost them. -/
theorem Census.Shaped.honour {a u : Addr} {lanes : List Nat} (hup : (c.get u).uplink.isSome = true)
    (hlanes : ∀ k ∈ lanes, k < Config.lanes) :
    c.Relaned (c.honour a u lanes) ∧
      (∀ v k, ((c.honour a u lanes).get v).owner k = some a ↔ v = u ∧ k ∈ lanes) ∧
      ∀ v k b, b ≠ a → ((c.honour a u lanes).get v).owner k = some b → (c.get v).owner k = some b := by
  unfold Census.honour
  dsimp only
  have hother : ∀ v, v ∈ allAddrs.filter (fun v => v != u) ↔ v ≠ u := fun v => by
    simp [List.mem_filter, mem_allAddrs]
  have h1 := hs.freeOnAll_relaned a (allAddrs.filter (fun v => v != u))
  have hget1 := (hs.freeOnAll a (allAddrs.filter (fun v => v != u))).2
  generalize (allAddrs.filter (fun v => v != u)).foldl (fun c v => c.freeOn a v) c = c1 at h1 hget1 ⊢
  have howner1 : ∀ v k b, (c1.get v).owner k = some b ↔ (c.get v).owner k = some b ∧ (v ≠ u → b ≠ a) := by
    intro v k b
    rw [hget1]
    by_cases hv : v = u
    · rw [if_neg (fun hm => (hother v).mp hm hv)]
      simp [hv]
    · rw [if_pos ((hother v).mpr hv)]
      constructor
      · intro ho
        obtain ⟨hold, hb⟩ := Entry.owner_of_freeing ho
        exact ⟨hold, fun _ => hb⟩
      · rintro ⟨hold, hb⟩
        rw [Entry.freeing_owner, if_neg]
        · exact hold
        · rw [hold]; exact fun hh => hb hv (Option.some.inj hh)
  obtain ⟨h2, howner2⟩ := h1.shaped.freeOutside a u lanes
  generalize c1.freeOutside a u lanes = c2 at h2 howner2 ⊢
  obtain ⟨h3, howner3⟩ := h2.shaped.freeHolders u (c2.holdersOf a u lanes)
  have hnot : a ∉ c2.holdersOf a u lanes := by simp [Census.holdersOf]
  generalize c2.holdersOf a u lanes = ts at h3 howner3 hnot ⊢
  generalize ts.foldl (fun c t => c.freeOn t u) c2 = c3 at h3 howner3 ⊢
  have h4 := h3.shaped.assign_relaned u a lanes
  have hup3 : (c3.get u).uplink.isSome = true := by
    have hface := ((h1.trans h2).trans h3).entries u |>.face
    cases hp : (c.get u).part <;> simp [Entry.uplink, hp] at hup
    cases hp3 : (c3.get u).part <;> simp [RolePart.face, hp, hp3] at hface
    simp [Entry.uplink, hp3]
  have howner4 : ∀ v k, ((c3.assign u a lanes).get v).owner k =
      if v = u ∧ k ∈ lanes then some a else (c3.get v).owner k := by
    intro v k
    rw [h3.shaped.get_assign]
    by_cases hv : v = u
    · subst hv
      rw [if_pos rfl, Entry.assigned_owner _ _ (h3.shaped.tables v)]
      by_cases hk : k ∈ lanes
      · rw [if_pos ⟨hk, hlanes k hk, hup3⟩, if_pos ⟨rfl, hk⟩]
      · rw [if_neg (fun hh => hk hh.1), if_neg (fun hh => hk hh.2)]
    · rw [if_neg hv, if_neg (fun hh => hv hh.1)]
  refine ⟨((h1.trans h2).trans h3).trans h4, fun v k => ?_, fun v k b hb ho => ?_⟩
  · rw [howner4]
    split
    · simpa using ‹v = u ∧ k ∈ lanes›
    · rename_i hn
      refine ⟨fun ho => ?_, fun hh => absurd hh hn⟩
      have ho2 := ((howner3 v k a).mp ho).1
      rw [howner2] at ho2
      split at ho2
      · cases ho2
      · rename_i hkeep
        have hv : v = u := by
          refine Classical.byContradiction fun hv => ?_
          exact ((howner1 v k a).mp ho2).2 hv rfl
        exact absurd ⟨hv, ho2, fun hk => hn ⟨hv, hk⟩⟩ hkeep
  · rw [howner4] at ho
    split at ho
    · exact absurd (Option.some.inj ho).symm hb
    · have ho2 := ((howner3 v k b).mp ho).1
      rw [howner2] at ho2
      split at ho2
      · cases ho2
      · exact ((howner1 v k b).mp ho2).1

end

theorem Census.honour_sameClock (c : Census) (a u : Addr) (lanes : List Nat) : c.SameClock (c.honour a u lanes) := by
  unfold Census.honour
  dsimp only
  have h1 := Census.freeOnAll_sameClock a (allAddrs.filter (fun v => v != u)) c
  generalize (allAddrs.filter (fun v => v != u)).foldl (fun c v => c.freeOn a v) c = c1 at h1 ⊢
  have h2 : c1.SameClock (c1.freeOutside a u lanes) := by
    unfold Census.freeOutside; dsimp only; split <;> exact ⟨rfl, rfl, rfl, rfl, rfl⟩
  exact ((h1.trans h2).trans (Census.freeHolders_sameClock u _ _)).trans ⟨rfl, rfl, rfl, rfl, rfl⟩

end Sys2Proof.Machine
end

section
/-! PROOFS. An accepted ANNOUNCE (R32 to R35) as one change of the census, and what that change keeps. -/

namespace Sys2Proof.Machine

/-! ## A decoded payload (R32) -/

/-- What decoding guarantees of the fields of an ANNOUNCE. -/
structure AnnounceBody.Sound (body : AnnounceBody) : Prop where
  claim : ∀ x, body.claim = some x → body.held < x
  blade : ∀ p, body.part = .blade p → p.laneClaim = none
  offer : ∀ k, body.part.offer = some k → k ≤ Config.lanes
  single : body.holding.isSome = true → body.laneClaim = none
  lanes : ∀ u lanes, body.holding = some (u, lanes) → ∃ b, lanes = lanesOfByte b
  known : body.part ≠ .unknown

theorem laneFieldsOf_sound {role : Role} {bs : List Byte} {l : Option (Addr × List Nat) × Option (Addr × Nat)}
    (h : laneFieldsOf role bs = some l) :
    (l.1.isSome = true → l.2 = none) ∧ ∀ u lanes, l.1 = some (u, lanes) → ∃ b, lanes = lanesOfByte b := by
  unfold laneFieldsOf at h
  split at h
  · split at h
    · rename_i hold q hhold hq
      cases h
      refine ⟨fun hs => if_pos hs, fun u lanes hl => ?_⟩
      dsimp only at hl
      subst hl
      unfold holdingOf at hhold
      split at hhold
      · cases hhold
      · cases hhold
      · dsimp only at hhold
        split at hhold
        · cases hhold
        · split at hhold <;> cases hhold
          exact ⟨_, rfl⟩
    · cases h
  all_goals
    cases h
    exact ⟨fun hs => rfl, fun u lanes hl => by cases hl⟩

theorem rolePartOf_sound {role : Role} {bs : List Byte} {part : RolePart} (h : rolePartOf role bs = some part) :
    (∀ p, part = .blade p → p.laneClaim = none) ∧ (∀ k, part.offer = some k → k ≤ Config.lanes) ∧ part ≠ .unknown := by
  unfold rolePartOf at h
  cases role <;> obtain ⟨q, hq, rfl⟩ := Option.map_eq_some_iff.mp h
  · refine ⟨fun p hp => ?_, fun k hk => (by cases hk), by simp⟩
    cases hp
    unfold bladePartOf at hq
    split at hq
    · cases hq
    · cases hq; rfl
  · exact ⟨fun p hp => (by cases hp), fun k hk => (by cases hk), by simp⟩
  · exact ⟨fun p hp => (by cases hp), fun k hk => (by cases hk), by simp⟩
  · refine ⟨fun p hp => (by cases hp), fun k hk => ?_, by simp⟩
    unfold uplinkPartOf at hq
    split at hq
    · cases hq
    · cases hq
      cases hk
      exact Nat.min_le_left _ _

theorem decodeAnnounce_sound {bs : List Byte} {body : AnnounceBody} (h : decodeAnnounce bs = some body) : body.Sound := by
  unfold decodeAnnounce at h
  split at h
  · split at h
    · rename_i hpart hlanes
      cases h
      obtain ⟨hblade, hoffer, hknown⟩ := rolePartOf_sound hpart
      obtain ⟨hsingle, hset⟩ := laneFieldsOf_sound hlanes
      refine ⟨fun x hx => ?_, hblade, hoffer, hsingle, hset, hknown⟩
      simp only [announceBody] at hx ⊢
      split at hx
      · rename_i hc
        simp only [Bool.and_eq_true, Bool.not_eq_true', decide_eq_true_eq] at hc
        rw [if_neg (by simp [hc.1]), ← Option.some.inj hx]
        exact hc.2
      · cases hx
    · cases h
  · cases h

/-! ## The census after it -/

/-- R33, a change of a known role. -/
def Census.announceRole (c : Census) (a : Addr) (body : AnnounceBody) : Census :=
  if (c.get a).role.isSome && (c.get a).role != body.part.role then
    (c.free a).upd a (fun e => { e with part := .unknown, identity := none })
  else c

/-- R33 and R34: role, fields and levels. -/
def Census.announceEntry (c : Census) (a : Addr) (body : AnnounceBody) : Census :=
  ((c.announceRole a body).announceFields a body).announceLevels a body

/-- R35, the announced holding. -/
def Census.announceHold (c : Census) (a : Addr) (body : AnnounceBody) : Census :=
  match body.holding with
  | some (u, lanes) => if c.honours body.held u lanes then c.honour a u lanes else c.freeLanes a
  | none => c.freeLanes a

/-- R35, for a BLADE. -/
def Census.announceLanes (c : Census) (a : Addr) (body : AnnounceBody) : Census :=
  match body.part with
  | .blade _ => (c.announceHold a body).announceLaneClaim a body
  | .unknown | .fan _ | .supply _ | .uplink _ => c

/-- A state to which only events have been added. -/
def State.Told (s t : State) : Prop := ∃ es, t = s.raiseAll es

theorem State.Told.refl (s : State) : s.Told s := ⟨[], rfl⟩

theorem State.Told.trans {s t u : State} (h : s.Told t) (h' : t.Told u) : s.Told u := by
  obtain ⟨es, rfl⟩ := h
  obtain ⟨es', rfl⟩ := h'
  exact ⟨es ++ es', by simp [State.raiseAll]⟩

theorem State.Told.updCen {s t : State} (h : s.Told t) (f : Census → Census) : (s.updCen f).Told (t.updCen f) := by
  obtain ⟨es, rfl⟩ := h
  exact ⟨es, rfl⟩

theorem State.Told.cen {s t : State} (h : s.Told t) : t.cen = s.cen := by
  obtain ⟨es, rfl⟩ := h
  rfl

theorem State.raiseIf_told (s : State) (b : Bool) (e : Event) : s.Told (s.raiseIf b e) := by
  unfold State.raiseIf
  split
  · exact ⟨[e], rfl⟩
  · exact .refl s

theorem State.announceRole_told (s : State) (a : Addr) (body : AnnounceBody) :
    (s.updCen (fun c => c.announceRole a body)).Told (s.announceRole a body) := by
  unfold State.announceRole Census.announceRole
  dsimp only [State.entry, State.updCen]
  split
  · exact State.raiseIf_told _ _ _
  · exact .refl s

theorem State.announceHolding_told (s : State) (a : Addr) (body : AnnounceBody) :
    (s.updCen (fun c => c.announceHold a body)).Told (s.announceHolding a body) := by
  have hfold : ∀ (vs : List Addr) (t : State),
      t.Told (vs.foldl (fun t v => t.correction (s.station != .listen) v .lanes) t) := by
    intro vs
    induction vs with
    | nil => exact fun t => .refl t
    | cons v vs ih => exact fun t => (State.raiseIf_told t _ _).trans (ih _)
  unfold State.announceHolding Census.announceHold
  cases body.holding with
  | none => exact .refl _
  | some p =>
    obtain ⟨u, lanes⟩ := p
    dsimp only [State.updCen]
    split
    · exact hfold _ _
    · exact .refl _

theorem State.announceLanes_told (s : State) (pre : Census) (corrects : Bool) (a : Addr) (body : AnnounceBody) :
    (s.updCen (fun c => c.announceLanes a body)).Told (s.announceLanes pre corrects a body) := by
  unfold State.announceLanes Census.announceLanes
  cases body.part with
  | blade p =>
    dsimp only
    refine State.Told.trans (t := ((s.updCen (fun c => c.announceHold a body)).updCen (fun c => c.announceLaneClaim a body)))
      (.refl _) ?_
    exact ((((s.announceHolding_told a body).trans (State.raiseIf_told _ _ _))).updCen _).trans (State.raiseIf_told _ _ _)
  | unknown | fan | supply | uplink => exact .refl s

/-- The census of an ANNOUNCE whose fields are sound, and the events beside it; then its policy, its place in the
rotation and its sender's identity. -/
theorem State.applyAnnounce_eq (s : State) (pre : Census) (a : Addr) (body : AnnounceBody) :
    ∃ t : State, (((if body.supplyExcess then s.anomaly else s).updCen (fun c => c.announceEntry a body)).updCen
        (fun c => c.announceLanes a body)).Told t ∧
      s.applyAnnounce pre a body = ((t.policyCompare (pre.get a) a body).resynchronise a).askIdentity a := by
  refine ⟨_, ?_, rfl⟩
  refine State.Told.trans (State.Told.updCen ?_ (fun c => c.announceLanes a body)) (State.announceLanes_told _ _ _ _ _)
  refine State.Told.trans ?_ (State.raiseIf_told _ _ _)
  refine State.Told.trans ?_ (State.raiseIf_told _ _ _)
  exact (State.announceRole_told _ a body).updCen (fun c => (c.announceFields a body).announceLevels a body)

/-! ## Role and fields (R33) -/

section
variable {c : Census} (hs : c.Shaped) (a : Addr) (body : AnnounceBody)
include hs

theorem Census.Shaped.announceRole : (c.announceRole a body).Shaped := by
  unfold Census.announceRole
  split
  · refine (hs.free a).upd fun e _ => ?_
    intro p hp; simp [Entry.uplink] at hp
  · exact hs

/-- After R33's first step the entry has no role, or the announced one. -/
theorem Census.Shaped.announceRole_role :
    ((c.announceRole a body).get a).role = none ∨ ((c.announceRole a body).get a).role = body.part.role := by
  unfold Census.announceRole
  split
  · rw [(hs.free a).get_upd, if_pos rfl]
    exact .inl rfl
  · rename_i hrole
    cases hr : (c.get a).role with
    | none => exact .inl rfl
    | some r => rw [hr] at hrole; simpa using hrole

end

/-- The announced part over one of no role or the same: lane claim, offer and table stand. -/
theorem Entry.overwrite_shows {e : Entry} {body : AnnounceBody} (hb : body.Sound)
    (hrole : e.role = none ∨ e.role = body.part.role) :
    (e.part.overwrite body.part).view.laneClaim = e.laneClaim ∧ (e.part.overwrite body.part).view.offer = e.offer ∧
      ∀ k, (e.part.overwrite body.part).view.owner k = e.owner k := by
  have hblade := hb.blade
  rw [← RolePart.view_laneClaim, ← RolePart.view_offer]
  simp only [← RolePart.view_owner e]
  cases hp : e.part <;> cases hn : body.part <;>
    simp [Entry.role, RolePart.role, hp, hn] at hrole <;>
    simp_all [RolePart.overwrite, RolePart.view, Entry.laneClaim, Entry.blade, Entry.offer, Entry.uplink,
      Entry.owner, Entry.table, freshUplink, List.getElem?_replicate]
  all_goals
    intro k
    split <;> rfl

theorem RolePart.overwrite_tableOk {e : Entry} (he : e.tableOk) (new : RolePart) :
    ({ e with part := e.part.overwrite new } : Entry).tableOk := by
  intro p hp
  cases hq : e.part <;> cases new <;> simp [Entry.uplink, RolePart.overwrite, hq, freshUplink] at hp <;>
    subst hp <;> simp
  exact he _ (by simp [Entry.uplink, hq])

/-- The entry as the announced fields leave it. -/
def Entry.announced (e : Entry) (body : AnnounceBody) : Entry :=
  { e with station := some body.station, policy := some body.policy, priority := body.priority,
           part := e.part.overwrite body.part }

theorem Entry.announced_tableOk {e : Entry} (he : e.tableOk) (body : AnnounceBody) : (e.announced body).tableOk :=
  Entry.tableOk_of_part (e := { e with part := e.part.overwrite body.part }) rfl (RolePart.overwrite_tableOk he body.part)

/-- The announced fields but the offer: the entry is overwritten, and an uplink may be marked. -/
def Census.announcePart (c : Census) (a : Addr) (body : AnnounceBody) : Census :=
  Census.upd (match (c.get a).laneClaim with
    | some (u, _) => c.markIf ((c.get a).priority != body.priority) u
    | none => c) a (fun e => e.announced body)

theorem Census.announceFields_eq (c : Census) (a : Addr) (body : AnnounceBody) :
    c.announceFields a body = match body.part.offer with
      | some k => (c.announcePart a body).setOffer a k
      | none => c.announcePart a body := rfl

theorem Census.markIf_entries (c : Census) (b : Bool) (u : Addr) :
    (c.markIf b u).entries = c.entries ∧ c.SameClock (c.markIf b u) := by
  unfold Census.markIf; split <;> exact ⟨rfl, rfl, rfl, rfl, rfl, rfl⟩

section
variable {c : Census} (hs : c.Shaped) (a : Addr) (body : AnnounceBody)
include hs

theorem Census.Shaped.announcePart : (c.announcePart a body).Shaped ∧
    ∀ b, (c.announcePart a body).get b = if b = a then (c.get b).announced body else c.get b := by
  unfold Census.announcePart
  generalize hm : (match (c.get a).laneClaim with
    | some (u, _) => c.markIf ((c.get a).priority != body.priority) u
    | none => c) = m
  have hentries : m.entries = c.entries := by
    rw [← hm]; split
    · exact (c.markIf_entries _ _).1
    · rfl
  have hsm := hs.of_entries hentries
  refine ⟨hsm.upd fun e he => Entry.announced_tableOk he body, fun b => ?_⟩
  rw [hsm.get_upd, Census.get_congr hentries]

theorem Census.Shaped.announceFields : (c.announceFields a body).Shaped := by
  rw [Census.announceFields_eq]
  split
  · exact (hs.announcePart a body).1.setOffer a _
  · exact (hs.announcePart a body).1

end

theorem Census.announcePart_sameClock (c : Census) (a : Addr) (body : AnnounceBody) :
    c.SameClock (c.announcePart a body) := by
  unfold Census.announcePart
  refine Census.SameClock.trans ?_ (Census.upd_sameClock _ a _)
  split
  · exact (c.markIf_entries _ _).2
  · exact ⟨rfl, rfl, rfl, rfl, rfl⟩

theorem Census.announceEntry_sameClock (c : Census) (a : Addr) (body : AnnounceBody) :
    c.SameClock (c.announceEntry a body) := by
  have hrole : c.SameClock (c.announceRole a body) := by
    unfold Census.announceRole; split
    · exact (c.free_sameClock a).trans (Census.upd_sameClock _ a _)
    · exact ⟨rfl, rfl, rfl, rfl, rfl⟩
  have hfields : (c.announceRole a body).SameClock ((c.announceRole a body).announceFields a body) := by
    rw [Census.announceFields_eq]; split
    · exact (Census.announcePart_sameClock _ a body).trans (Census.setOffer_sameClock _ a _)
    · exact Census.announcePart_sameClock _ a body
  exact (hrole.trans hfields).trans ((Census.setHeld_sameClock _ a _).trans
    (Census.upd_sameClock _ a (fun e => { e with claim := body.claim })))

section
variable {c : Census} (hs : c.Shaped) (a : Addr) {body : AnnounceBody}
include hs

theorem Census.Shaped.announceLevels : (c.announceLevels a body).Shaped :=
  (hs.setHeld a _).upd fun _ => Entry.tableOk_of_part rfl

theorem Census.Shaped.announceEntry : (c.announceEntry a body).Shaped :=
  ((hs.announceRole a body).announceFields a body).announceLevels a

theorem Census.Shaped.announceEntry_held : ((c.announceEntry a body).get a).held = body.held := by
  have hf := (hs.announceRole a body).announceFields a body
  unfold Census.announceEntry Census.announceLevels
  rw [(hf.setHeld a _).get_upd, if_pos rfl]
  exact hf.setHeld_held a _

theorem Census.Lawful.announceEntry (h : c.Lawful) (hb : body.Sound) : (c.announceEntry a body).Lawful := by
  have hsr := hs.announceRole a body
  have hr : (c.announceRole a body).Lawful := by
    unfold Census.announceRole
    split
    · exact h.clear hs (f := fun e => { e with part := .unknown, identity := none }) (fun _ hnone => hnone) fun _ => rfl
    · exact h
  obtain ⟨hsp, hget⟩ := hsr.announcePart a body
  have hp : (((c.announceRole a body)).announcePart a body).Lawful := by
    obtain ⟨hlane, hoffer, howner⟩ := Entry.overwrite_shows hb (hs.announceRole_role a body)
    have hself : ∀ b, b = a → (((c.announceRole a body).get b).announced body).laneClaim = ((c.announceRole a body).get b).laneClaim ∧
        (((c.announceRole a body).get b).announced body).offer = ((c.announceRole a body).get b).offer ∧
        ∀ k, (((c.announceRole a body).get b).announced body).owner k = ((c.announceRole a body).get b).owner k := by
      rintro b rfl
      exact ⟨hlane, hoffer, howner⟩
    refine hr.congr (fun b => ?_) (fun b => ?_) (fun b => ?_) (fun b => ?_) (fun b k => ?_) <;> rw [hget] <;> split
    · rfl
    · rfl
    · rfl
    · rfl
    · exact (hself b ‹_›).1
    · rfl
    · exact (hself b ‹_›).2.1
    · rfl
    · exact (hself b ‹_›).2.2 k
    · rfl
  have hf : ((c.announceRole a body).announceFields a body).Lawful := by
    rw [Census.announceFields_eq]
    split
    · rename_i k hk
      exact hp.setOffer hsp a (hb.offer k hk)
    · exact hp
  exact hf.setLevels (f := fun e => { e with claim := body.claim }) (hsr.announceFields a body) (fun _ => rfl) (fun _ => rfl) fun _ y hy => hb.claim y hy

end

/-! ## Lanes (R35) -/

/-- Lanes of one uplink pass to a station with power and without a lane claim. -/
theorem Census.Lawful.regrant {c c' : Census} (h : c.Lawful) {a u : Addr} {lanes : List Nat}
    (hpower : 0 < (c.get a).held) (hoffer : ∀ k ∈ lanes, k < (c.get u).offer)
    (hheld : ∀ b, (c'.get b).held = (c.get b).held) (hclaim : ∀ b, (c'.get b).claim = (c.get b).claim)
    (hoffers : ∀ b, (c'.get b).offer = (c.get b).offer)
    (hlane : ∀ b q, (c'.get b).laneClaim = some q → b ≠ a ∧ (c.get b).laneClaim = some q)
    (hself : ∀ v k, (c'.get v).owner k = some a → v = u ∧ k ∈ lanes)
    (hothers : ∀ v k b, b ≠ a → (c'.get v).owner k = some b → (c.get v).owner k = some b) : c'.Lawful := by
  constructor
  · intro v k b ho
    rw [hheld]
    by_cases hb : b = a
    · rw [hb]; exact hpower
    · exact h.held v k b (hothers v k b hb ho)
  · intro v k b ho
    rw [hoffers]
    by_cases hb : b = a
    · subst hb
      obtain ⟨rfl, hk⟩ := hself v k ho
      exact hoffer k hk
    · exact h.offered v k b (hothers v k b hb ho)
  · intro v w k j b hv hw
    by_cases hb : b = a
    · subst hb
      exact (hself v k hv).1.trans (hself w j hw).1.symm
    · exact h.single v w k j b (hothers v k b hb hv) (hothers w j b hb hw)
  · exact fun v => (hoffers v).symm ▸ h.offer_le v
  · intro b q hq v k ho
    obtain ⟨hb, hq'⟩ := hlane b q hq
    exact h.unclaimed b q hq' v k (hothers v k b hb ho)
  · intro b x hx
    rw [hclaim] at hx
    rw [hheld]
    exact h.claim b x hx

theorem Census.honours_iff (c : Census) (held : Nat) (u : Addr) (lanes : List Nat) :
    c.honours held u lanes = true ↔ 0 < held ∧ (c.get u).uplink.isSome = true ∧ ∀ k ∈ lanes, k < (c.get u).offer := by
  simp [Census.honours, and_assoc]

section
variable {c : Census} (hs : c.Shaped) (a : Addr) (body : AnnounceBody)
include hs

theorem Census.Shaped.announceLaneClaim : (c.announceLaneClaim a body).Shaped := by
  unfold Census.announceLaneClaim
  split
  · split
    · split
      · exact hs
      · exact hs.putLaneClaim a _ _
    · exact hs.dropLaneClaim a
  · exact hs.dropLaneClaim a

end

theorem lanesOfByte_lt {b : Byte} {k : Nat} (h : k ∈ lanesOfByte b) : k < Config.lanes :=
  List.mem_range.mp (List.mem_filter.mp h).1

/-- What the announced holding makes of a blade's lanes: those announced where it is honoured, and none otherwise. -/
theorem Census.announceHold_cases (c : Census) (a : Addr) {body : AnnounceBody} (hb : body.Sound) :
    (∃ u lanes, body.holding = some (u, lanes) ∧ c.honours body.held u lanes = true ∧
      c.announceHold a body = c.honour a u lanes ∧ ∀ k ∈ lanes, k < Config.lanes) ∨
    ((∀ u lanes, body.holding = some (u, lanes) → c.honours body.held u lanes = false) ∧
      c.announceHold a body = c.freeLanes a) := by
  unfold Census.announceHold
  cases hh : body.holding with
  | none => exact .inr ⟨fun u lanes hl => (by cases hl), rfl⟩
  | some p =>
    obtain ⟨u, lanes⟩ := p
    dsimp only
    split
    · rename_i hhon
      obtain ⟨b, rfl⟩ := hb.lanes u lanes hh
      exact .inl ⟨u, _, rfl, hhon, rfl, fun k hk => lanesOfByte_lt hk⟩
    · rename_i hhon
      refine .inr ⟨fun v ks hl => ?_, rfl⟩
      cases hl
      simpa using hhon

section
variable {c : Census} (hs : c.Shaped) (a : Addr) {body : AnnounceBody} (hb : body.Sound)
include hs hb

theorem Census.Shaped.announceLanes : (c.announceLanes a body).Shaped := by
  unfold Census.announceLanes
  split
  · refine Census.Shaped.announceLaneClaim ?_ a body
    rcases c.announceHold_cases a hb with ⟨u, lanes, -, hhon, heq, hlt⟩ | ⟨-, heq⟩ <;> rw [heq]
    · exact (hs.honour ((c.honours_iff _ u lanes).mp hhon).2.1 hlt).1.shaped
    · exact hs.freeLanes a
  all_goals exact hs

theorem Census.Lawful.announceLanes (h : c.Lawful) (hheld : (c.get a).held = body.held) :
    (c.announceLanes a body).Lawful := by
  unfold Census.announceLanes
  split
  case h_1 =>
    rcases c.announceHold_cases a hb with ⟨u, lanes, hhold, hhon, heq, hlt⟩ | ⟨-, heq⟩ <;> rw [heq]
    · obtain ⟨hpower, hup, hoffer⟩ := (c.honours_iff _ u lanes).mp hhon
      obtain ⟨hrelaned, hself, hothers⟩ := hs.honour (a := a) hup hlt
      have hnone : body.laneClaim = none := hb.single (by rw [hhold]; rfl)
      have hdrop : (c.honour a u lanes).announceLaneClaim a body = (c.honour a u lanes).dropLaneClaim a := by
        simp only [Census.announceLaneClaim, hnone]
      have hget := hrelaned.shaped.get_dropLaneClaim a
      rw [hdrop]
      refine h.regrant (a := a) (u := u) (lanes := lanes) (hheld ▸ hpower) hoffer (fun b => ?_) (fun b => ?_) (fun b => ?_)
        (fun b q hq => ?_) (fun v k ho => ?_) (fun v k b hba ho => ?_)
      · refine Eq.trans ?_ (Entry.held_of_bare (hrelaned.entries b).bare)
        rw [hget]; split <;> simp
      · refine Eq.trans ?_ (Entry.claim_of_bare (hrelaned.entries b).bare)
        rw [hget]; split <;> simp
      · refine Eq.trans ?_ (hrelaned.entries b).offer
        rw [hget]; split <;> simp
      · rw [hget] at hq
        split at hq
        · simp at hq
        · exact ⟨‹_›, (hrelaned.entries b).laneClaim ▸ hq⟩
      · refine (hself v k).mp ?_
        rw [hget] at ho
        split at ho <;> simpa using ho
      · refine hothers v k b hba ?_
        rw [hget] at ho
        split at ho <;> simpa using ho
    · have hsf := hs.freeLanes a
      have hf := h.freeLanes hs a
      unfold Census.announceLaneClaim
      split
      · split
        · split
          · exact hf
          · refine hf.putLaneClaim hsf fun v k => ?_
            rw [hs.get_freeLanes]
            exact fun ho => (Entry.owner_of_freeing ho).2 rfl
        · exact hf.dropLaneClaim hsf a
      · exact hf.dropLaneClaim hsf a
  all_goals exact h

end

theorem Census.announceLanes_sameClock (c : Census) (a : Addr) (body : AnnounceBody) :
    c.SameClock (c.announceLanes a body) := by
  unfold Census.announceLanes
  split
  case h_1 =>
    have hhold : c.SameClock (c.announceHold a body) := by
      unfold Census.announceHold
      split
      · split
        · exact c.honour_sameClock a _ _
        · exact c.freeLanes_sameClock a
      · exact c.freeLanes_sameClock a
    refine hhold.trans ?_
    unfold Census.announceLaneClaim
    split
    · split
      · split <;> exact ⟨rfl, rfl, rfl, rfl, rfl⟩
      · exact ⟨rfl, rfl, rfl, rfl, rfl⟩
    · exact ⟨rfl, rfl, rfl, rfl, rfl⟩
  all_goals exact ⟨rfl, rfl, rfl, rfl, rfl⟩

end Sys2Proof.Machine
end

section
/-! PROOFS. The accepted frames, the census timers and the settlement of the own attempt keep every promise. -/

namespace Sys2Proof.Machine

namespace Keeps

variable {s t u : State}

/-- A change of the census of a station that takes part in the bus, or of its empty census where that stays empty. -/
theorem census (s : State) {f : Census → Census} (hshaped : s.cen.Shaped → (f s.cen).Shaped)
    (hlawful : s.cen.Shaped → s.cen.Lawful → (f s.cen).Lawful) (hclock : s.cen.SameClock (f s.cen))
    (hvacant : s.station.apart = true → s.cen.Shaped → s.cen.allVacant → (f s.cen).allVacant) : Keeps s (s.updCen f) :=
  cen s hshaped hlawful hvacant fun h => hclock.anomalies ▸ h

theorem partWrite (s : State) (a : Addr) {f : Entry → Entry} (hf : ∀ e : Entry, e.PartWrite (f e)) :
    Keeps s (s.updEntry a f) := by
  refine census s (f := fun c => c.upd a f) (fun hs => hs.upd fun e => (hf e).tableOk) (fun hs hl => ?_) ⟨rfl, rfl, rfl, rfl, rfl⟩
    fun _ hs hv => hv.upd hs (hf _).vacant
  have hw := hf (s.cen.get a)
  exact hl.updSame hs (Entry.held_of_bare hw.bare) (Entry.claim_of_bare hw.bare) hw.laneClaim hw.offer hw.owner

theorem dropQuery (s : State) (a : Addr) : Keeps s (s.dropQuery a) := by
  unfold State.dropQuery
  split
  · exact refl s
  · rename_i f hf
    exact ofIf (ofIf (dropFollowOn s hf) (refl s)) (ofIf (emptySlot s _) (refl s))

/-! ## The contents of a frame -/

theorem resynchronise (s : State) (a : Addr) : Keeps s (s.resynchronise a) := by
  unfold State.resynchronise
  refine ofIf ?_ (refl _)
  split
  · exact ofIf (announceTimer _ _) (refl _)
  · exact refl _


section
variable (hbus : s.station.apart = false)
include hbus

/-- A change of the census of a station that takes part in the bus. -/
theorem heard {f : Census → Census} (hshaped : s.cen.Shaped → (f s.cen).Shaped)
    (hlawful : s.cen.Shaped → s.cen.Lawful → (f s.cen).Lawful) (hclock : s.cen.SameClock (f s.cen)) :
    Keeps s (s.updCen f) :=
  census s hshaped hlawful hclock fun ha => by rw [hbus] at ha; cases ha

theorem stands (a : Addr) {f : Entry → Entry} (hf : ∀ e : Entry, e.Stands (f e)) : Keeps s (s.updEntry a f) :=
  updEntry s a hf fun ha => by rw [hbus] at ha; cases ha

theorem hear (a : Addr) : Keeps s (s.hear a) := by
  unfold State.hear
  dsimp only
  have hlive : Keeps s (s.updEntry a (fun e => { e with state := .live, staleHold := none, silence := some silenceMs })) :=
    stands hbus a fun _ => ⟨rfl, rfl, rfl⟩
  split
  · exact hlive.trans (raiseIf _ _ _)
  · refine (hlive.trans (sameEntries _ (Census.markIf_entries _ _ _).1 ?_)).trans (raiseIf _ _ _)
    exact (Census.markIf_entries _ _ _).2.anomalies
  · exact hlive

theorem takeAlert (a : Addr) (own : Bool) (code subject : Byte) (value : Half) :
    Keeps s (s.takeAlert a own code subject value) := by
  unfold State.takeAlert
  split
  · exact ofIf (anomaly s) (ofIf (refl s) (partWrite s a fun e => e.updSupply_partWrite _))
  · unfold State.takeAirflowDrop
    split
    · exact ofIf (anomaly s) (ofIf (refl s) (partWrite s a fun e => e.updFan_partWrite _))
    · exact anomaly s
  · refine ofIf (anomaly s) (ofIf (refl s) (heard hbus (fun hs => hs.setOffer a _)
      (fun hs hl => hl.setOffer hs a (Nat.min_le_left _ _)) (s.cen.setOffer_sameClock a _)))
  · exact anomaly s

theorem takePowerClaim (a : Addr) (level : Half) : Keeps s (s.takePowerClaim a level) := by
  refine ofIf (anomaly s) (heard hbus (f := fun c => c.upd a (fun e => e.takeClaim (min Config.levelMax level.toNat)))
    (fun hs => hs.upd fun e => Entry.tableOk_of_part rfl) (fun hs hl => ?_) ⟨rfl, rfl, rfl, rfl, rfl⟩)
  refine hl.updClaim hs (fun _ => rfl) (fun _ => rfl) fun e x hx => ?_
  dsimp only [Entry.takeClaim] at hx
  split at hx
  · cases hx; assumption
  · cases hx

theorem takePowerRelease (a : Addr) (level : Half) : Keeps s (s.takePowerRelease a level) := by
  have hstep : ∀ c : Census, c.Shaped → (c.upd a (fun e => { e with claim := none })).Shaped :=
    fun c hs => hs.upd fun _ => Entry.tableOk_of_part rfl
  refine heard hbus (fun hs => (hstep _ hs).setHeld a _) (fun hs hl => ?_)
    ((Census.upd_sameClock _ a _).trans (Census.setHeld_sameClock _ a _))
  exact (hl.withdraw hs a).setHeld (hstep _ hs) (by rw [hs.get_upd, if_pos rfl])

theorem takeDepart (a : Addr) (own : Bool) (reason : Byte) : Keeps s (s.takeDepart a own reason) := by
  unfold State.takeDepart
  split
  · refine ofIf (anomaly s) ((stands hbus a fun e => ?_).trans (anomaly _))
    unfold Entry.restartSilence
    split <;> exact ⟨rfl, rfl, rfl⟩
  · refine ofIf (heard hbus (fun hs => hs.free a) (fun hs hl => hl.free hs a) (s.cen.free_sameClock a))
      (ofIf (refl s) (Keeps.trans ?_ (raiseIf _ _ _)))
    exact heard hbus (fun hs => hs.vacate a) (fun hs hl => hl.vacate hs a) (s.cen.vacate_sameClock a)

theorem takeLaneClaim (a : Addr) (own : Bool) (uplink count : Byte) : Keeps s (s.takeLaneClaim a own uplink count) := by
  unfold State.takeLaneClaim
  split
  · exact anomaly s
  · rename_i v _
    exact ofIf (anomaly s) (ofIf (heard hbus (fun hs => hs.takeLaneClaim a v _) (fun hs hl => hl.takeLaneClaim hs a v _)
      ((s.cen.freeLanes_sameClock a).trans (Census.putLaneClaim_sameClock _ a v _))) (raiseIf s _ _))

theorem takeLaneRelease (a : Addr) (uplink : Byte) : Keeps s (s.takeLaneRelease a uplink) := by
  unfold State.takeLaneRelease
  split
  · exact anomaly s
  · rename_i v _
    refine heard hbus (fun hs => hs.takeLaneRelease a v) (fun hs hl => hl.takeLaneRelease hs a v) ?_
    have hfree := s.cen.freeOn_sameClock a v
    unfold Census.takeLaneRelease
    dsimp only
    split
    · split
      · exact hfree.trans ⟨rfl, rfl, rfl, rfl, rfl⟩
      · exact hfree
    · exact hfree

theorem takeSegment (a : Addr) (own : Bool) (segment : Byte) (rest : List Byte) :
    Keeps s (s.takeSegment a own segment rest) := by
  unfold State.takeSegment
  split
  · exact ofIf (refl s) (stands hbus a fun _ => ⟨rfl, rfl, rfl⟩)
  · exact ofIf (refl s) (stands hbus a fun _ => ⟨rfl, rfl, rfl⟩)
  · exact anomaly s

theorem takeQuery (target : Byte) : Keeps s (s.takeQuery target) := by
  unfold State.takeQuery
  split
  · exact anomaly s
  · exact ((stands hbus _ (f := fun e => { e with quiet := some queryQuietMs }) fun _ => ⟨rfl, rfl, rfl⟩).trans
      (dropQuery _ _)).trans (requestIf _ _ _)

theorem policyCompare (pre : Entry) (a : Addr) (body : AnnounceBody) : Keeps s (s.policyCompare pre a body) := by
  unfold State.policyCompare
  dsimp only
  generalize ((s.entry a).mismatch && pre.policy == some body.policy) = reported
  exact (stands hbus a (f := fun e => { e with mismatch := reported || _ }) fun _ => ⟨rfl, rfl, rfl⟩).trans (raiseIf _ _ _)

theorem applyAnnounce (pre : Census) (a : Addr) {body : AnnounceBody} (hb : body.Sound) :
    Keeps s (s.applyAnnounce pre a body) := by
  obtain ⟨t, ⟨es, rfl⟩, heq⟩ := s.applyAnnounce_eq pre a body
  have hexcess : Keeps s (if body.supplyExcess then s.anomaly else s) := ofIf (anomaly s) (refl s)
  have hbus' : (if body.supplyExcess then s.anomaly else s).station.apart = false := by split <;> exact hbus
  rw [heq]
  generalize (if body.supplyExcess then s.anomaly else s) = v at hexcess hbus' ⊢
  have hcen : Keeps v ((v.updCen (fun c => c.announceEntry a body)).updCen (fun c => c.announceLanes a body)) := by
    refine heard (f := fun c => (c.announceEntry a body).announceLanes a body) hbus'
      (fun hs => (hs.announceEntry a).announceLanes a hb) (fun hs hl => ?_)
      ((v.cen.announceEntry_sameClock a body).trans (Census.announceLanes_sameClock _ a body))
    exact (hl.announceEntry hs a hb).announceLanes (hs.announceEntry a) a hb (hs.announceEntry_held a)
  have htold := (hexcess.trans hcen).trans (raiseAll _ es)
  have hbus'' : (((v.updCen (fun c => c.announceEntry a body)).updCen
      (fun c => c.announceLanes a body)).raiseAll es).station.apart = false := hbus'
  generalize ((v.updCen (fun c => c.announceEntry a body)).updCen (fun c => c.announceLanes a body)).raiseAll es = w
    at htold hbus'' ⊢
  exact ((htold.trans (policyCompare hbus'' _ a body)).trans (resynchronise _ a)).trans (requestIf _ _ _)

theorem takeAnnounce (pre : Census) (a : Addr) (own : Bool) (bs : List Byte) :
    Keeps s (s.takeAnnounce pre a own bs) := by
  unfold State.takeAnnounce
  refine ofIf (sameEntries s rfl rfl) ?_
  split
  · exact ((anomaly s).trans (resynchronise _ a)).trans (requestIf _ _ _)
  · exact applyAnnounce hbus pre a (decodeAnnounce_sound ‹_›)

theorem takeContents (pre : Census) (a : Addr) (own : Bool) (p : Payload) : Keeps s (s.takeContents pre a own p) := by
  cases p with
  | alert code subject value => exact takeAlert hbus a own code subject value
  | powerClaim level => exact takePowerClaim hbus a level
  | powerRelease level => exact takePowerRelease hbus a level
  | depart reason => exact takeDepart hbus a own reason
  | laneClaim uplink count => exact takeLaneClaim hbus a own uplink count
  | laneRelease uplink => exact takeLaneRelease hbus a uplink
  | heat zone demand =>
    unfold State.takeContents State.takeHeat
    dsimp only
    split
    · exact anomaly s
    · split
      · exact refl s
      · exact ofIf (refl s) (partWrite s a fun e => e.updBlade_partWrite fun _ => rfl)
      all_goals exact anomaly s
  | announce bytes => exact takeAnnounce hbus pre a own bytes
  | inventory segment rest => exact (takeSegment hbus a own segment rest).trans (dropQuery _ a)
  | query target => exact takeQuery hbus target

theorem hearFrame (a : Addr) (own : Bool) (p : Payload) : Keeps s (s.hearFrame a own p) := by
  unfold State.hearFrame
  refine ofIf (takeContents hbus _ a true p) (ofIf (anomaly s) ?_)
  dsimp only
  split
  · exact takeContents hbus _ a false p
  · refine (hear hbus a).trans (takeContents ?_ _ a false p)
    rw [State.station, State.life_of_fixed (s.hear_fixed a)]
    exact hbus

theorem applyFrame (a : Addr) (own : Bool) (p : Payload) : Keeps s (s.applyFrame a own p) :=
  (hearFrame hbus a own p).trans (Answer.followUp (o := true) (w := true) _ _ _).keeps

end

/-! ## The timers of the census -/

theorem followUp (s : State) (pre : Census) (k : Follow) : Keeps s (s.followUp pre k) :=
  (Answer.followUp (o := true) (w := true) s pre k).keeps

/-- A station in START or SETUP has no entry that could fall silent. -/
theorem silenceExpires {a : Addr} (hlive : (s.entry a).isLive = true) : Keeps s (s.silenceExpires a) := by
  refine Keeps.trans (Keeps.trans ?_ (raiseIf _ _ _)) (followUp _ _ _)
  have hstands : ∀ e : Entry, e.Stands e.fallSilent := fun _ => ⟨rfl, rfl, rfl⟩
  refine census s (f := fun c => c.upd a Entry.fallSilent) (fun hs => hs.upd fun e => Entry.tableOk_of_part rfl)
    (fun hs hl => hl.updStands hs hstands) ⟨rfl, rfl, rfl, rfl, rfl⟩ fun _ _ hv => ?_
  rw [State.entry, hv a] at hlive
  cases hlive

theorem staleHoldExpires {a : Addr} (hstale : (s.entry a).isStale = true) : Keeps s (s.staleHoldExpires a) := by
  refine Keeps.trans (Keeps.trans ?_ (raiseIf _ _ _)) (followUp _ _ _)
  refine census s (fun hs => hs.vacate a) (fun hs hl => hl.vacate hs a) (s.cen.vacate_sameClock a) fun _ _ hv => ?_
  rw [State.entry, hv a] at hstale
  cases hstale

theorem quietExpires (s : State) (a : Addr) : Keeps s (s.quietExpires a) :=
  (updEntry s a (f := fun e => { e with quiet := none }) (fun _ => ⟨rfl, rfl, rfl⟩) fun _ => rfl).trans (followUp _ _ _)

theorem announceExpires (s : State) : Keeps s s.announceExpires :=
  ((announceTimer s _).trans (request _ _)).trans (followUp _ _ _)

/-! ## The bus (R6 to R21) -/

theorem head_get {q : TxQueue} {i : SlotId} {f : QueuedFrame} (h : q.head = some (i, f)) : q.get i = some f := by
  have hfold : ∀ (slots : List SlotId) (best : Option (SlotId × QueuedFrame)),
      (∀ p, best = some p → q.get p.1 = some p.2) → ∀ p, slots.foldl (fun best i =>
        match q.get i with
        | none => best
        | some f => if ranksAhead i f best then some (i, f) else best) best = some p → q.get p.1 = some p.2 := by
    intro slots
    induction slots with
    | nil => exact fun best hbest p hp => hbest p hp
    | cons j slots ih =>
      intro best hbest p hp
      refine ih _ (fun r hr => ?_) p hp
      dsimp only at hr
      split at hr
      · exact hbest r hr
      · split at hr
        · cases hr; assumption
        · exact hbest r hr
  exact hfold allSlots none (fun p hp => by cases hp) (i, f) h

theorem offered_slot {i : SlotId} {f : QueuedFrame} (h : s.offered = some (i, f)) : s.slot i = some f := by
  unfold State.offered at h
  split at h
  · exact head_get (Option.filter_eq_some_iff.mp h).1
  · cases h

theorem startFrame (s : State) (line : List Bool) : Keeps s (s.startFrame line) := by
  unfold State.startFrame
  split
  · exact refl s
  · rename_i i f hoffered
    have hslot : s.slotted → ∀ r, f.followOn = some r → (f.promote r).fits i = true := fun hs r hr =>
      QueuedFrame.promote_fits ((QueuedFrame.fits_iff f i).mpr (hs i f (offered_slot hoffered))) hr
    dsimp only
    split
    · unfold State.loseArbitration
      split
      · exact refl s
      · rename_i r hr
        exact setSlot s fun hs g hg => by cases hg; exact hslot hs r hr
    · exact pbc s id fun h => State.slotted_congr rfl h
    · exact pbc s id fun h => State.slotted_congr rfl h

theorem countFrame (s : State) (checkFailed vetoed : Bool) : Keeps s (s.countFrame checkFailed vetoed) := by
  refine ofIf (pbc s (fun h => ⟨h.1, ?_, ?_⟩) fun h => State.slotted_congr rfl h) (refl s)
  · dsimp only; split
    · exact satInc_le h.2.1
    · exact h.2.1
  · dsimp only; split
    · exact satInc_le h.2.2
    · exact h.2.2

theorem settleAccepted (s : State) (i : SlotId) : Keeps s (s.settleAccepted i) := by
  unfold State.settleAccepted
  dsimp only
  have hscore : Keeps s (s.updPbc (fun p => { p with faultScore := p.faultScore - 1 })) :=
    pbc s (fun h => ⟨Nat.le_trans (Nat.sub_le _ _) h.1, h.2⟩) fun h => State.slotted_congr rfl h
  split
  · exact hscore
  · rename_i f hf
    refine hscore.trans (setSlot _ fun hs g hg => ?_)
    obtain ⟨r, hr, rfl⟩ := Option.map_eq_some_iff.mp hg
    obtain ⟨hcontents, hfollow⟩ := hs i f hf
    refine (QueuedFrame.fits_iff _ _).mpr ⟨?_, fun r hr => by cases hr⟩
    unfold QueuedFrame.next at hr
    split at hr
    · rename_i hinv
      cases hr
      rw [← hcontents, beq_iff_eq.mp hinv]; rfl
    · exact hfollow r hr

theorem removeDepart (s : State) (failed : Bool) : Keeps s (s.removeDepart failed) :=
  ofIf (((emptySlot s .depart).trans (pbc _ (b := { (s.setSlot .depart none).pbc with dropDepart := false }) id fun h => State.slotted_congr rfl h)).trans (raiseIf _ _ _)) (refl s)

theorem afterDrop (s : State) (i : SlotId) : Keeps s (s.afterDrop i) := by
  unfold State.afterDrop
  split
  · rename_i h
    have hbus : s.station.apart = false := by
      have : s.station = .leaving := by simp only [Bool.and_eq_true, beq_iff_eq] at h; exact h.2
      rw [this]; rfl
    exact (heard hbus (f := fun c => c.free s.addr) (fun hs => hs.free s.addr) (fun hs hl => hl.free hs s.addr) (s.cen.free_sameClock s.addr)).trans
      (followUp _ _ _)
  · exact refl s

theorem failSlot (s : State) (i : SlotId) : Keeps s (s.failSlot i) := by
  unfold State.failSlot
  split
  · exact refl s
  · rename_i f hf
    have hset : Keeps s (s.setSlot i f.failed.1) := by
      refine setSlot s fun hs g hg => ?_
      obtain ⟨hcontents, hfollow⟩ := hs i f hf
      unfold QueuedFrame.failed at hg
      split at hg
      · rename_i r hr
        cases hg
        exact QueuedFrame.promote_fits ((QueuedFrame.fits_iff f i).mpr ⟨hcontents, hfollow⟩) hr
      · split at hg <;> cases hg
        exact (QueuedFrame.fits_iff _ _).mpr ⟨hcontents, hfollow⟩
    dsimp only
    split
    · exact (hset.trans (raise _ _)).trans (afterDrop _ _)
    · exact hset

theorem settleFailed (s : State) (i : SlotId) : Keeps s (s.settleFailed i) := by
  have hscore : Keeps s (s.updPbc (fun p => { p with faultScore := min Config.faultMax (p.faultScore + 4) })) :=
    pbc s (fun h => ⟨Nat.min_le_left _ _, h.2⟩) fun h => State.slotted_congr rfl h
  exact ofIf (hscore.trans (enterMute _ _)) ((hscore.trans (removeDepart _ _)).trans (failSlot _ _))

theorem recordSent (s : State) (p : Payload) : Keeps s (s.recordSent p) := by
  unfold State.recordSent
  split
  · exact client s _
  · exact refl s

end Keeps

end Sys2Proof.Machine
end

section
/-! PROOFS. Every command but a reset keeps every promise; from this the invariants (shape, limits, lawful lane tables) and the
frame of every command. -/

namespace Sys2Proof.Machine

namespace Keeps

variable {s t u : State}

/-! ## The end of a frame (R9 to R21) -/

theorem settleAccepted_life (s : State) (i : SlotId) : (s.settleAccepted i).life = s.life := by
  unfold State.settleAccepted; dsimp only; split <;> rfl

theorem removeDepart_life (s : State) (failed : Bool) : (s.removeDepart failed).life = s.life := by
  unfold State.removeDepart; split <;> simp

theorem recordSent_life (s : State) (p : Payload) : (s.recordSent p).life = s.life := by
  unfold State.recordSent; split <;> rfl

theorem countFrame_life (s : State) (b c : Bool) : (s.countFrame b c).life = s.life := by
  unfold State.countFrame; split <;> rfl

theorem ownFailed (s : State) (o : OnLine) : Keeps s (s.ownFailed o) :=
  ofIf (settleFailed s _) ((settleFailed s _).trans (react _ _ _ _))

section
variable (hbus : s.station.apart = false)
include hbus

theorem ownAccepted (o : OnLine) : Keeps s (s.ownAccepted o) := by
  unfold State.ownAccepted
  dsimp only
  have hsettled : Keeps s (((s.settleAccepted o.slot).removeDepart false).recordSent o.payload) :=
    ((settleAccepted s _).trans (removeDepart _ _)).trans (recordSent _ _)
  refine (hsettled.trans (applyFrame ?_ _ _ _)).trans (react _ _ _ _)
  rw [State.station, recordSent_life, removeDepart_life, settleAccepted_life]
  exact hbus

theorem endOwn (o : OnLine) (vetoed : Bool) : Keeps s (s.endOwn o vetoed) := by
  unfold State.endOwn
  dsimp only
  have hcount : ∀ b c, Keeps s ((s.updPbc (fun p => { p with onLine := none })).countFrame b c) := fun b c =>
    (pbc s (b := { s.pbc with onLine := none }) id fun h => State.slotted_congr rfl h).trans (countFrame _ b c)
  split
  · exact (hcount false (vetoed || o.bitError)).trans (ownFailed _ o)
  · refine (hcount false (vetoed || o.bitError)).trans (ownAccepted ?_ o)
    rw [State.station, countFrame_life]
    exact hbus

theorem hearOther (a : Addr) (p : Option Payload) : Keeps s (s.hearOther a p) := by
  unfold State.hearOther
  split
  · exact (applyFrame hbus a false _).trans (react _ _ _ _)
  · exact refl s

theorem endOther (f : FrameRead) (p : Option Payload) (vetoed : Bool) : Keeps s (s.endOther f p vetoed) := by
  have hcounted : ∀ b c, (s.countFrame b c).station.apart = false := fun b c => by
    rw [State.station, countFrame_life]; exact hbus
  have hlistening : Keeps s (s.endListening f p vetoed) :=
    ofIf ((countFrame s _ _).trans (enterMute _ _)) (ofIf (countFrame s _ _)
      ((countFrame s _ _).trans (hearOther (hcounted _ _) _ p)))
  have hmuted : Keeps s (s.endMuted f p vetoed) :=
    ofIf (countFrame s _ _) ((countFrame s _ _).trans (hearOther (hcounted _ _) _ p))
  unfold State.endOther
  split
  · exact hlistening
  · exact hlistening
  · exact hlistening
  · exact hmuted
  all_goals exact refl s

end

theorem followsLine_apart {x : StationState} (h : x.followsLine = true) : x.apart = false := by
  cases x <;> first | rfl | cases h

theorem endFrame (s : State) (f : FrameRead) (p : Option Payload) (vetoed : Bool) : Keeps s (s.endFrame f p vetoed) := by
  unfold State.endFrame
  split
  · rename_i h
    simp only [Bool.and_eq_true] at h
    have hbus := followsLine_apart h.2
    split
    · exact endOwn hbus _ vetoed
    · exact endOther hbus f p vetoed
  · exact refl s

theorem accept (s : State) (a : Addr) (p : Payload) (check : Half) : Keeps s (s.accept a p check) :=
  (newEvent s).trans (endFrame _ _ _ _)

/-! ## Fans -/

theorem role_fan (h : s.isFan = true) : s.role = .fan := by simpa [State.isFan] using h
theorem role_blade (h : s.isBlade = true) : s.role = .blade := by simpa [State.isBlade] using h
theorem role_supply (h : s.isSupply = true) : s.role = .supply := by simpa [State.isSupply] using h

theorem gate_tach (c : FanChannel) (pulses maxRpm : Nat) : (c.gate pulses maxRpm).tach = 0 := by
  have hspin : (c.speed pulses).countSpinup.tach = 0 := by
    unfold FanChannel.countSpinup
    split
    · split <;> rfl
    · rfl
  unfold FanChannel.gate FanChannel.judge
  split
  · split
    · split <;> exact hspin
    · exact hspin
  · exact hspin

theorem gateEnds (hr : s.role = .fan) : Keeps s s.gateEnds := by
  unfold State.gateEnds
  dsimp only
  have hgate : Keeps s (s.updFdu (fun f => f.mapChannels (fun k c =>
      if s.configuredFan k then c.gate s.cfg.pulses s.cfg.maxRpm else c))) := by
    refine fdu s (Fdu.keeps_mapChannels _ fun k c => ?_) (.inl hr)
    split
    · rw [gate_tach]; exact Nat.zero_le _
    · exact Nat.le_refl _
  generalize s.updFdu _ = t at hgate ⊢
  have hevents := hgate.trans (raiseAll t (failedNow s.cfg.fanCount s.fdu t.fdu))
  have hupdate : Keeps s (if (t.raiseAll (failedNow s.cfg.fanCount s.fdu t.fdu)).fdu.mode == .drive then
      (t.raiseAll (failedNow s.cfg.fanCount s.fdu t.fdu)).fanUpdate false
      else t.raiseAll (failedNow s.cfg.fanCount s.fdu t.fdu)) :=
    ofIf (hevents.trans (Answer.fanUpdate (o := true) (w := true) (hevents.role.trans hr) false).keeps) hevents
  have hair := hupdate.andThen (f := State.evalOwnAirflow) hr fun h => (Answer.evalOwnAirflow (o := true) (w := true) h).keeps
  refine hair.andThen (f := fun u => u.updFdu (fun f => { f.mapChannels (fun _ c => c.openGate) with gate := some gateMs }))
    hr fun h => fdu _ ?_ (.inl h)
  exact (Fdu.keeps_mapChannels _ (g := fun _ c => c.openGate) fun _ c => Nat.le_refl _).trans (.of_channels rfl id)

theorem presence (hr : s.role = .fan) (k : Nat) (present edge : Bool) : Keeps s (s.presence k present edge) := by
  have hinsert : Keeps s (s.insertFan k) := by
    unfold State.insertFan
    split <;> exact fdu s (Fdu.keeps_updChannel _ k fun _ h => h) (.inl hr)
  have hremove : Keeps s (s.updFdu (fun f => f.updChannel k FanChannel.remove)) :=
    fdu s (Fdu.keeps_updChannel _ k fun _ h => h) (.inl hr)
  have hair : ∀ {t : State}, Keeps s t → Keeps s t.evalOwnAirflow := fun h =>
    h.andThen (f := State.evalOwnAirflow) hr fun h => (Answer.evalOwnAirflow (o := true) (w := true) h).keeps
  exact ofIf (hair (hinsert.trans (raiseIf _ _ _))) (ofIf (hair (hremove.trans (raiseIf _ _ _))) (refl s))

theorem debounce (s : State) (pin n : Nat) (level : Bool) : Keeps s (s.debounce pin n level) :=
  lnu s fun h => (s.debounce_length pin n level).trans h

theorem wrap_keeps (f : Fdu) : f.Keeps f.wrap := f.keeps_mapChannels fun k c => by split <;> exact Nat.le_refl _

theorem tachEdge (s : State) (k : Nat) : Keeps s (s.tachEdge k) := by
  unfold State.tachEdge
  split
  · rename_i h
    exact fdu s (Fdu.keeps_updChannel _ k fun _ hc => satInc_le hc) (.inr fun hr => by rw [hr] at h; simp [Fdu.reset] at h)
  · exact refl s

theorem pwmWraps (s : State) : Keeps s s.pwmWraps := by
  unfold State.pwmWraps
  split
  · rename_i h
    exact fdu s ((wrap_keeps _).trans (.of_channels rfl id)) (.inr fun hr => by rw [hr] at h; simp [Fdu.reset] at h)
  · exact refl s

theorem installFans (s : State) : Keeps s s.installFans := by
  unfold State.installFans
  split
  · rename_i hb
    have hr := role_fan hb
    have hpwm : Answer true true s (if s.fdu.mode == .retained then s else s.pwmFromConfig) :=
      .ofIf (.refl s) (Answer.updFdu hr fun f => .of_channels rfl id)
    have hpassage := Answer.thenFdu hr hpwm (g := fun f =>
        { f.mapChannels (fun k c => c.atPassage (s.configuredFan k) (s.fanPresent k)) with gate := some gateMs })
      fun f => (f.keeps_mapChannels (g := fun k c => c.atPassage (s.configuredFan k) (s.fanPresent k))
        fun _ c => Nat.le_refl _).trans (.of_channels rfl id)
    exact (hpassage.andThen (f := State.evalOwnAirflow) hr Answer.evalOwnAirflow).keeps
  · exact refl s

/-! ## Measurement and supply -/

theorem startSweep (s : State) : Keeps s s.startSweep := by
  unfold State.startSweep
  split <;> exact msu s id

theorem endSweep (s : State) : Keeps s s.endSweep :=
  ofIf ((msu s (m := { s.msu with request := false }) id).trans (startSweep _)) (msu s id)

theorem requestSweep (s : State) : Keeps s s.requestSweep := by
  unfold State.requestSweep
  split
  · exact msu s id
  · exact startSweep s

theorem completeChannel (s : State) (ch raw : Nat) : Keeps s (s.completeChannel ch raw) :=
  (msu s fun h => (List.length_set ..).trans h).trans (raiseAll _ _)

theorem setSupply (s : State) (x : SupplyState) (hr : s.role = .supply ∨ s.spm ≠ Spm.reset) : Keeps s (s.setSupply x) :=
  ((writeSupply s x _ hr).trans (raiseIf _ _ _)).trans (requestIf _ _ _)

section
variable (hr : s.role = .supply)
include hr

theorem failSupply (cause : SupplyCause) : Keeps s (s.failSupply cause) :=
  ((updSpm s (.inl hr)).trans (raise _ _)).trans (setSupply _ _ (.inl hr))

theorem restartRecovery (cause : SupplyCause) : Keeps s (s.restartRecovery cause) :=
  (updSpm s (.inl hr)).trans (raise _ _)

theorem qualifySupply : Keeps s s.qualifySupply := by
  unfold State.qualifySupply
  split
  · exact failSupply hr _
  · exact ofIf (ofIf ((updSpm s (.inl hr)).trans (setSupply _ _ (.inl hr))) (updSpm s (.inl hr))) (updSpm s (.inl hr))

theorem watchSupply : Keeps s s.watchSupply := by
  unfold State.watchSupply
  split
  · exact failSupply hr _
  · split
    · exact setSupply s _ (.inl hr)
    · exact setSupply s _ (.inl hr)
    · exact refl s

theorem evalSupply : Keeps s s.evalSupply := by
  unfold State.evalSupply
  split
  · exact qualifySupply hr
  · exact watchSupply hr
  · exact watchSupply hr
  · exact ofIf (restartRecovery hr _) (ofIf (restartRecovery hr _) (refl s))
  · exact ofIf (updSpm s (.inl hr)) (refl s)
  · exact refl s

theorem acWarning : Keeps s s.acWarning := by
  unfold State.acWarning
  split
  · exact restartRecovery hr _
  · exact failSupply hr _
  · exact updSpm s (.inl hr)
  · exact refl s

end

theorem sweepNotice (s : State) : Keeps s s.sweepNotice := by
  unfold State.sweepNotice
  split
  · rename_i h
    have hr := role_supply h
    have hmeasure : Keeps s s.measureOutput :=
      (updSpm s (g := fun m => { m with output := s.measuredNow }) (.inl hr)).trans (partWrite _ _ fun e => e.updSupply_partWrite _)
    exact hmeasure.andThen (f := State.evalSupply) hr evalSupply
  · exact refl s

theorem recovered (h : s.spm ≠ Spm.reset) : Keeps s s.recovered :=
  (updSpm s (.inr h)).trans (setSupply _ _ (.inr fun hr => by cases congrArg Spm.outEn hr))

theorem completion (s : State) (raw : Nat) : Keeps s (s.completion raw) := by
  unfold State.completion
  split
  · exact refl s
  · rename_i ch _
    have hrecord := (newEvent s).trans (completeChannel _ ch raw)
    generalize s.newEvent.completeChannel ch raw = t at hrecord ⊢
    have hcritical : Keeps t (t.followCritical s.criticalDemand) := by
      unfold State.followCritical
      exact ofIf (client t _) (ofIf (client t _) (refl t))
    have hblade : Keeps s (t.bladeReads s) := ofIf ((hrecord.trans hcritical).trans (react _ _ _ _)) hrecord
    refine hblade.trans ?_
    unfold State.goOn
    split
    · exact msu _ id
    · exact (sweepNotice _).trans (endSweep _)

/-! ## The lane map -/

theorem shiftEnd (h : s.lmp.inFlight.isSome = true) (readback : LaneMap) :
    Keeps s ((s.newEvent.settleShift readback).shiftWaiting.advanceLeaving) := by
  have hne : ∀ l : Lmp, l.committed ≠ none → l ≠ Lmp.reset := fun l hl hr => hl (by rw [hr]; rfl)
  have hcommit : Keeps s (s.newEvent.updLmp Lmp.commit) :=
    (newEvent s).trans (lmp _ (.inr (.inr fun hr => by
      have hr' : s.lmp = Lmp.reset := hr
      rw [hr'] at h; cases h)))
  have hsome : (s.newEvent.updLmp Lmp.commit).lmp.committed ≠ none := by
    obtain ⟨m, hm⟩ := Option.isSome_iff_exists.mp h
    intro hc
    have hc' : s.lmp.inFlight = none := hc
    rw [hm] at hc'; cases hc'
  have hsettle : Keeps s (s.newEvent.settleShift readback) := by
    refine ofIf (hcommit.trans (Keeps.trans ?_ (Answer.evalUplink (w := true) _ _).keeps)) hcommit
    refine ((lmp _ (.inr (.inr fun hr => absurd hr (hne _ hsome)))).trans (raise _ _)).trans (partWrite _ _ fun e => ?_)
    exact e.updUplink_partWrite (fun _ => rfl) fun _ => rfl
  refine (hsettle.trans (ofIf (updLmp _ (g := Lmp.takeWaiting) rfl) (refl _))).trans (advanceLeaving _)

/-! ## Rails -/

theorem rails_ne_reset {r : Rsq} (h : r.state ≠ .off) : r ≠ Rsq.reset := fun hr => h (by rw [hr]; rfl)

theorem passOn (k : Nat) (howns : s.ownsRails) : Keeps s (s.passOn k) := by
  have hrsq : ∀ r, Keeps s { s with rsq := r } := fun r => rsq s (howns.imp id fun hne h => absurd h hne)
  unfold State.passOn
  split
  · exact hrsq _
  · exact (hrsq _).trans (raise _ _)

theorem endOneShot (s : State) : Keeps s s.endOneShot := by
  unfold State.endOneShot
  split
  · rename_i hk
    have howns : s.ownsRails := .inr (rails_ne_reset (by rw [hk]; simp))
    exact ofIf (passOn _ howns) (rsq s (howns.imp id fun hne h => absurd h hne))
  · exact refl s

theorem endPgTimeout (s : State) : Keeps s s.endPgTimeout := by
  unfold State.endPgTimeout
  split
  · rename_i k hk
    have howns : (s.newEvent.raise (.sequenceFault k)).ownsRails :=
      .inr (rails_ne_reset (r := s.rsq) (by rw [hk]; simp))
    exact (((newEvent s).trans (raise _ _)).trans (enterFault howns)).trans (react _ _ _ _)
  · exact refl s

theorem endStepOff (s : State) : Keeps s s.endStepOff := by
  unfold State.endStepOff
  split
  · rename_i k hk
    have howns : s.newEvent.ownsRails := .inr (rails_ne_reset (r := s.rsq) (by rw [hk]; simp))
    exact ((newEvent s).trans (ofIf (Answer.railsOff (o := true) howns).keeps
      (Answer.enterStopping (o := true) howns _).keeps)).trans (react _ _ _ _)
  · exact refl s

/-- A stop leaves a sequencer in its reset state as it is. -/
theorem stopRails (s : State) (r : StopReason) : Keeps s (s.stopRails r) := by
  by_cases hoff : s.rsq.state = .off
  · have heq : s.stopRails r = s := by unfold State.stopRails; rw [hoff]
    rw [heq]; exact refl s
  · exact (Answer.stopRails (o := true) (.inr (rails_ne_reset hoff)) r).keeps

theorem armClear (s : State) : Keeps s s.armClear := by
  unfold State.armClear
  split
  · exact refl s
  · rename_i h
    exact rsq s (.inr fun hr => by rw [hr] at h; exact absurd rfl h)

theorem cancelStop (s : State) : Keeps s s.cancelStop := by
  unfold State.cancelStop
  split
  · rename_i h
    have hst : s.rsq.state = .stopWait := by simp only [Bool.and_eq_true, beq_iff_eq] at h; exact h.1
    exact ((rsq s (.inr fun hr => absurd hr (rails_ne_reset (by rw [hst]; simp)))).trans (raise _ _)).trans (raise _ _)
  · exact refl s

theorem enterStopping (k : Nat) (h : s.rsq.state = .stopWait) : Keeps s (s.enterStopping k) :=
  (Answer.enterStopping (o := true) (.inr (rails_ne_reset (by rw [h]; simp))) k).keeps

theorem overtempStops (s : State) : Keeps s s.overtempStops :=
  ofIf (stopRails s _) ((stopRails s _).trans (armClear _))

/-! ## SEATED and EJECTOR -/

theorem seatedTaken (s : State) (was : Debounced) : Keeps s (s.seatedTaken was) :=
  ofIf (seatingLoss s) (ofIf (refl s) ((Answer.settleDrive (o := true) (w := true) s).keeps.trans (testJoin _)))

theorem stopRetained (s : State) : Keeps s s.stopRetained := ofIf ((stopRails s _).trans (armClear _)) (refl s)

theorem ejectorOpens (s : State) : Keeps s s.ejectorOpens := by
  unfold State.ejectorOpens
  dsimp only
  have hfree : Keeps s (s.updLife (fun l => { l with stayParked := false })) := updLife s rfl id .inl
  split
  · exact hfree.trans (stopRetained _)
  · exact (hfree.trans (park _)).trans (stopRetained _)
  · exact ofIf hfree (hfree.trans (enterLeaving _ _))
  all_goals exact hfree

theorem ejectorCloses (s : State) : Keeps s s.ejectorCloses := by
  unfold State.ejectorCloses
  split
  · exact (cancelStop s).trans (testJoin _)
  · split
    · rename_i h
      have hr : s.role = .blade := by simp only [State.mayCancel, State.isBlade, Bool.and_eq_true, beq_iff_eq] at h; exact h.1.1.2
      exact cancelLeaving hr
    · exact refl s
  all_goals exact refl s

theorem ejectorTaken (s : State) (was : Debounced) : Keeps s (s.ejectorTaken was) := by
  unfold State.ejectorTaken
  split
  · exact testJoin s
  · exact ejectorOpens s
  · exact ejectorCloses s
  · exact refl s

theorem consumeEjector (s : State) : Keeps s s.consumeEjector := by
  have hlatch : Keeps s { s with lnu := { s.lnu with ejectorLatch := false } } := lnu s id
  exact ofIf (hlatch.trans (updLife _ rfl id .inl)) hlatch

theorem endBump (s : State) : Keeps s s.endBump := by
  have hlife : Keeps s (s.updLife (fun l => { l with bumpTimer := none })) := updLife s rfl id .inl
  exact ofIf (hlife.trans (enterLeaving _ _)) (hlife.trans (raise _ _))

/-! ## The port -/

theorem command (s : State) (taken : Bool) {run : State → State} (data : State → List Byte)
    (hrun : s.station ≠ .start → taken = true → Keeps s (run s)) : Keeps s (s.command taken run data) := by
  unfold State.command
  split
  · exact refl s
  · rename_i hstart
    refine ofIf (respond s _ _) ?_
    split
    · exact (hrun (by simpa using hstart) ‹_›).trans (respond _ _ _)
    · exact respond s _ _

theorem nextEvent (s : State) : Keeps s s.nextEvent := by
  refine lpt s fun h => ?_
  obtain ⟨hlen, hover⟩ := h
  unfold Lpt.next
  split
  · exact ⟨hlen, hover⟩
  · rename_i e rest hevents
    rw [hevents, List.length_cons] at hlen
    split
    · exact ⟨by dsimp only; omega, hover⟩
    · exact ⟨by simp only [List.length_append, List.length_cons, List.length_nil]; omega, Nat.zero_le _⟩

theorem takeSetPower (hr : s.role = .blade) (target : HostTarget) : Keeps s (s.takeSetPower target) := by
  unfold State.takeSetPower
  have hclient : Keeps s { s.newEvent with client := { s.newEvent.client with hostTarget := target } } :=
    (newEvent s).trans (client _ _)
  have hstop : Keeps s (State.stopRailsNow { s.newEvent with client := { s.newEvent.client with hostTarget := target } }) :=
    hclient.trans (Answer.stopRailsNow (o := true)
      (s := { s.newEvent with client := { s.newEvent.client with hostTarget := target } }) (.inl hr)).keeps
  exact (ofIf hstop hclient).trans (react _ _ _ _)

theorem takeSetLanes (s : State) (n : Nat) : Keeps s (s.takeSetLanes n) :=
  (client s _).trans (Answer.evalLaneClient (o := true) (w := true) _).keeps

end Keeps

end Sys2Proof.Machine
end

section
/-! PROOFS. The passage into PARKED, the resets and the millisecond: what every step keeps. -/

namespace Sys2Proof.Machine

/-! ## The passage into PARKED (R24, R54)

It fills the self entry of an empty census, and the census of a station that takes part in the bus needs not be empty. -/

/-- A transition under the same straps that keeps every promise, where START and SETUP have an empty census. -/
structure Leads (s t : State) : Prop where
  straps : t.life.straps = s.life.straps
  promises : ∀ p : Promise, (p = .tables → Promise.vacant.holds s) → p.holds s → p.holds t

theorem Keeps.leads {s t : State} (h : Keeps s t) : Leads s t := ⟨h.straps, fun p _ => h.promises p⟩

namespace Leads

variable {s t u : State}

theorem after (h : Keeps s t) (h' : Leads t u) : Leads s u :=
  ⟨h'.straps.trans h.straps, fun p hv => h'.promises p (fun hp => h.promises .vacant (hv hp)) ∘ h.promises p⟩

theorem ofIf {p : Prop} [Decidable p] (ht : Leads s t) (hu : Leads s u) : Leads s (if p then t else u) := by
  split <;> assumption

theorem shaped (h : Leads s t) (hs : s.shaped) : t.shaped := by
  obtain ⟨hcen, hin, hrec, hfan⟩ := (State.shaped_iff s).mp hs
  exact (State.shaped_iff t).mpr ⟨h.promises .entries nofun hcen, h.promises .inputs nofun hin,
    h.promises .records nofun hrec, h.promises .trays nofun hfan⟩

theorem bounded (h : Leads s t) (hb : s.bounded) : t.bounded := by
  obtain ⟨hev, hrecv, hanom, hdrive, hslots⟩ := (State.bounded_iff s).mp hb
  exact (State.bounded_iff t).mpr ⟨h.promises .events nofun hev, h.promises .receive nofun hrecv,
    h.promises .anomalies nofun hanom, h.promises .drive nofun hdrive, h.promises .slots nofun hslots⟩

theorem lanesLawful (h : Leads s t) (hs : s.shaped) (hl : s.lanesLawful) : t.lanesLawful := by
  obtain ⟨htables, hvacant⟩ := (State.lanesLawful_iff hs.cen).mp hl
  exact (State.lanesLawful_iff (h.shaped hs).cen).mpr
    ⟨h.promises .tables (fun _ => hvacant) htables, h.promises .vacant nofun hvacant⟩

end Leads

theorem State.initialSelf_laneClaim (s : State) : s.initialSelf.laneClaim = none := by
  unfold State.initialSelf Entry.laneClaim Entry.blade State.initialPart
  cases s.role <;> rfl

theorem State.initialSelf_offer (s : State) : s.initialSelf.offer = 0 := by
  unfold State.initialSelf Entry.offer Entry.uplink State.initialPart
  cases s.role <;> rfl

theorem State.initialSelf_owner (s : State) (k : Nat) : s.initialSelf.owner k = none := by
  have htable : s.initialSelf.table = [] ∨ s.initialSelf.table = List.replicate Config.lanes none := by
    unfold State.initialSelf Entry.table Entry.uplink State.initialPart
    cases s.role
    case uplink => exact .inr rfl
    all_goals exact .inl rfl
  unfold Entry.owner
  rcases htable with h | h <;> rw [h]
  · rfl
  · rw [List.getD_eq_getElem?_getD, List.getElem?_replicate]
    split <;> rfl

theorem State.initialSelf_tableOk (s : State) : s.initialSelf.tableOk := by
  unfold State.initialSelf Entry.tableOk Entry.uplink State.initialPart
  cases s.role
  case uplink => intro p hp; cases hp; rfl
  all_goals exact fun p hp => by cases hp

/-- An empty census with one entry that offers nothing, owns nothing and claims nothing. -/
theorem Census.allVacant.lawful_upd {c : Census} (hs : c.Shaped) (h : c.allVacant) (a : Addr) {e : Entry}
    (hclaim : e.claim = none) (hlane : e.laneClaim = none) (hoffer : e.offer = 0) (howner : ∀ k, e.owner k = none) :
    (c.upd a (fun _ => e)).Lawful := by
  have hget : ∀ b, (c.upd a (fun _ => e)).get b = e ∨ (c.upd a (fun _ => e)).get b = Entry.vacant := fun b => by
    rw [hs.get_upd]
    split
    · exact .inl rfl
    · exact .inr (h b)
  have hnone : ∀ b k, ((c.upd a (fun _ => e)).get b).owner k = none := fun b k => by
    rcases hget b with hb | hb <;> rw [hb]
    · exact howner k
    · rfl
  constructor
  · intro u k b ho
    rw [hnone] at ho; cases ho
  · intro u k b ho
    rw [hnone] at ho; cases ho
  · intro u v k j b ho
    rw [hnone] at ho; cases ho
  · intro u
    rcases hget u with hu | hu <;> rw [hu]
    · rw [hoffer]; exact Nat.zero_le _
    · exact Nat.zero_le _
  · intro b q _ u k
    rw [hnone]; simp
  · intro b x hx
    rcases hget b with hb | hb <;> rw [hb] at hx
    · rw [hclaim] at hx; cases hx
    · cases hx

theorem Keeps.idleRoles (s : State) : Keeps s s.idleRoles := by
  unfold State.idleRoles
  split
  · exact .client s _
  · exact .installFans s
  · exact .parkSupply ‹_›
  · exact .refl s

/-- What follows the initialisation of the self entry. -/
theorem Keeps.restOfPassage (s : State) :
    Keeps s (((((({ (s.updPbc (fun p => { p with synced := false })) with msu := .reset } : State).startSweep).idleRoles).consumeLatches).enterState
      .parked).recordTally).testJoin := by
  have hbus : Keeps s (s.updPbc (fun p => { p with synced := false })) := .pbc s id fun h => State.slotted_congr rfl h
  have hsweep : Keeps s (({ (s.updPbc (fun p => { p with synced := false })) with msu := .reset } : State).startSweep) :=
    (hbus.trans (.msu _ (m := Msu.reset) fun _ => rfl)).trans (.startSweep _)
  have hparked := ((hsweep.trans (.idleRoles _)).trans (.consumeLatches _)).trans (.enterState _ .parked fun h => by cases h)
  exact (hparked.trans (Answer.recordTally (o := true) (w := true) _).keeps).trans (.testJoin _)

theorem State.passedIntoParked.apart {s : State} (h : s.passedIntoParked) : s.station.apart = false := by
  rcases h with h | h | h <;> rw [h] <;> rfl

/-- The boot image is installed and the self entry initialised. -/
def State.beginPassage (s : State) (image : BootImage) : State :=
  (s.install image).updSelf (fun _ => (s.install image).initialSelf)

theorem State.beginPassage_promises (s : State) (image : BootImage) (h : s.station.apart = true) {p : Promise}
    (hne : p ≠ .vacant) (hv : p = .tables → Promise.vacant.holds s) (hp : p.holds s) : p.holds (s.beginPassage image) := by
  have hinstall : Keeps s (s.install image) := .updLife s rfl id .inl
  have hkept := hinstall.promises p hp
  have hshaped : ∀ {c : Census}, c.Shaped → (c.upd s.addr (fun _ => (s.install image).initialSelf)).Shaped := fun hc =>
    hc.upd fun _ _ => State.initialSelf_tableOk _
  cases p
  case vacant => exact absurd rfl hne
  case entries => exact hshaped hp
  case tables =>
    obtain ⟨hs, hvacant⟩ := hv rfl h
    exact ⟨hshaped hs, hvacant.lawful_upd hs s.addr rfl (State.initialSelf_laneClaim _) (State.initialSelf_offer _)
      (State.initialSelf_owner _)⟩
  all_goals exact hkept

theorem Leads.passIntoParked (s : State) (image : BootImage) (h : s.station.apart = true) :
    Leads s (s.passIntoParked image) := by
  have hrest : Keeps (s.beginPassage image) (s.passIntoParked image) := .restOfPassage _
  refine ⟨hrest.straps, fun p hv hp => ?_⟩
  by_cases hne : p = .vacant
  · subst hne
    intro ha
    rw [(s.passIntoParked_outcome image).2.2.apart] at ha
    cases ha
  · exact hrest.promises p (s.beginPassage_promises image h hne hv hp)

theorem Leads.commitImage (s : State) (image : BootImage) (h : s.station.apart = true) : Leads s (s.commitImage image) :=
  .after (.raiseAll s _) (.passIntoParked _ _ (by rw [State.station, State.raiseAll_life]; exact h))

theorem Leads.checkRecord (s : State) (record : List Byte) (h : s.station.apart = true) : Leads s (s.checkRecord record) :=
  .ofIf (Keeps.enterSetup s _ _ h).leads (.ofIf (Keeps.enterSetup s _ _ h).leads
    (.ofIf (Keeps.enterSetup s _ _ h).leads (.commitImage s _ h)))

theorem Keeps.readFault (s : State) (h : s.station.apart = true) : Keeps s s.readFault := by
  have hlife : Keeps s (s.updLife (fun l => { l with readFaults := l.readFaults + 1 })) := .updLife s rfl id .inl
  exact .ofIf (hlife.trans (.enterSetup _ _ _ h)) hlife

/-! ## The millisecond -/

theorem Keeps.runTimers (s : State) : Keeps s { s with
    life := s.life.run, client := { s.client with criticalTimer := s.client.criticalTimer.run }, rsq := s.rsq.run,
    msu := { s.msu with interval := s.msu.interval.run }, spm := { s.spm with recovery := s.spm.recovery.run },
    lnu := { s.lnu with blinkTimer := s.lnu.blinkTimer.run } } := by
  have hlife : Keeps s { s with life := s.life.run } := .life s rfl id .inl
  have hclient := hlife.trans (.client _ { s.client with criticalTimer := s.client.criticalTimer.run })
  have hrails := hclient.trans (.rsq _ (r := s.rsq.run) (.inr fun h => by rw [show s.rsq = Rsq.reset from h]; rfl))
  have hmeasure := hrails.trans (.msu _ (m := { s.msu with interval := s.msu.interval.run }) id)
  have hsupply := hmeasure.trans (.spm _ (m := { s.spm with recovery := s.spm.recovery.run })
    (.inr fun h => by rw [show s.spm = Spm.reset from h]; rfl))
  exact hsupply.trans (.lnu _ (l := { s.lnu with blinkTimer := s.lnu.blinkTimer.run }) id)

theorem Census.run_keeps (s : State) : Keeps s { s with cen := s.cen.run } := by
  have hstands : ∀ e : Entry, e.Stands e.run := fun _ => ⟨rfl, rfl, rfl⟩
  have hentries : s.cen.run.entries = (s.cen.updAll Entry.run).entries := rfl
  refine .cen s (fun hs => ?_) (fun hs hl => ?_) (fun _ hs hv a => ?_) id
  · exact (hs.updAll fun e => Entry.tableOk_of_part (hstands e).part).of_entries hentries
  · exact (hl.updAllStands hs hstands).of_entries hentries
  · rw [Census.get_congr hentries, Census.get_updAll (c := s.cen) Entry.run hs.sized, hv a]
    rfl

theorem Fdu.runPwm_keeps (f : Fdu) : f.Keeps f.runPwm := by
  unfold Fdu.runPwm
  split
  · exact (Keeps.wrap_keeps f).trans (.of_channels rfl id)
  · exact .refl f

theorem Keeps.tick (s : State) : Keeps s s.tick := by
  refine ((Keeps.runTimers s).trans (Census.run_keeps _)).trans
    (.fdu _ (f := { s.fdu.runPwm with gate := s.fdu.gate.run }) ?_ (.inr fun h => ?_))
  · exact (Fdu.runPwm_keeps s.fdu).trans (.of_channels rfl id)
  · rw [show s.fdu = Fdu.reset from h]; rfl

end Sys2Proof.Machine
end

section
/-! PROOFS. Every command but a reset keeps every promise. -/

namespace Sys2Proof.Machine

variable {s t u : State}

/-! ## Commands that meet a condition -/

/-- A command that changes the state only where a condition holds. -/
theorem Keeps.onlyIf {p : Prop} [Decidable p] (h : p → Keeps s t) : Keeps s (if p then t else s) := by
  split
  · exact h ‹_›
  · exact .refl s

theorem Leads.onlyIf {p : Prop} [Decidable p] (h : p → Leads s t) : Leads s (if p then t else s) := by
  split
  · exact h ‹_›
  · exact (Keeps.refl s).leads

/-- A command of the port (R190, R191) leads where what it runs leads. -/
theorem Leads.command (taken : Bool) {run : State → State} (data : State → List Byte)
    (hrun : s.station ≠ .start → taken = true → Leads s (run s)) : Leads s (s.command taken run data) := by
  unfold State.command
  split
  · exact (Keeps.refl s).leads
  · rename_i hstart
    refine .ofIf (Keeps.respond s _ _).leads ?_
    split
    · have h := hrun (by simpa using hstart) ‹_›
      have hrespond := Keeps.respond (run s) .ok (data s)
      exact ⟨hrespond.straps.trans h.straps, fun p hv hp => hrespond.promises p (h.promises p hv hp)⟩
    · exact (Keeps.respond s _ _).leads

theorem Keeps.report (taken : Bool) (data : State → List Byte) : Keeps s (s.report taken data) :=
  .command s taken data fun _ _ => .refl s

/-- The outcome of a command, where what it answers leads. -/
theorem Leads.ofNext (he : (Host.Outcome.next u : Host.Outcome State Fault Refusal) = .next t) (h : Leads s u) :
    Leads s t := by
  cases he
  exact h

theorem Keeps.ofNext (he : (Host.Outcome.next u : Host.Outcome State Fault Refusal) = .next t) (h : Keeps s u) :
    Leads s t := .ofNext he h.leads

/-! ## Single commands -/

theorem Keeps.presenceTaken (hr : s.role = .fan) (k : Nat) (was : Debounced) : Keeps s (s.presenceTaken k was) :=
  .ofIf (.presence hr _ _ _) (.refl s)

theorem Keeps.endStore (s : State) (readBack : Option (List Byte)) : Keeps s (s.endStore readBack) := by
  unfold State.endStore
  split
  · exact .refl s
  · exact (Keeps.updLife s (g := fun l => { l with storing := none }) rfl id .inl).trans (.raise _ _)

theorem Keeps.pgLost (k : Nat) (hr : s.role = .blade) :
    Keeps s (if s.pgWatched k then (s.newEvent.debounce (k + 2) pgSamples false).pgLostTaken k
      else s.newEvent.debounce (k + 2) pgSamples false) := by
  have hinput : Keeps s (s.newEvent.debounce (k + 2) pgSamples false) := (Keeps.newEvent s).trans (.debounce _ _ _ _)
  refine .ofIf ?_ hinput
  have hfault := (hinput.trans (.raise _ (.pgLost k))).andThen (f := State.enterFault) hr fun h => .enterFault (.inl h)
  exact hfault.trans (.react _ _ _ _)

theorem Keeps.pgFound (k : Nat) (hr : s.role = .blade) : Keeps s ((s.debounce (k + 2) pgSamples true).pgGoodTaken k) :=
  (Keeps.debounce s (k + 2) pgSamples true).andThen (f := fun u => u.pgGoodTaken k) hr fun h => .ofIf (.passOn k (.inl h)) (.refl _)

theorem Keeps.enterRamp (k : Nat) (howns : s.ownsRails) : Keeps s (s.enterRamp k) :=
  .rsq s (howns.imp id fun hne h => absurd h hne)

theorem Keeps.criticalPersists (s : State) :
    Keeps s ((s.newEvent.overtempBegins.overtempStops).react s.cen .none s) := by
  have hbegins : Keeps s s.newEvent.overtempBegins := ((Keeps.newEvent s).trans (.client _ _)).trans (.raise _ _)
  exact (hbegins.trans (.overtempStops _)).trans (.react _ _ _ _)

theorem Keeps.acLatch (s : State) : Keeps s s.setAcLatch := .lnu s id
theorem Keeps.ejectorLatch (s : State) : Keeps s s.setEjectorLatch := .lnu s id

theorem Keeps.consumeAc (hr : s.role = .supply) : Keeps s s.consumeAc :=
  (Keeps.lnu s (l := { s.lnu with acLatch := false }) id).andThen (f := State.acWarning) hr fun h => .acWarning h

/-- The first event of a command, and what its role makes of it. -/
theorem Keeps.eventThen {r : Role} {f : State → State} (hr : s.role = r) (hf : s.newEvent.role = r → Keeps s.newEvent (f s.newEvent)) :
    Keeps s (f s.newEvent) := (Keeps.newEvent s).andThen hr hf

theorem StationState.apart_of_start (h : s.station = .start) : s.station.apart = true := by rw [h]; rfl

/-! ## Every command -/

/-- Every command but a reset leads from its state to the next one. -/
theorem leads_of_exec {i : Instr} (hi : i.resets = false) (he : exec i s = .next t) : Leads s t := by
  cases i with
  | powerOnStart straps => cases hi
  | warmRestart straps => cases hi
  | restart straps => cases hi
  | bootReadComplete record =>
    exact Leads.ofNext he (.onlyIf fun h => .after (.newEvent s) (.checkRecord _ record (StationState.apart_of_start (eq_of_beq h))))
  | bootReadFault => exact Keeps.ofNext he (.onlyIf fun h => .readFault s (StationState.apart_of_start (eq_of_beq h)))
  | frameStart line => exact Keeps.ofNext he (.startFrame s line)
  | frameVetoed frame => exact Keeps.ofNext he ((Keeps.newEvent s).trans (.endFrame _ _ _ _))
  | capacityDropAccepted sender subject value check => exact Keeps.ofNext he (.accept s _ _ _)
  | airflowDropAccepted sender subject value check => exact Keeps.ofNext he (.accept s _ _ _)
  | lanesDropAccepted sender subject value check => exact Keeps.ofNext he (.accept s _ _ _)
  | powerClaimAccepted sender level check => exact Keeps.ofNext he (.accept s _ _ _)
  | powerReleaseAccepted sender level check => exact Keeps.ofNext he (.accept s _ _ _)
  | departAccepted sender reason check => exact Keeps.ofNext he (.accept s _ _ _)
  | laneClaimAccepted sender uplink count check => exact Keeps.ofNext he (.accept s _ _ _)
  | laneReleaseAccepted sender uplink check => exact Keeps.ofNext he (.accept s _ _ _)
  | heatAccepted sender zone demand check => exact Keeps.ofNext he (.accept s _ _ _)
  | announceAccepted sender payload check => exact Keeps.ofNext he (.accept s _ _ _)
  | inventoryAccepted sender segment rest check => exact Keeps.ofNext he (.accept s _ _ _)
  | queryAccepted sender target check => exact Keeps.ofNext he (.accept s _ _ _)
  | silenceExpiry a =>
    refine Keeps.ofNext he (.onlyIf fun h => ?_)
    have hlive : (s.newEvent.entry a).isLive = true := (Bool.and_eq_true_iff.mp h).1
    exact ((Keeps.newEvent s).trans (.silenceExpires hlive)).trans (.react _ _ _ _)
  | staleHoldExpiry a =>
    refine Keeps.ofNext he (.onlyIf fun h => ?_)
    have hstale : (s.newEvent.entry a).isStale = true := (Bool.and_eq_true_iff.mp h).1
    exact ((Keeps.newEvent s).trans (.staleHoldExpires hstale)).trans (.react _ _ _ _)
  | queryQuietExpiry a =>
    exact Keeps.ofNext he (.onlyIf fun _ => ((Keeps.newEvent s).trans (.quietExpires _ a)).trans (.react _ _ _ _))
  | announceTimerExpiry =>
    exact Keeps.ofNext he (.onlyIf fun _ => ((Keeps.newEvent s).trans (.announceExpires _)).trans (.react _ _ _ _))
  | listenTimerExpiry => exact Keeps.ofNext he (.onlyIf fun _ => (Keeps.newEvent s).trans (.enterJoined _))
  | seatedChange level =>
    exact Keeps.ofNext he (((Keeps.newEvent s).trans (.debounce _ _ _ _)).trans (.seatedTaken _ _))
  | ejectorChange isOpen =>
    exact Keeps.ofNext he (((Keeps.newEvent s).trans (.debounce _ _ _ _)).trans (.ejectorTaken _ _))
  | ejectorLatchSet =>
    exact Keeps.ofNext he (.ofIf (.ejectorLatch s) ((Keeps.ejectorLatch s).trans (.consumeEjector _)))
  | bumpWindowExpiry => exact Keeps.ofNext he (.onlyIf fun _ => (Keeps.newEvent s).trans (.endBump _))
  | pgFoundGood k =>
    exact Keeps.ofNext he (.onlyIf fun h => .pgFound k (Keeps.role_blade (Bool.and_eq_true_iff.mp h).1))
  | pgLoss k => exact Keeps.ofNext he (.onlyIf fun h => .pgLost k (Keeps.role_blade (Bool.and_eq_true_iff.mp h).1))
  | staggerExpiry =>
    refine Keeps.ofNext he (.onlyIf fun h => ?_)
    have hstagger : s.rsq.state = .stagger := eq_of_beq (Bool.and_eq_true_iff.mp h).1
    exact .enterRamp 0 (.inr (Keeps.rails_ne_reset (by rw [hstagger]; simp)))
  | stepOneShotExpiry => exact Keeps.ofNext he (.onlyIf fun _ => .endOneShot s)
  | pgTimeoutExpiry => exact Keeps.ofNext he (.onlyIf fun _ => .endPgTimeout s)
  | graceExpiry =>
    exact Keeps.ofNext he (.onlyIf fun h => .enterStopping 2 (eq_of_beq (Bool.and_eq_true_iff.mp h).1))
  | stepOffDelayExpiry => exact Keeps.ofNext he (.onlyIf fun _ => .endStepOff s)
  | criticalPersistenceExpiry => exact Keeps.ofNext he (.onlyIf fun _ => .criticalPersists s)
  | sweepIntervalExpiry => exact Keeps.ofNext he (.onlyIf fun _ => .startSweep s)
  | conversionCompletion raw => exact Keeps.ofNext he (.completion s _)
  | acWarnLatchSet =>
    refine Keeps.ofNext he (.onlyIf fun h => .ofIf (.acLatch s) ?_)
    exact Keeps.andThen (f := State.consumeAc) ((Keeps.newEvent s).trans (.acLatch _)) (Keeps.role_supply h) .consumeAc
  | recoveryTimerExpiry =>
    refine Keeps.ofNext he (.onlyIf fun h => (Keeps.newEvent s).trans (.recovered fun hr => ?_))
    have hspm : s.spm = Spm.reset := hr
    rw [hspm] at h
    cases h
  | gateEnd =>
    exact Keeps.ofNext he (.onlyIf fun h => .eventThen (f := State.gateEnds) (Keeps.role_fan (Bool.and_eq_true_iff.mp h).1) .gateEnds)
  | fanPresentChange k present =>
    exact Keeps.ofNext he (.onlyIf fun h => Keeps.andThen (f := fun u => u.presenceTaken k (s.input (k + 2)).state)
      ((Keeps.newEvent s).trans (.debounce _ _ _ _)) (Keeps.role_fan (Bool.and_eq_true_iff.mp h).1) fun h => .presenceTaken h _ _)
  | pwmWrap => exact Keeps.ofNext he (.pwmWraps s)
  | gpiChange pin level => exact Keeps.ofNext he (.onlyIf fun _ => .debounce s _ _ _)
  | blinkPhaseChange => exact Keeps.ofNext he (.lnu s id)
  | shiftEnd mapDi => exact Keeps.ofNext he (.onlyIf fun h => .shiftEnd h _)
  | setupStoreEnd readBack => exact Keeps.ofNext he (.endStore s readBack)
  | readStatus => exact Keeps.ofNext he (.command s true _ fun _ _ => .lnu s id)
  | readEntry address => exact Keeps.ofNext he (.report _ _)
  | readTally => exact Keeps.ofNext he (.report _ _)
  | readChannel channel => exact Keeps.ofNext he (.report _ _)
  | readFans => exact Keeps.ofNext he (.report _ _)
  | readLanes uplink => exact Keeps.ofNext he (.report _ _)
  | nextEvent => exact Keeps.ofNext he (.command s true _ fun _ _ => .nextEvent s)
  | setPower level =>
    exact Keeps.ofNext he (.command s _ _ fun _ h => .takeSetPower (Keeps.role_blade (Bool.and_eq_true_iff.mp h).1) _)
  | stopReady =>
    exact Keeps.ofNext he (.command s _ _ fun _ h => .enterStopping 2 (eq_of_beq (Bool.and_eq_true_iff.mp h).2))
  | leave => exact Keeps.ofNext he (.command s _ _ fun _ _ => (Keeps.newEvent s).trans (.enterLeaving _ _))
  | setLanes count => exact Keeps.ofNext he (.command s _ _ fun _ _ => (Keeps.newEvent s).trans (.takeSetLanes _ _))
  | sendQuery address => exact Keeps.ofNext he (.command s _ _ fun _ _ => (Keeps.newEvent s).trans (.request _ _))
  | sweepNow => exact Keeps.ofNext he (.command s _ _ fun _ _ => .requestSweep s)
  | readSetup field index => exact Keeps.ofNext he (.report _ _)
  | writeSetup field index value => exact Keeps.ofNext he (.command s _ _ fun _ _ => .updLife s rfl id .inl)
  | commitSetup =>
    refine Leads.ofNext he (.command _ _ fun _ h => .after (.newEvent s) (.commitImage _ _ ?_))
    have hsetup : s.newEvent.station = .setup := eq_of_beq h
    rw [hsetup]; rfl
  | storeSetup => exact Keeps.ofNext he (.command s _ _ fun _ _ => .updLife s rfl id .inl)
  | unknownCommand command arguments =>
    exact Keeps.ofNext he (.ofIf (.refl s) (.ofIf (.respond s _ _) (.respond s _ _)))
  | lineSynchronised => exact Keeps.ofNext he (.onlyIf fun _ => .pbc s id fun h => State.slotted_congr rfl h)
  | tachEdge k => exact Keeps.ofNext he (.tachEdge s k)

end Sys2Proof.Machine
end

section
/-! PROOFS. What the commands leave as it was: the commands waiting, the configuration, the Measurement Unit, the Line Unit
and the response. With it the invariants of every step and the frame of every command. -/

namespace Sys2Proof.Machine

/-! ## The parts that a command may leave alone -/

/-- The parts that the frame of a command names one by one. -/
inductive Part where
  | waiting | response | config | measurement | lines

def Part.same (s t : State) : Part → Prop
  | .waiting => t.pending = s.pending
  | .response => t.lpt.response = s.lpt.response
  | .config => t.life.config = s.life.config
  | .measurement => t.msu = s.msu
  | .lines => t.lnu = s.lnu

/-- The parts that a command may change. -/
def touches (i : Instr) : Part → Bool
  | .waiting => false
  | .response => i.resets || i.ofPort
  | .config => i.resets || i.boots
  | .measurement => i.resets || i.boots || i.measures
  | .lines => i.resets || i.boots || i.ofLines

/-- All parts but those of `free` are as they were. -/
def Stays (free : Part → Bool) (s t : State) : Prop := ∀ p : Part, free p = false → p.same s t

namespace Stays

variable {free : Part → Bool} {s t u : State}

theorem refl (s : State) : Stays free s s := fun p _ => by cases p <;> rfl

theorem trans (h : Stays free s t) (h' : Stays free t u) : Stays free s u := fun p hp => by
  have hst := h p hp
  have htu := h' p hp
  cases p
  all_goals exact Eq.trans htu hst

theorem ofIf {p : Prop} [Decidable p] (ht : Stays free s t) (hu : Stays free s u) : Stays free s (if p then t else u) := by
  split <;> assumption

theorem onlyIf {p : Prop} [Decidable p] (h : Stays free s t) : Stays free s (if p then t else s) := ofIf h (refl s)

theorem of_still (h : t.fixed.still = s.fixed.still) : Stays free s t := fun p _ => by
  cases p
  case waiting => exact congrArg Still.pending h
  case response => exact congrArg Still.response h
  case config => exact congrArg (fun k : Still => k.life.config) h
  case measurement => exact congrArg Still.msu h
  case lines => exact congrArg Still.lnu h

theorem of_fixed (h : t.fixed = s.fixed) : Stays free s t := of_still (congrArg Fixed.still h)

/-! ## A change of one unit -/

theorem pbc (s : State) (b : Pbc) : Stays free s { s with pbc := b } := fun p _ => by cases p <;> rfl
theorem client (s : State) (c : Client) : Stays free s { s with client := c } := fun p _ => by cases p <;> rfl
theorem rsq (s : State) (r : Rsq) : Stays free s { s with rsq := r } := fun p _ => by cases p <;> rfl
theorem newEvent (s : State) : Stays free s s.newEvent := pbc s _

theorem life (s : State) {l : Life} (h : l.config = s.life.config) : Stays free s { s with life := l } := fun p _ => by
  cases p
  case config => exact h
  all_goals rfl

theorem updLife (s : State) {g : Life → Life} (h : (g s.life).config = s.life.config) : Stays free s (s.updLife g) :=
  life s h

theorem msu (hf : free .measurement = true) (s : State) (m : Msu) : Stays free s { s with msu := m } := fun p hp => by
  cases p
  case measurement => rw [hf] at hp; cases hp
  all_goals rfl

theorem lnu (hf : free .lines = true) (s : State) (l : Lnu) : Stays free s { s with lnu := l } := fun p hp => by
  cases p
  case lines => rw [hf] at hp; cases hp
  all_goals rfl

theorem install (hf : free .config = true) (s : State) (image : BootImage) : Stays free s (s.install image) := fun p hp => by
  cases p
  case config => rw [hf] at hp; cases hp
  all_goals rfl

theorem respond (hf : free .response = true) (s : State) (status : PortStatus) (data : List Byte) :
    Stays free s (s.respond status data) := fun p hp => by
  cases p
  case response => rw [hf] at hp; cases hp
  all_goals rfl

theorem raise (s : State) (e : Event) : Stays free s (s.raise e) := of_fixed (s.raise_fixed e)

theorem debounce (hf : free .lines = true) (s : State) (pin n : Nat) (level : Bool) :
    Stays free s (s.debounce pin n level) := lnu hf s _

theorem react (s : State) (pre : Census) (points : Points) (before : State) : Stays free s (s.react pre points before) :=
  of_still (s.react_still pre points before)

theorem enterState (s : State) (x : StationState) : Stays free s (s.enterState x) := of_still (s.enterState_still x)

theorem consumeLatches (hf : free .lines = true) (s : State) : Stays free s s.consumeLatches := lnu hf s _

/-! ## The bus -/

theorem startFrame (s : State) (line : List Bool) : Stays free s (s.startFrame line) := by
  unfold State.startFrame
  split
  · exact refl s
  · dsimp only
    split
    · unfold State.loseArbitration
      split
      · exact refl s
      · exact of_fixed (s.setSlot_fixed _ _)
    · exact pbc s _
    · exact pbc s _

theorem countFrame (s : State) (b c : Bool) : Stays free s (s.countFrame b c) := onlyIf (pbc s _)

theorem settleAccepted (s : State) (i : SlotId) : Stays free s (s.settleAccepted i) := by
  unfold State.settleAccepted
  dsimp only
  split
  · exact pbc s _
  · exact (pbc s _).trans (of_fixed (State.setSlot_fixed _ _ _))

theorem removeDepart (s : State) (failed : Bool) : Stays free s (s.removeDepart failed) :=
  onlyIf (((of_fixed (s.setSlot_fixed _ _)).trans (pbc _ _)).trans (of_fixed (State.raiseIf_fixed _ _ _)))

theorem settleFailed (s : State) (i : SlotId) : Stays free s (s.settleFailed i) := by
  have hscore : Stays free s (s.updPbc (fun p => { p with faultScore := min Config.faultMax (p.faultScore + 4) })) := pbc s _
  exact ofIf (hscore.trans (of_still (State.enterMute_still _ _)))
    ((hscore.trans (removeDepart _ _)).trans (of_still (State.failSlot_still _ _)))

theorem recordSent (s : State) (p : Payload) : Stays free s (s.recordSent p) := by
  unfold State.recordSent
  split
  · exact client s _
  · exact refl s

theorem applyFrame (s : State) (a : Addr) (own : Bool) (p : Payload) : Stays free s (s.applyFrame a own p) :=
  of_fixed (s.applyFrame_fixed a own p)

theorem endOwn (s : State) (o : OnLine) (vetoed : Bool) : Stays free s (s.endOwn o vetoed) := by
  have hcount : ∀ b c, Stays free s ((s.updPbc (fun p => { p with onLine := none })).countFrame b c) := fun b c =>
    (pbc s _).trans (countFrame _ b c)
  have hfailed : ∀ t : State, Stays free t (t.ownFailed o) := fun t =>
    ofIf (settleFailed t _) ((settleFailed t _).trans (react _ _ _ _))
  have haccepted : ∀ t : State, Stays free t (t.ownAccepted o) := fun t =>
    ((((settleAccepted t _).trans (removeDepart _ _)).trans (recordSent _ _)).trans (applyFrame _ _ _ _)).trans
      (react _ _ _ _)
  unfold State.endOwn
  dsimp only
  split
  · exact (hcount false (vetoed || o.bitError)).trans (hfailed _)
  · exact (hcount false (vetoed || o.bitError)).trans (haccepted _)

theorem endOther (s : State) (f : FrameRead) (p : Option Payload) (vetoed : Bool) : Stays free s (s.endOther f p vetoed) := by
  have hhear : ∀ b c, Stays free s ((s.countFrame b c).hearOther f.sender p) := fun b c =>
    (countFrame s b c).trans (of_still (State.hearOther_still _ _ _))
  have hlistening : Stays free s (s.endListening f p vetoed) :=
    ofIf ((countFrame s _ _).trans (of_still (State.enterMute_still _ _))) (ofIf (countFrame s _ _) (hhear _ _))
  unfold State.endOther
  split
  · exact hlistening
  · exact hlistening
  · exact hlistening
  · exact ofIf (countFrame s _ _) (hhear _ _)
  all_goals exact refl s

theorem endFrame (s : State) (f : FrameRead) (p : Option Payload) (vetoed : Bool) : Stays free s (s.endFrame f p vetoed) := by
  unfold State.endFrame
  split
  · split
    · exact endOwn s _ vetoed
    · exact endOther s f p vetoed
  · exact refl s

theorem accept (s : State) (a : Addr) (p : Payload) (check : Half) : Stays free s (s.accept a p check) :=
  (newEvent s).trans (endFrame _ _ _ _)

/-! ## The passage into PARKED and the entry to SETUP -/

section
variable (hconfig : free .config = true) (hmeasurement : free .measurement = true) (hlines : free .lines = true)
include hmeasurement

theorem startSweep (s : State) : Stays free s s.startSweep := by
  unfold State.startSweep
  split <;> exact msu hmeasurement s _

theorem endSweep (s : State) : Stays free s s.endSweep :=
  ofIf ((msu hmeasurement s _).trans (startSweep hmeasurement _)) (msu hmeasurement s _)

theorem requestSweep (s : State) : Stays free s s.requestSweep := by
  unfold State.requestSweep
  split
  · exact msu hmeasurement s _
  · exact startSweep hmeasurement s

theorem completion (s : State) (raw : Nat) : Stays free s (s.completion raw) := by
  unfold State.completion
  split
  · exact refl s
  · rename_i ch _
    have hrecord : Stays free s (s.newEvent.completeChannel ch raw) :=
      ((newEvent s).trans (msu hmeasurement _ _)).trans (of_fixed (State.raiseAll_fixed _ _))
    have hcritical : ∀ (t : State) (n : Nat), Stays free t (t.followCritical n) := fun t n =>
      ofIf (client t _) (onlyIf (client t _))
    have hblade : ∀ t : State, Stays free t (t.bladeReads s) := fun t =>
      onlyIf ((hcritical t _).trans (react _ _ _ _))
    refine (hrecord.trans (hblade _)).trans ?_
    unfold State.goOn
    split
    · exact msu hmeasurement _ _
    · refine Stays.trans ?_ (endSweep hmeasurement _)
      exact onlyIf (of_fixed ((State.evalSupply_fixed _).trans (State.measureOutput_fixed _)))

include hconfig hlines

theorem passIntoParked (s : State) (image : BootImage) : Stays free s (s.passIntoParked image) := by
  have hroles : ∀ t : State, Stays free t t.idleRoles := fun t => by
    unfold State.idleRoles
    split
    · exact client t _
    · exact of_fixed t.installFans_fixed
    · exact of_fixed t.parkSupply_fixed
    · exact refl t
  have hself := (install hconfig s image).trans (of_fixed (State.updSelf_fixed (s.install image) (fun _ => (s.install image).initialSelf)))
  have hsweep := ((hself.trans (pbc _ { s.pbc with synced := false })).trans (msu hmeasurement _ .reset)).trans
    (startSweep hmeasurement _)
  have hparked := ((hsweep.trans (hroles _)).trans (consumeLatches hlines _)).trans (enterState _ .parked)
  exact (hparked.trans (of_fixed (State.recordTally_fixed _))).trans (of_still (State.testJoin_still _))

theorem commitImage (s : State) (image : BootImage) : Stays free s (s.commitImage image) :=
  (of_fixed (s.raiseAll_fixed _)).trans (passIntoParked hconfig hmeasurement hlines _ _)

omit hmeasurement in
theorem enterSetup (s : State) (cause : SetupCause) (image : BootImage) : Stays free s (s.enterSetup cause image) := by
  have hinstall := (raise s (.setupEntered cause)).trans (install hconfig _ image)
  have hrails := (hinstall.trans (of_fixed (State.railsOff_fixed _))).trans
    (rsq _ { ((s.raise (.setupEntered cause)).install image).railsOff.rsq with retained := 0 })
  have hdrive := (hrails.trans (updLife _ (g := fun l => { l with retention := false }) rfl)).trans
    (of_fixed (State.endDrive_fixed _))
  have hcause := hdrive.trans (updLife _ (g := fun l => { l with setupCause := some cause }) rfl)
  exact (hcause.trans (consumeLatches hlines _)).trans (enterState _ .setup)

theorem checkRecord (s : State) (record : List Byte) : Stays free s (s.checkRecord record) :=
  ofIf (enterSetup hconfig hlines s _ _) (ofIf (enterSetup hconfig hlines s _ _)
    (ofIf (enterSetup hconfig hlines s _ _) (commitImage hconfig hmeasurement hlines s _)))

omit hmeasurement in
theorem readFault (s : State) : Stays free s s.readFault := by
  have hlife : Stays free s (s.updLife (fun l => { l with readFaults := l.readFaults + 1 })) := updLife s rfl
  exact ofIf (hlife.trans (enterSetup hconfig hlines _ _ _)) hlife

end

/-! ## Station life -/

theorem stopRetained (s : State) : Stays free s s.stopRetained :=
  onlyIf ((of_fixed (s.stopRails_fixed _)).trans (of_fixed (State.armClear_fixed _)))

theorem ejectorOpens (s : State) : Stays free s s.ejectorOpens := by
  have hfree : Stays free s (s.updLife (fun l => { l with stayParked := false })) := updLife s rfl
  unfold State.ejectorOpens
  dsimp only
  split
  · exact hfree.trans (stopRetained _)
  · exact (hfree.trans (of_still (State.park_still _))).trans (stopRetained _)
  · exact ofIf hfree (hfree.trans (of_still (State.enterLeaving_still _ _)))
  all_goals exact hfree

theorem ejectorCloses (s : State) : Stays free s s.ejectorCloses := by
  unfold State.ejectorCloses
  split
  · exact (of_fixed s.cancelStop_fixed).trans (of_still (State.testJoin_still _))
  · exact onlyIf (of_still s.cancelLeaving_still)
  all_goals exact refl s

theorem ejectorTaken (s : State) (was : Debounced) : Stays free s (s.ejectorTaken was) := by
  unfold State.ejectorTaken
  split
  · exact of_still s.testJoin_still
  · exact ejectorOpens s
  · exact ejectorCloses s
  · exact refl s

theorem seatedTaken (s : State) (was : Debounced) : Stays free s (s.seatedTaken was) :=
  ofIf (of_still s.seatingLoss_still)
    (ofIf (refl s) ((of_fixed s.settleDrive_fixed).trans (of_still (State.testJoin_still _))))

theorem consumeEjector (hlines : free .lines = true) (s : State) : Stays free s s.consumeEjector := by
  have hlatch : Stays free s { s with lnu := { s.lnu with ejectorLatch := false } } := lnu hlines s _
  exact ofIf (hlatch.trans (updLife _ rfl)) hlatch

theorem endBump (s : State) : Stays free s s.endBump := by
  have hlife : Stays free s (s.updLife (fun l => { l with bumpTimer := none })) := updLife s rfl
  exact ofIf (hlife.trans (of_still (State.enterLeaving_still _ _))) (hlife.trans (raise _ _))

/-! ## Rails, lane map, store -/

theorem endOneShot (s : State) : Stays free s s.endOneShot := by
  unfold State.endOneShot
  split
  · exact ofIf (of_fixed (s.passOn_fixed _)) (rsq s _)
  · exact refl s

theorem endPgTimeout (s : State) : Stays free s s.endPgTimeout := by
  unfold State.endPgTimeout
  split
  · exact (((newEvent s).trans (raise _ _)).trans (of_fixed (State.enterFault_fixed _))).trans (react _ _ _ _)
  · exact refl s

theorem endStepOff (s : State) : Stays free s s.endStepOff := by
  unfold State.endStepOff
  split
  · exact ((newEvent s).trans (of_fixed (State.stepDown_fixed _ _))).trans (react _ _ _ _)
  · exact refl s

theorem pgLostTaken (s : State) (k : Nat) : Stays free s (s.pgLostTaken k) :=
  ((raise s _).trans (of_fixed (State.enterFault_fixed _))).trans (react _ _ _ _)

theorem overtempStops (s : State) : Stays free s s.overtempStops :=
  ofIf (of_fixed (s.stopRails_fixed _)) ((of_fixed (s.stopRails_fixed _)).trans (of_fixed (State.armClear_fixed _)))

theorem criticalPersists (s : State) (points : Points) :
    Stays free s ((s.newEvent.overtempBegins.overtempStops).react s.cen points s) :=
  ((((newEvent s).trans (client _ _)).trans (raise _ _)).trans (overtempStops _)).trans (react _ _ _ _)

theorem settleShift (s : State) (readback : LaneMap) : Stays free s (s.settleShift readback) := by
  have hcommit : Stays free s (s.updLmp Lmp.commit) := of_fixed (s.updLmp_fixed _)
  exact ofIf (hcommit.trans (of_fixed ((State.evalUplink_fixed _ _).trans (State.crossbarFails_fixed _)))) hcommit

theorem shiftEnd (s : State) (readback : LaneMap) :
    Stays free s ((s.newEvent.settleShift readback).shiftWaiting.advanceLeaving) :=
  (((newEvent s).trans (settleShift _ _)).trans (onlyIf (of_fixed (State.updLmp_fixed _ _)))).trans
    (of_still (State.advanceLeaving_still _))

theorem endStore (s : State) (readBack : Option (List Byte)) : Stays free s (s.endStore readBack) := by
  unfold State.endStore
  split
  · exact refl s
  · exact (updLife s rfl).trans (raise _ _)

/-! ## The port -/

theorem command (hf : free .response = true) (s : State) (taken : Bool) {run : State → State} (data : State → List Byte)
    (hrun : Stays free s (run s)) : Stays free s (s.command taken run data) :=
  ofIf (refl s) (ofIf (respond hf s _ _) (ofIf (hrun.trans (respond hf _ _ _)) (respond hf s _ _)))

theorem report (hf : free .response = true) (s : State) (taken : Bool) (data : State → List Byte) :
    Stays free s (s.report taken data) := command hf s taken data (refl s)

theorem nextEvent (s : State) : Stays free s s.nextEvent := by
  have hresponse : s.lpt.next.response = s.lpt.response := by
    unfold Lpt.next
    split
    · rfl
    · split <;> rfl
  exact fun p _ => by
    cases p
    case response => exact hresponse
    all_goals rfl

theorem takeSetPower (s : State) (target : HostTarget) : Stays free s (s.takeSetPower target) := by
  have hclient : Stays free s { s.newEvent with client := { s.newEvent.client with hostTarget := target } } :=
    (newEvent s).trans (client _ _)
  exact (ofIf (hclient.trans (of_fixed (State.stopRailsNow_fixed _))) hclient).trans (react _ _ _ _)

theorem ofNext (he : (Host.Outcome.next u : Host.Outcome State Fault Refusal) = .next t) (h : Stays free s u) :
    Stays free s t := by
  cases he
  exact h

end Stays

/-! ## Every command -/

theorem stays_of_reset {i : Instr} {s t : State} (hi : i.resets = true) (h : t.pending = s.pending) :
    Stays (touches i) s t := fun p hp => by
  cases p
  case waiting => exact h
  all_goals simp [touches, hi] at hp

/-- A command changes no part but those it touches. -/
theorem stays_of_exec {i : Instr} {s t : State} (he : exec i s = .next t) : Stays (touches i) s t := by
  cases i with
  | powerOnStart straps => cases he; exact stays_of_reset rfl rfl
  | warmRestart straps => cases he; exact stays_of_reset rfl rfl
  | restart straps =>
    refine stays_of_reset rfl ?_
    cases he
    split
    · rfl
    · split <;> rfl
  | bootReadComplete record => exact .ofNext he (.onlyIf ((Stays.newEvent s).trans (.checkRecord rfl rfl rfl _ record)))
  | bootReadFault => exact .ofNext he (.onlyIf (.readFault rfl rfl s))
  | frameStart line => exact .ofNext he (.startFrame s line)
  | frameVetoed frame => exact .ofNext he ((Stays.newEvent s).trans (.endFrame _ _ _ _))
  | capacityDropAccepted sender subject value check => exact .ofNext he (.accept s _ _ _)
  | airflowDropAccepted sender subject value check => exact .ofNext he (.accept s _ _ _)
  | lanesDropAccepted sender subject value check => exact .ofNext he (.accept s _ _ _)
  | powerClaimAccepted sender level check => exact .ofNext he (.accept s _ _ _)
  | powerReleaseAccepted sender level check => exact .ofNext he (.accept s _ _ _)
  | departAccepted sender reason check => exact .ofNext he (.accept s _ _ _)
  | laneClaimAccepted sender uplink count check => exact .ofNext he (.accept s _ _ _)
  | laneReleaseAccepted sender uplink check => exact .ofNext he (.accept s _ _ _)
  | heatAccepted sender zone demand check => exact .ofNext he (.accept s _ _ _)
  | announceAccepted sender payload check => exact .ofNext he (.accept s _ _ _)
  | inventoryAccepted sender segment rest check => exact .ofNext he (.accept s _ _ _)
  | queryAccepted sender target check => exact .ofNext he (.accept s _ _ _)
  | silenceExpiry a =>
    exact .ofNext he (.onlyIf (((Stays.newEvent s).trans (.of_fixed (State.silenceExpires_fixed _ a))).trans (.react _ _ _ _)))
  | staleHoldExpiry a =>
    exact .ofNext he (.onlyIf (((Stays.newEvent s).trans (.of_fixed (State.staleHoldExpires_fixed _ a))).trans (.react _ _ _ _)))
  | queryQuietExpiry a =>
    exact .ofNext he (.onlyIf (((Stays.newEvent s).trans (.of_fixed (State.quietExpires_fixed _ a))).trans (.react _ _ _ _)))
  | announceTimerExpiry =>
    exact .ofNext he (.onlyIf (((Stays.newEvent s).trans (.of_fixed (State.announceExpires_fixed _))).trans (.react _ _ _ _)))
  | listenTimerExpiry => exact .ofNext he (.onlyIf ((Stays.newEvent s).trans (.of_still (State.enterJoined_still _))))
  | seatedChange level =>
    exact .ofNext he (((Stays.newEvent s).trans (.debounce rfl _ _ _ _)).trans (.seatedTaken _ _))
  | ejectorChange isOpen =>
    exact .ofNext he (((Stays.newEvent s).trans (.debounce rfl _ _ _ _)).trans (.ejectorTaken _ _))
  | ejectorLatchSet =>
    have hlatch : Stays (touches .ejectorLatchSet) s s.setEjectorLatch := .lnu rfl s _
    exact .ofNext he (.ofIf hlatch (hlatch.trans (.consumeEjector rfl _)))
  | bumpWindowExpiry => exact .ofNext he (.onlyIf ((Stays.newEvent s).trans (.endBump _)))
  | pgFoundGood k =>
    exact .ofNext he (.onlyIf ((Stays.debounce rfl s _ _ _).trans (.onlyIf (.of_fixed (State.passOn_fixed _ k)))))
  | pgLoss k =>
    have hinput : Stays (touches (.pgLoss k)) s (s.newEvent.debounce (k + 2) pgSamples false) :=
      (Stays.newEvent s).trans (.debounce rfl _ _ _ _)
    exact .ofNext he (.onlyIf (.ofIf (hinput.trans (.pgLostTaken _ k)) hinput))
  | staggerExpiry => exact .ofNext he (.onlyIf (.of_fixed (s.enterRamp_fixed 0)))
  | stepOneShotExpiry => exact .ofNext he (.onlyIf (.endOneShot s))
  | pgTimeoutExpiry => exact .ofNext he (.onlyIf (.endPgTimeout s))
  | graceExpiry => exact .ofNext he (.onlyIf (.of_fixed (s.enterStopping_fixed 2)))
  | stepOffDelayExpiry => exact .ofNext he (.onlyIf (.endStepOff s))
  | criticalPersistenceExpiry => exact .ofNext he (.onlyIf (.criticalPersists s _))
  | sweepIntervalExpiry => exact .ofNext he (.onlyIf (.startSweep rfl s))
  | conversionCompletion raw => exact .ofNext he (.completion rfl s _)
  | acWarnLatchSet =>
    have hconsume : ∀ u : State, Stays (touches .acWarnLatchSet) u u.consumeAc := fun u =>
      (Stays.lnu rfl u _).trans (.of_fixed (State.acWarning_fixed _))
    exact .ofNext he (.onlyIf (.ofIf (.lnu rfl s _) (((Stays.newEvent s).trans (.lnu rfl _ _)).trans (hconsume _))))
  | recoveryTimerExpiry => exact .ofNext he (.onlyIf ((Stays.newEvent s).trans (.of_fixed (State.recovered_fixed _))))
  | gateEnd => exact .ofNext he (.onlyIf ((Stays.newEvent s).trans (.of_fixed (State.gateEnds_fixed _))))
  | fanPresentChange k present =>
    exact .ofNext he (.onlyIf (((Stays.newEvent s).trans (.debounce rfl _ _ _ _)).trans
      (.onlyIf (.of_fixed (State.presence_fixed _ k _ _)))))
  | pwmWrap => exact .ofNext he (.of_fixed s.pwmWraps_fixed)
  | gpiChange pin level => exact .ofNext he (.onlyIf (.debounce rfl s _ _ _))
  | blinkPhaseChange => exact .ofNext he (.lnu rfl s _)
  | shiftEnd mapDi => exact .ofNext he (.onlyIf (.shiftEnd s _))
  | setupStoreEnd readBack => exact .ofNext he (.endStore s readBack)
  | readStatus => exact .ofNext he (.command rfl s true _ (.lnu rfl s _))
  | readEntry address => exact .ofNext he (.report rfl s _ _)
  | readTally => exact .ofNext he (.report rfl s _ _)
  | readChannel channel => exact .ofNext he (.report rfl s _ _)
  | readFans => exact .ofNext he (.report rfl s _ _)
  | readLanes uplink => exact .ofNext he (.report rfl s _ _)
  | nextEvent => exact .ofNext he (.command rfl s true _ (.nextEvent s))
  | setPower level => exact .ofNext he (.command rfl s _ _ (.takeSetPower s _))
  | stopReady => exact .ofNext he (.command rfl s _ _ (.of_fixed (s.enterStopping_fixed 2)))
  | leave => exact .ofNext he (.command rfl s _ _ ((Stays.newEvent s).trans (.of_still (State.enterLeaving_still _ _))))
  | setLanes count =>
    exact .ofNext he (.command rfl s _ _ (((Stays.newEvent s).trans (.client _ _)).trans (.of_fixed (State.evalLaneClient_fixed _))))
  | sendQuery address => exact .ofNext he (.command rfl s _ _ ((Stays.newEvent s).trans (.of_fixed (State.request_fixed _ _))))
  | sweepNow => exact .ofNext he (.command rfl s _ _ (.requestSweep rfl s))
  | readSetup field index => exact .ofNext he (.report rfl s _ _)
  | writeSetup field index value => exact .ofNext he (.command rfl s _ _ (.updLife s rfl))
  | commitSetup => exact .ofNext he (.command rfl s _ _ ((Stays.newEvent s).trans (.commitImage rfl rfl rfl _ _)))
  | storeSetup => exact .ofNext he (.command rfl s _ _ (.updLife s rfl))
  | unknownCommand command arguments =>
    exact .ofNext he (.ofIf (.refl s) (.ofIf (.respond rfl s _ _) (.respond rfl s _ _)))
  | lineSynchronised => exact .ofNext he (.onlyIf (.pbc s _))
  | tachEdge k => exact .ofNext he (.of_fixed (s.tachEdge_fixed k))

/-! ## The invariants -/

theorem Census.reset_allVacant : Census.reset.allVacant := by
  intro a
  simp only [Census.get, Census.reset, List.getD_eq_getElem?_getD, List.getElem?_replicate]
  split <;> rfl

theorem Census.reset_shaped : Census.reset.Shaped :=
  ⟨List.length_replicate, fun a => by rw [Census.reset_allVacant a]; exact Entry.vacant_tableOk⟩

theorem Census.allVacant.lawful {c : Census} (h : c.allVacant) : c.Lawful := by
  have howner : ∀ u k, (c.get u).owner k = none := fun u k => by rw [h u]; rfl
  constructor
  · intro u k a ho; rw [howner] at ho; cases ho
  · intro u k a ho; rw [howner] at ho; cases ho
  · intro u v k j a ho; rw [howner] at ho; cases ho
  · intro u; rw [h u]; exact Nat.zero_le _
  · intro a q hq; rw [h a] at hq; cases hq
  · intro a x hx; rw [h a] at hx; cases hx

/-- A state whose blocks have their reset values, but for the Rail Sequencer and the fan drive that a warm restart
retains. -/
structure State.Fresh (s : State) : Prop where
  cen : s.cen = .reset
  pbc : s.pbc = .reset
  msu : s.msu = .reset
  lnu : s.lnu = .reset
  lpt : s.lpt = .reset
  trays : s.fdu.channels.length = Config.fans
  drive : s.fdu.within

theorem Fdu.reset_within : Fdu.reset.within :=
  ⟨fun c hc => by rw [List.eq_of_mem_replicate hc]; exact Nat.zero_le _, Nat.zero_le _⟩

theorem Fdu.retain_within (f : Fdu) : f.retain.within := by
  refine ⟨fun c hc => ?_, Nat.zero_le _⟩
  obtain ⟨k, -, rfl⟩ := List.mem_map.mp hc
  exact Nat.zero_le _

theorem State.powerOn_fresh (straps : Straps) (pending : List Instr) : (State.powerOn straps pending).Fresh :=
  ⟨rfl, rfl, rfl, rfl, rfl, rfl, Fdu.reset_within⟩

theorem State.warmRestart_fresh (s : State) (straps : Straps) : (s.warmRestart straps).Fresh := by
  refine ⟨rfl, rfl, rfl, rfl, rfl, ?_, ?_⟩ <;> unfold State.warmRestart <;> dsimp only <;> split
  · rfl
  · rfl
  · exact s.fdu.retain_within
  · exact Fdu.reset_within

namespace State.Fresh

variable {s : State} (h : s.Fresh)
include h

theorem shaped : s.shaped := by
  refine (State.shaped_iff s).mpr ⟨?_, ?_, ?_, h.trays⟩
  · rw [Promise.holds, h.cen]; exact Census.reset_shaped
  · rw [Promise.holds, h.lnu]; rfl
  · rw [Promise.holds, h.msu]; rfl

theorem bounded : s.bounded := by
  refine (State.bounded_iff s).mpr ⟨?_, ?_, ?_, h.drive, fun i f hf => ?_⟩
  · rw [Promise.holds, h.lpt]; exact ⟨Nat.zero_le _, Nat.zero_le _⟩
  · rw [Promise.holds, h.pbc]; exact ⟨Nat.zero_le _, Nat.zero_le _, Nat.zero_le _⟩
  · rw [Promise.holds, h.cen]; exact Nat.zero_le _
  · rw [State.slot, h.pbc] at hf
    exact absurd ((TxQueue.get_empty i).symm.trans hf) nofun

theorem lanesLawful : s.lanesLawful := by
  refine (State.lanesLawful_iff h.shaped.cen).mpr ⟨⟨h.shaped.cen, ?_⟩, fun _ => ⟨h.shaped.cen, ?_⟩⟩
  · rw [h.cen]; exact Census.reset_allVacant.lawful
  · rw [h.cen]; exact Census.reset_allVacant

end State.Fresh

/-- A command leads to its next state, or resets the station, or is refused by the port. -/
theorem exec_outcome {i : Instr} {s t : State} (he : exec i s = .next t) : Leads s t ∨ t.Fresh := by
  by_cases hi : i.resets = true
  · cases i with
    | powerOnStart straps => cases he; exact .inr (State.powerOn_fresh _ _)
    | warmRestart straps => cases he; exact .inr (s.warmRestart_fresh straps)
    | restart straps =>
      cases he
      split
      · exact .inl (Keeps.refl s).leads
      · split
        · exact .inl (Keeps.respond s _ _).leads
        · exact .inr (s.warmRestart_fresh straps)
    | _ => cases hi
  · exact .inl (leads_of_exec (by simpa using hi) he)

/-- A command at the front of the queue leaves it, and changes nothing else by that. -/
theorem Keeps.pending (s : State) (rest : List Instr) : Keeps s { s with pending := rest } :=
  ⟨rfl, fun p h => by cases p <;> exact h⟩

theorem step_outcome {s t : State} (h : step s = .next t) : Leads s t ∨ t.Fresh := by
  unfold step at h
  split at h
  · cases h
    exact .inl (Keeps.tick s).leads
  · exact (exec_outcome h).imp_left (Leads.after (.pending s _))

/-! ## The obligations -/

/-- Settles O1, by the definition of the step. -/
theorem stepRunsFrontCommand : Obligations.StepRunsFrontCommand := by
  intro s c rest h
  unfold step
  rw [h]

/-- Settles O3: the machine right after a power-on start has only reset values. -/
theorem resetKeepsTheInvariants : Obligations.ResetKeepsTheInvariants := by
  have hfresh : State.reset.Fresh := State.powerOn_fresh _ _
  exact ⟨hfresh.shaped, hfresh.bounded, hfresh.lanesLawful⟩

/-- Settles O4: every command keeps every promise, and a reset builds the sizes anew. -/
theorem stepKeepsShape : Obligations.StepKeepsShape := by
  intro s t hs h
  rcases step_outcome h with hleads | hfresh
  · exact hleads.shaped hs
  · exact hfresh.shaped

/-- Settles O5: every command keeps every promise, and a reset starts every counter at 0. -/
theorem stepKeepsBounds : Obligations.StepKeepsBounds := by
  intro s t hb h
  rcases step_outcome h with hleads | hfresh
  · exact hleads.bounded hb
  · exact hfresh.bounded

/-- Settles O6: every command keeps every promise, and a reset empties the census. -/
theorem stepKeepsLanesLawful : Obligations.StepKeepsLanesLawful := by
  intro s t hs hl h
  rcases step_outcome h with hleads | hfresh
  · exact hleads.lanesLawful hs hl
  · exact hfresh.lanesLawful

/-- Settles O7: the parts that a command leaves alone, and the promises about the blocks that a role does not use. -/
theorem commandsLeaveTheRestAlone : Obligations.CommandsLeaveTheRestAlone := by
  intro i s t he
  have hstays := stays_of_exec he
  have hleads : i.resets = false → Leads s t := fun hi => leads_of_exec hi he
  refine ⟨hstays .waiting rfl, fun hi => (hleads hi).straps, fun hi hp => hstays .response (by simp [touches, hi, hp]),
    fun hi hb => hstays .config (by simp [touches, hi, hb]),
    fun hi hb hm => hstays .measurement (by simp [touches, hi, hb, hm]),
    fun hi hb hl => hstays .lines (by simp [touches, hi, hb, hl]), fun hi hr h => ?_, fun hi hr h => ?_,
    fun hi hr h => ?_, fun hi hr hl h => ?_⟩
  · exact ((hleads hi).promises .noRails nofun ⟨hr, h⟩).2
  · exact ((hleads hi).promises .noFans nofun ⟨hr, h⟩).2
  · exact ((hleads hi).promises .noSupply nofun ⟨hr, h⟩).2
  · exact ((hleads hi).promises .noPort nofun ⟨hr, hl, h⟩).2.2

end Sys2Proof.Machine
end

section
/-! PROOFS. The millisecond on an empty queue, and the blocks after a reset. -/

namespace Sys2Proof.Machine

/-! ## One millisecond -/

theorem Fdu.runPwm_of_stopped {f : Fdu} (h : f.counter = none) : f.runPwm = f := by
  unfold Fdu.runPwm
  rw [h]

theorem Fdu.runPwm_of_running {f : Fdu} {c : Nat} (h : f.counter = some c) :
    f.runPwm = { f.wrap with counter := some ((c + pwmCountsPerMs) % (f.top + 1)) } := by
  unfold Fdu.runPwm
  rw [h]

theorem step_of_emptyQueue {s : State} (h : s.pending = []) : step s = .next s.tick := by
  unfold step
  rw [h]

/-- Settles O2: the tick is the list of the timers that lose a millisecond, and the PWM counter runs or stands. -/
theorem emptyQueueStepIsOneMillisecond : Obligations.EmptyQueueStepIsOneMillisecond := by
  intro s h
  refine ⟨{ s.fdu.runPwm with gate := s.fdu.gate.run }, step_of_emptyQueue h, fun hstopped => ?_, fun c hc => ?_⟩
  · rw [Fdu.runPwm_of_stopped hstopped]
    rfl
  · rw [Fdu.runPwm_of_running hc]
    rfl

/-! ## The blocks after a reset (R68, R69) -/

/-- A state whose blocks that retain nothing have their reset values, with the commands of `s` still waiting. -/
structure State.BlocksReset (s t : State) : Prop where
  pending : t.pending = s.pending
  pbc : t.pbc = .reset
  cen : t.cen = .reset
  client : t.client = .reset
  msu : t.msu = .reset
  spm : t.spm = .reset
  lmp : t.lmp = .reset
  lnu : t.lnu = .reset
  lpt : t.lpt = .reset

theorem exec_blocksReset_of_restarts {i : Instr} {straps : Straps} {s : State} (h : restarts i straps s) :
    ∃ t, exec i s = .next t ∧ s.BlocksReset t := by
  rcases exec_of_restarts h with hon | hwarm
  · exact ⟨_, hon, ⟨rfl, rfl, rfl, rfl, rfl, rfl, rfl, rfl, rfl⟩⟩
  · exact ⟨_, hwarm, ⟨rfl, rfl, rfl, rfl, rfl, rfl, rfl, rfl, rfl⟩⟩

theorem getD_replicate_self {α : Type} (n k : Nat) (x : α) : (List.replicate n x).getD k x = x := by
  rw [List.getD_eq_getElem?_getD, List.getElem?_replicate]
  split <;> rfl

/-- Settles O9: each block has its reset values, which list these fields. -/
theorem blocksAfterResets : Obligations.BlocksAfterResets := by
  intro i straps s h
  obtain ⟨t, hexec, hblocks⟩ := exec_blocksReset_of_restarts h
  obtain ⟨hpending, hpbc, hcen, hclient, hmsu, hspm, hlmp, hlnu, hlpt⟩ := hblocks
  have hslot : ∀ j, t.slot j = none := fun j => by rw [State.slot, hpbc]; exact TxQueue.get_empty j
  have hentry : ∀ a, t.entry a = Entry.vacant := fun a => by rw [State.entry, hcen]; exact Census.reset_allVacant a
  have hchannel : ∀ ch, t.channel ch = ChannelRec.reset := fun ch => by
    rw [State.channel, hmsu]; exact getD_replicate_self _ _ _
  have hinput : ∀ pin, t.input pin = Input.reset := fun pin => by
    rw [State.input, hlnu]; exact getD_replicate_self _ _ _
  refine ⟨t, hexec, hpending, ?_⟩
  rw [hpbc, hcen, hclient, hmsu, hspm, hlmp, hlnu, hlpt]
  exact ⟨rfl, hslot, rfl, rfl, rfl, rfl, rfl, rfl, hentry, rfl, rfl, rfl, rfl, rfl, rfl, rfl, rfl, rfl, rfl, rfl, rfl,
    hchannel, rfl, rfl, rfl, rfl, rfl, rfl, rfl, rfl, rfl, rfl, rfl, fun pin => by rw [hinput pin]; rfl,
    rfl, rfl, rfl, rfl, rfl, rfl⟩

/-! ## The fan drive after a reset (R149) -/

/-- A fan channel as a reset leaves it, but for its compares. -/
structure FanChannel.Cleared (c : FanChannel) : Prop where
  state : c.state = .absent
  failureMark : c.failureMark = false
  duty : c.duty = 0
  spinup : c.spinup = 0
  lowGates : c.lowGates = 0
  tach : c.tach = 0
  rpm : c.rpm = 0

theorem FanChannel.reset_cleared : FanChannel.reset.Cleared := ⟨rfl, rfl, rfl, rfl, rfl, rfl, rfl⟩
theorem FanChannel.retain_cleared (c : FanChannel) : c.retain.Cleared := ⟨rfl, rfl, rfl, rfl, rfl, rfl, rfl⟩

theorem Fdu.reset_channel (k : Nat) : Fdu.reset.channel k = FanChannel.reset := getD_replicate_self _ _ _

theorem Fdu.retain_channel (f : Fdu) {k : Nat} (hk : k < Config.fans) : f.retain.channel k = (f.channel k).retain := by
  simp [Fdu.channel, Fdu.retain, hk]

theorem Fdu.retain_channel_cleared (f : Fdu) (k : Nat) : (f.retain.channel k).Cleared := by
  by_cases hk : k < Config.fans
  · rw [f.retain_channel hk]
    exact FanChannel.retain_cleared _
  · have hnone : f.retain.channel k = FanChannel.reset := by simp [Fdu.channel, Fdu.retain, hk]
    rw [hnone]
    exact FanChannel.reset_cleared

theorem State.warmRestart_fdu_of_kept {s : State} {straps : Straps} (hrole : straps.role = .fan) (hown : s.role = .fan)
    {c : Nat} (hc : s.fdu.counter = some c) : (s.warmRestart straps).fdu = s.fdu.retain := by
  simp [State.warmRestart, State.keepsFans, State.isFan, hrole, hown, hc]

theorem State.warmRestart_fdu_of_lost {s : State} {straps : Straps}
    (h : straps.role ≠ .fan ∨ s.role ≠ .fan ∨ s.fdu.counter = none) : (s.warmRestart straps).fdu = Fdu.reset := by
  have hkeeps : s.keepsFans straps = false := by
    simp only [State.keepsFans, State.isFan, Bool.and_eq_false_iff, beq_eq_false_iff_ne, Option.isSome_eq_false_iff,
      Option.isNone_iff_eq_none]
    exact or_assoc.mpr h
  simp [State.warmRestart, hkeeps]

/-- Every reset leaves the fan drive at its reset values, or retains the drive that a warm restart keeps. -/
theorem exec_fdu_of_restarts {i : Instr} {straps : Straps} {s : State} (h : restarts i straps s) :
    ∃ t, exec i s = .next t ∧ (t.fdu = Fdu.reset ∨ t.fdu = s.fdu.retain) ∧
      (warmRestarts i straps s → t = s.warmRestart straps) ∧ (i = .powerOnStart straps → t.fdu = Fdu.reset) := by
  rcases h with rfl | rfl | ⟨rfl, hfree⟩
  · exact ⟨_, exec_powerOnStart straps s, .inl rfl, fun hw => absurd hw not_warmRestarts_powerOnStart, fun _ => rfl⟩
  · refine ⟨_, exec_warmRestart straps s, ?_, fun _ => rfl, nofun⟩
    unfold State.warmRestart
    dsimp only
    split
    · exact .inr rfl
    · exact .inl rfl
  · refine ⟨_, exec_restart_of_portFree hfree, ?_, fun _ => rfl, nofun⟩
    unfold State.warmRestart
    dsimp only
    split
    · exact .inr rfl
    · exact .inl rfl

/-- Settles O11: the drive is reset, or retained with the shadows that its preloads repeat. -/
theorem fanDriveAfterResets : Obligations.FanDriveAfterResets := by
  intro i straps s h
  obtain ⟨t, hexec, hfdu, hwarm, hon⟩ := exec_fdu_of_restarts h
  have hcleared : ∀ k, (t.fdu.channel k).Cleared := fun k => by
    rcases hfdu with hreset | hretain
    · rw [hreset, Fdu.reset_channel]; exact FanChannel.reset_cleared
    · rw [hretain]; exact s.fdu.retain_channel_cleared k
  have hidle : t.fdu.zoneDemand = 0 ∧ t.fdu.base = 0 ∧ t.fdu.boost = false ∧ t.fdu.duty = 0 ∧ t.fdu.saturation = 0 ∧
      t.fdu.gate = none ∧ t.fdu.airflow = .lost := by
    rcases hfdu with hreset | hretain
    · rw [hreset]; exact ⟨rfl, rfl, rfl, rfl, rfl, rfl, rfl⟩
    · rw [hretain]; exact ⟨rfl, rfl, rfl, rfl, rfl, rfl, rfl⟩
  obtain ⟨hdemand, hbase, hboost, hduty, hsaturation, hgate, hairflow⟩ := hidle
  refine ⟨t, hexec, fun k => ?_, hdemand, hbase, hboost, hduty, hsaturation, hgate, hairflow, ?_, ?_⟩
  · obtain ⟨hstate, hmark, hchannelDuty, hspinup, hlow, htach, hrpm⟩ := hcleared k
    exact ⟨hstate, hmark, hchannelDuty, hspinup, hlow, htach, hrpm⟩
  · intro c hw hrole hown hc
    have hkept : t.fdu = s.fdu.retain := by rw [hwarm hw]; exact State.warmRestart_fdu_of_kept hrole hown hc
    rw [hkept]
    refine ⟨rfl, hc, rfl, rfl, rfl, fun k hk => ?_⟩
    rw [s.fdu.retain_channel hk]
    exact ⟨rfl, rfl⟩
  · intro hlost
    have hreset : t.fdu = Fdu.reset := by
      by_cases hi : i = .powerOnStart straps
      · exact hon hi
      · have hw : warmRestarts i straps s := h.resolve_left hi
        rw [hwarm hw]
        exact State.warmRestart_fdu_of_lost (hlost.resolve_left hi)
    rw [hreset]
    exact ⟨rfl, rfl, fun k => by rw [Fdu.reset_channel]; exact ⟨rfl, rfl⟩⟩

end Sys2Proof.Machine
end

section
/-! PROOFS. The local port: which commands it takes, and what each of the setup, read and event commands answers (R190 to
R197). -/

namespace Sys2Proof.Machine

variable {s : State}

/-! ## A command of the port, case by case (R190, R191) -/

section
variable (taken : Bool) (run : State → State) (data : State → List Byte)

theorem State.command_of_start (h : s.station = .start) : s.command taken run data = s := by
  simp [State.command, h]

theorem State.command_of_storing (h : s.station ≠ .start) (hs : s.life.storing ≠ none) :
    s.command taken run data = s.answered .busy [] := by
  have hsome : s.life.storing.isSome = true := Option.isSome_iff_ne_none.mpr hs
  simp [State.command, h, hsome, State.respond, State.answered]

theorem State.command_of_refused (h : s.portFree) (ht : taken = false) :
    s.command taken run data = s.answered .refusedState [] := by
  simp [State.command, h.1, h.2, ht, State.respond, State.answered]

theorem State.command_of_taken (h : s.portFree) (ht : taken = true) :
    s.command taken run data = (run s).respond .ok (data s) := by
  simp [State.command, h.1, h.2, ht]

theorem State.read_of_taken (h : s.portFree) (ht : taken = true) : s.command taken id data = s.answered .ok (data s) :=
  State.command_of_taken taken id data h ht

end

/-! ## The commands of the port -/

theorem exec_readStatus (s : State) : exec .readStatus s = .next (s.command true State.clearCopies State.statusBytes) := rfl
theorem exec_readEntry (address : Byte) (s : State) :
    exec (.readEntry address) s = .next (s.command true id (fun t => t.entryBytes (addrArg address))) := rfl
theorem exec_readTally (s : State) : exec .readTally s = .next (s.command true id State.tallyBytes) := rfl
theorem exec_readChannel (channel : Byte) (s : State) :
    exec (.readChannel channel) s = .next (s.command true id (fun t => t.channelBytes (min 7 channel.toNat))) := rfl
theorem exec_readFans (s : State) : exec .readFans s = .next (s.command s.isFan id State.fansBytes) := rfl
theorem exec_readLanes (uplink : Byte) (s : State) :
    exec (.readLanes uplink) s = .next (s.command true id (fun t => t.lanesBytes (addrArg uplink))) := rfl
theorem exec_nextEvent (s : State) :
    exec .nextEvent s = .next (s.command true State.nextEvent (fun t => eventBytes t.lpt.events)) := rfl
theorem exec_setPower (level : Byte) (s : State) :
    exec (.setPower level) s = .next (s.command (s.isBlade && s.station.acting) (fun t => t.takeSetPower (hostTargetOf level)) noData) := rfl
theorem exec_stopReady (s : State) :
    exec .stopReady s = .next (s.command (s.isBlade && s.rsq.state == .stopWait) (fun t => t.enterStopping 2) noData) := rfl
theorem exec_leave (s : State) :
    exec .leave s = .next (s.command (s.station == .joined) (fun t => t.newEvent.enterLeaving .host) noData) := rfl
theorem exec_setLanes (count : Byte) (s : State) :
    exec (.setLanes count) s = .next (s.command (s.isBlade && s.station.running) (fun t => t.newEvent.takeSetLanes (min 4 count.toNat)) noData) := rfl
theorem exec_sendQuery (address : Byte) (s : State) :
    exec (.sendQuery address) s = .next (s.command (s.station == .joined || s.station == .leaving) (fun t => t.newEvent.request (.query (addrArg address))) noData) := rfl
theorem exec_sweepNow (s : State) : exec .sweepNow s = .next (s.command s.station.running State.requestSweep noData) := rfl
theorem exec_readSetup (field index : Byte) (s : State) :
    exec (.readSetup field index) s = .next (s.command s.inSetup id (fun t => setupBytes t.image (fieldOf field) (indexOf (fieldOf field) index))) := rfl
theorem exec_writeSetup (field index : Byte) (value : BitVec 32) (s : State) :
    exec (.writeSetup field index value) s = .next (s.command s.inSetup (fun t => t.writeField (fieldOf field) (indexOf (fieldOf field) index) value.toInt) noData) := rfl
theorem exec_commitSetup (s : State) :
    exec .commitSetup s = .next (s.command s.inSetup (fun t => t.newEvent.commitImage t.image) noData) := rfl
theorem exec_storeSetup (s : State) : exec .storeSetup s = .next (s.command s.inSetup State.beginStore noData) := rfl

/-- A command that the port knows, but RESTART: it runs where it is taken, and is refused where the table refuses it. -/
def Instr.Ported (i : Instr) : Prop :=
  ∃ (taken : State → Bool) (run : State → State) (data : State → List Byte),
    (∀ s, exec i s = .next (s.command (taken s) run data)) ∧ ∀ s, i.refusedIn s = true → taken s = false

theorem StationState.acting_eq (x : StationState) : x.acting = (x == .joined || x == .leaving || x == .mute) := by
  cases x <;> rfl

theorem StationState.running_of_portFree (h : s.station ≠ .start) : s.station.running = (s.station != .setup) := by
  cases hx : s.station with
  | start => exact absurd hx h
  | setup | parked | listen | joined | leaving | mute => rfl

theorem State.notInSetup (h : (s.station != .setup) = true) : s.inSetup = false := by
  simpa [State.inSetup] using h

/-- A command that the table of section 11.2 never refuses. -/
theorem Instr.ported_of_unrefused {i : Instr} {run : State → State} {data : State → List Byte}
    (hexec : ∀ s, exec i s = .next (s.command true run data)) (hr : ∀ s, i.refusedIn s = false) : Instr.Ported i :=
  ⟨fun _ => true, run, data, hexec, fun s h => by rw [hr s] at h; cases h⟩

/-- A command that the table refuses outside SETUP. -/
theorem Instr.ported_of_setup {i : Instr} {run : State → State} {data : State → List Byte}
    (hexec : ∀ s, exec i s = .next (s.command s.inSetup run data)) (hr : ∀ s, i.refusedIn s = (s.station != .setup)) :
    Instr.Ported i :=
  ⟨State.inSetup, run, data, hexec, fun s h => State.notInSetup (by rw [hr s] at h; exact h)⟩

theorem Instr.ofPort_cases {i : Instr} (h : i.ofPort = true) :
    Instr.Ported i ∨ (∃ straps, i = .restart straps) ∨ ∃ command arguments, i = .unknownCommand command arguments := by
  cases i with
  | restart straps => exact .inr (.inl ⟨straps, rfl⟩)
  | unknownCommand command arguments => exact .inr (.inr ⟨command, arguments, rfl⟩)
  | readStatus => exact .inl (Instr.ported_of_unrefused exec_readStatus fun _ => rfl)
  | readEntry address => exact .inl (Instr.ported_of_unrefused (exec_readEntry address) fun _ => rfl)
  | readTally => exact .inl (Instr.ported_of_unrefused exec_readTally fun _ => rfl)
  | readChannel channel => exact .inl (Instr.ported_of_unrefused (exec_readChannel channel) fun _ => rfl)
  | readFans =>
    exact .inl ⟨State.isFan, _, _, exec_readFans, fun s (hr : (s.role != .fan) = true) => by simpa [State.isFan] using hr⟩
  | readLanes uplink => exact .inl (Instr.ported_of_unrefused (exec_readLanes uplink) fun _ => rfl)
  | nextEvent => exact .inl (Instr.ported_of_unrefused exec_nextEvent fun _ => rfl)
  | setPower level =>
    refine .inl ⟨fun s => s.isBlade && s.station.acting, _, _, exec_setPower level, fun s (hr : (s.role != .blade ||
      !(s.station == .joined || s.station == .leaving || s.station == .mute)) = true) => ?_⟩
    rcases (Bool.or_eq_true _ _).mp hr with hr | hr
    · have hblade : s.isBlade = false := by simpa [State.isBlade] using hr
      exact Bool.and_eq_false_iff.mpr (.inl hblade)
    · have hacting : s.station.acting = false := by simpa [StationState.acting_eq] using hr
      exact Bool.and_eq_false_iff.mpr (.inr hacting)
  | stopReady =>
    refine .inl ⟨fun s => s.isBlade && s.rsq.state == .stopWait, _, _, exec_stopReady,
      fun s (hr : (s.role != .blade || s.rsq.state != .stopWait) = true) => ?_⟩
    rcases (Bool.or_eq_true _ _).mp hr with hr | hr
    · have hblade : s.isBlade = false := by simpa [State.isBlade] using hr
      exact Bool.and_eq_false_iff.mpr (.inl hblade)
    · have hstopped : (s.rsq.state == .stopWait) = false := by simpa using hr
      exact Bool.and_eq_false_iff.mpr (.inr hstopped)
  | leave =>
    exact .inl ⟨fun s => s.station == .joined, _, _, exec_leave, fun s (hr : (s.station != .joined) = true) => by simpa using hr⟩
  | setLanes count =>
    refine .inl ⟨fun s => s.isBlade && s.station.running, _, _, exec_setLanes count,
      fun s (hr : (s.role != .blade || s.station == .setup) = true) => ?_⟩
    rcases Bool.or_eq_true_iff.mp hr with hrole | hsetup
    · simp [State.isBlade, bne_iff_ne.mp hrole]
    · simp [eq_of_beq hsetup, StationState.running]
  | sendQuery address =>
    refine .inl ⟨fun s => s.station == .joined || s.station == .leaving, _, _, exec_sendQuery address,
      fun s (hr : (!(s.station == .joined || s.station == .leaving)) = true) => ?_⟩
    simpa using hr
  | sweepNow =>
    refine .inl ⟨fun s => s.station.running, _, _, exec_sweepNow, fun s (hr : (s.station == .setup) = true) => ?_⟩
    simp [eq_of_beq hr, StationState.running]
  | readSetup field index => exact .inl (Instr.ported_of_setup (exec_readSetup field index) fun _ => rfl)
  | writeSetup field index value => exact .inl (Instr.ported_of_setup (exec_writeSetup field index value) fun _ => rfl)
  | commitSetup => exact .inl (Instr.ported_of_setup exec_commitSetup fun _ => rfl)
  | storeSetup => exact .inl (Instr.ported_of_setup exec_storeSetup fun _ => rfl)
  | _ => cases h

theorem exec_restart_of_start {straps : Straps} (h : s.station = .start) : exec (.restart straps) s = .next s := by
  have harm : exec (.restart straps) s = execRestart straps s := rfl
  simp [harm, execRestart, h]

theorem exec_restart_of_storing {straps : Straps} (h : s.station ≠ .start) (hs : s.life.storing ≠ none) :
    exec (.restart straps) s = .next (s.answered .busy []) := by
  have harm : exec (.restart straps) s = execRestart straps s := rfl
  have hsome : s.life.storing.isSome = true := Option.isSome_iff_ne_none.mpr hs
  simp [harm, execRestart, h, hsome, State.respond, State.answered]

theorem exec_unknownCommand (command : Byte) (arguments : List Byte) (s : State) :
    exec (.unknownCommand command arguments) s = .next (if s.station = .start then s
      else if s.life.storing.isSome then s.answered .busy [] else s.answered .unknown []) := by
  have harm : exec (.unknownCommand command arguments) s = execUnknownCommand command arguments s := rfl
  simp [harm, execUnknownCommand, State.respond, State.answered]

theorem exec_ofPort_of_start {i : Instr} (hi : i.ofPort = true) (h : s.station = .start) : exec i s = .next s := by
  rcases Instr.ofPort_cases hi with ⟨taken, run, data, hexec, -⟩ | ⟨straps, rfl⟩ | ⟨command, arguments, rfl⟩
  · rw [hexec, State.command_of_start _ _ _ h]
  · exact exec_restart_of_start h
  · rw [exec_unknownCommand, if_pos h]

theorem exec_ofPort_of_storing {i : Instr} (hi : i.ofPort = true) (h : s.station ≠ .start) (hs : s.life.storing ≠ none) :
    exec i s = .next (s.answered .busy []) := by
  rcases Instr.ofPort_cases hi with ⟨taken, run, data, hexec, -⟩ | ⟨straps, rfl⟩ | ⟨command, arguments, rfl⟩
  · rw [hexec, State.command_of_storing _ _ _ h hs]
  · exact exec_restart_of_storing h hs
  · rw [exec_unknownCommand, if_neg h, if_pos (Option.isSome_iff_ne_none.mpr hs)]

theorem exec_ofPort_of_refused {i : Instr} (hi : i.ofPort = true) (h : s.portFree) (hr : i.refusedIn s = true) :
    exec i s = .next (s.answered .refusedState []) := by
  rcases Instr.ofPort_cases hi with ⟨taken, run, data, hexec, hrefused⟩ | ⟨straps, rfl⟩ | ⟨command, arguments, rfl⟩
  · rw [hexec, State.command_of_refused _ _ _ h (hrefused s hr)]
  · cases hr
  · cases hr

/-- Settles O16: the table row by row, then the port's answers by the three cases of a command. -/
theorem portTakesCommandsAndAnswers : Obligations.PortTakesCommandsAndAnswers := by
  refine ⟨fun straps => ⟨rfl, rfl, rfl, rfl, rfl, rfl, rfl, rfl, rfl, rfl, rfl,
    fun x => ⟨rfl, rfl, rfl, rfl, rfl, rfl⟩, fun f n => rfl, fun f n b3 b2 b1 b0 => rfl, fun c arguments h => ?_,
    fun c arguments => ?_⟩, fun i s hi => ⟨exec_ofPort_of_start hi, ?_, exec_ofPort_of_refused hi⟩⟩
  · rw [portWrite, portCommand, portNamed_unknown straps h]
    rfl
  · rw [portKnows, List.contains_iff_mem]
    rfl
  · rintro ⟨hstart, hstoring⟩ ⟨command, arguments, rfl⟩
    rw [exec_unknownCommand, if_neg hstart, hstoring]
    rfl

/-! ## Reads (R193) -/

theorem portFree_of_setup (h : s.station = .setup) (hs : s.life.storing = none) : s.portFree :=
  ⟨by rw [h]; decide, hs⟩

theorem clampNat_eq {lo hi : Nat} (x : Nat) (h : lo ≤ hi) : clampNat lo hi x = max lo (min hi x) := by
  unfold clampNat
  split
  · omega
  · split <;> omega

theorem boolByte_eq (b : Bool) : boolByte b = if b then 1 else 0 := by cases b <;> rfl

/-- Settles O17: the follow-up ends with the tally, and a read answers its bytes over the state as it stands. -/
theorem readsReportAndChangeNothing : Obligations.ReadsReportAndChangeNothing := by
  refine ⟨fun s pre k => rfl, fun s h => ⟨?_, fun address => ?_, ?_, fun channel => ?_, fun hrole => ?_, fun uplink => ?_⟩⟩
  · rw [exec_readStatus, State.command_of_taken _ _ _ h rfl]
    rfl
  · rw [exec_readEntry, State.read_of_taken _ _ h rfl]
    rfl
  · rw [exec_readTally, State.read_of_taken _ _ h rfl, State.tallyBytes, boolByte_eq]
  · rw [exec_readChannel, State.read_of_taken _ _ h rfl]
  · rw [exec_readFans, State.read_of_taken _ _ h (by simp [State.isFan, hrole])]
  · rw [exec_readLanes, State.read_of_taken _ _ h rfl]
    rfl

/-! ## The event queue (R197, R198) -/

theorem Lpt.push_of_room {p : Lpt} (e : Event) (h : p.events.length < 16) :
    p.push e = { p with events := p.events ++ [e] } := if_pos h

theorem Lpt.push_of_full {p : Lpt} (e : Event) (h : 16 ≤ p.events.length) :
    p.push e = { p with overflow := if p.overflow < 65535 then p.overflow + 1 else p.overflow } :=
  if_neg (Nat.not_lt.mpr h)

theorem exec_nextEvent_of_portFree (h : s.portFree) :
    exec .nextEvent s = .next (s.nextEvent.respond .ok (eventBytes s.lpt.events)) := by
  rw [exec_nextEvent, State.command_of_taken _ _ _ h rfl]

theorem State.attention_iff (s : State) : s.attention = true ↔ s.lpt.events ≠ [] := by
  simp [State.attention]

/-- Settles O18: the queue's two cases, NEXT_EVENT by the queue's two forms, and the reset values of the port. -/
theorem eventQueueAndAttention : Obligations.EventQueueAndAttention := by
  refine ⟨fun s e => ⟨fun h => ?_, fun h => ?_⟩, fun s h hempty => ?_, fun s e rest h hevents => ?_, State.attention_iff,
    fun i straps s h => ?_⟩
  · rw [State.raise, Lpt.push_of_room e h]
  · rw [State.raise, Lpt.push_of_full e h]
  · have hnext : s.lpt.next = s.lpt := by unfold Lpt.next; rw [hempty]
    rw [exec_nextEvent_of_portFree h, State.nextEvent, hnext, hempty]
    rfl
  · rw [exec_nextEvent_of_portFree h, State.nextEvent, hevents]
    unfold Lpt.next
    rw [hevents]
    by_cases hover : s.lpt.overflow = 0
    · simp [State.respond, eventBytes, hover]
    · simp [State.respond, eventBytes, hover]
  · obtain ⟨t, hexec, hblocks⟩ := exec_blocksReset_of_restarts h
    refine ⟨t, hexec, hblocks.lpt, ?_⟩
    rw [State.attention, hblocks.lpt]
    rfl

/-! ## The setup commands (R51 to R53, R196) -/

theorem exec_setupStoreEnd (back : Option (List Byte)) (s : State) :
    exec (.setupStoreEnd back) s = .next (s.endStore back) := rfl

theorem State.inSetup_of (h : s.station = .setup) : s.inSetup = true := by simp [State.inSetup, h]

/-- Settles O14: the four stages of a store, and the resets that lose it. -/
theorem storeOfTheBootImage : Obligations.StoreOfTheBootImage := by
  intro s
  refine ⟨fun h hs => ?_, fun i hi h hs => exec_ofPort_of_storing hi h hs, fun r back hr => ?_, fun hnone back => ?_,
    fun h => ⟨?_, fun record => ?_⟩, fun straps => ⟨⟨_, exec_powerOnStart straps s, rfl⟩, ⟨_, exec_warmRestart straps s, rfl⟩⟩⟩
  · exact congrArg Host.Outcome.next
      (State.command_of_taken _ State.beginStore noData (portFree_of_setup h hs) (State.inSetup_of h))
  · rw [exec_setupStoreEnd, State.endStore, hr]
    by_cases hback : back = some r
    · simp [hback, State.raise, State.updLife]
    · simp [hback, State.raise, State.updLife]
  · rw [exec_setupStoreEnd, State.endStore, hnone]
  · exact congrArg Host.Outcome.next (if_neg (by simpa using h))
  · exact congrArg Host.Outcome.next (if_neg (by simpa using h))

theorem fieldOf_eq (b : Byte) : fieldOf b = max 1 (min 54 b.toNat) := clampNat_eq _ (by decide)

theorem indexOf_eq (f : Nat) (b : Byte) : indexOf f b = min ((fieldSpec f).slots - 1) b.toNat := by
  rw [indexOf, clampNat_eq _ (Nat.zero_le _), Nat.zero_max]

/-- Every row of the field table has a range that is not empty. -/
theorem fieldSpec_lo_le_hi (f : Nat) : (fieldSpec f).lo ≤ (fieldSpec f).hi := by
  have htable : ∀ spec ∈ fieldTable, spec.lo ≤ spec.hi := by decide
  rw [fieldSpec, List.getD_eq_getElem?_getD]
  cases h : fieldTable[f - 1]? with
  | none => exact Int.le_refl 0
  | some spec => exact htable spec (List.mem_of_getElem? h)

theorem ownRange_eq (f : Nat) (v : Int) : ownRange f v =
    if (f = 18 ∨ f = 19) ∧ 32 ≤ max (fieldSpec f).lo (min (fieldSpec f).hi v) then 255
    else max (fieldSpec f).lo (min (fieldSpec f).hi v) := by
  simp [ownRange, intoRange, isUplinkField, clampInt_eq (fieldSpec_lo_le_hi f)]

/-- Settles O15: the clamped field, index and value, and the passage into PARKED. -/
theorem setupOverThePort : Obligations.SetupOverThePort := by
  intro s h hs
  have hfree := portFree_of_setup h hs
  have hsetup := State.inSetup_of h
  refine ⟨fun field index value => ⟨?_, ?_⟩, ?_⟩
  · rw [exec_readSetup, State.read_of_taken _ _ hfree hsetup, setupBytes, indexOf_eq, fieldOf_eq]
  · rw [exec_writeSetup, State.command_of_taken _ _ _ hfree hsetup, State.writeField, ownRange_eq, indexOf_eq, fieldOf_eq]
    rfl
  · have hexec := exec_commitSetup s
    rw [State.command_of_taken _ _ _ hfree hsetup] at hexec
    obtain ⟨himage, hconfig, hpassed⟩ := s.newEvent.commitImage_outcome s.image
    exact ⟨_, hexec, himage, hconfig, hpassed, rfl⟩

end Sys2Proof.Machine
end

section
/-! PROOFS. The waiting list walk and the shed computation over any census (R76, R85 to R88). -/

namespace Sys2Proof.Machine

variable {c : Census}

/-! ## Sums over the entries -/

theorem sum_map_set (g : Entry → Nat) (e : Entry) (l : List Entry) (i : Nat) (hi : i < l.length) :
    ((l.set i e).map g).sum + g l[i] = (l.map g).sum + g e := by
  induction l generalizing i with
  | nil => cases hi
  | cons x l ih =>
    cases i with
    | zero => simp only [List.set_cons_zero, List.map_cons, List.sum_cons, List.getElem_cons_zero]; omega
    | succ i =>
      have := ih i (Nat.lt_of_succ_lt_succ hi)
      simp only [List.set_cons_succ, List.map_cons, List.sum_cons, List.getElem_cons_succ]
      omega

/-- One entry changes, and the sum moves by what it moves. -/
theorem Census.sum_upd (h : c.sized) (a : Addr) (f : Entry → Entry) (g : Entry → Nat) :
    (c.upd a f).sum g + g (c.get a) = c.sum g + g (f (c.get a)) := by
  have hi : a.toNat < c.entries.length := by rw [h]; exact a.isLt
  have hget : c.get a = c.entries[a.toNat] := by simp [Census.get, hi]
  have hsum := sum_map_set g (f (c.get a)) c.entries a.toNat hi
  rw [hget] at hsum ⊢
  rw [← hget] at hsum ⊢
  exact hsum

theorem Census.load_admission (h : c.sized) {a : Addr} {budget level : Nat} (hfits : c.fits budget a level = true) :
    (c.upd a (fun e => e.admitAt level)).load ≤ max c.load budget := by
  have hsum := Census.sum_upd h a (fun e => e.admitAt level) Entry.held
  have hroom : c.load + (level - (c.get a).held) ≤ budget := of_decide_eq_true hfits
  simp only [Census.load, Entry.admitAt] at hsum hroom ⊢
  omega

/-! ## The waiting list walk (R76) -/

theorem Census.walk_cons_of_unclaimed (budget : Nat) {a : Addr} (rest : List Addr) (h : (c.get a).claim = none) :
    Census.walk budget (a :: rest) c = Census.walk budget rest c := by
  rw [Census.walk, h]

theorem Census.walk_cons_of_claimed (budget : Nat) {a : Addr} (rest : List Addr) {level : Nat}
    (h : (c.get a).claim = some level) : Census.walk budget (a :: rest) c =
      if c.fits budget a level then Census.walk budget rest (c.upd a (fun e => e.admitAt level)) else c := by
  rw [Census.walk, h]

theorem Census.walk_load_le (budget : Nat) (list : List Addr) (h : c.sized) :
    (Census.walk budget list c).load ≤ max c.load budget := by
  induction list generalizing c with
  | nil => exact Nat.le_max_left _ _
  | cons a rest ih =>
    cases hclaim : (c.get a).claim with
    | none => rw [Census.walk_cons_of_unclaimed budget rest hclaim]; exact ih h
    | some level =>
      rw [Census.walk_cons_of_claimed budget rest hclaim]
      split
      · rename_i hfits
        have hstep := Census.load_admission h hfits
        have hrest := ih (Census.upd_sized a (fun e => e.admitAt level) h)
        omega
      · exact Nat.le_max_left _ _

theorem Census.walk_get_of_not_mem (budget : Nat) (list : List Addr) (h : c.sized) {a : Addr} (ha : a ∉ list) :
    (Census.walk budget list c).get a = c.get a := by
  induction list generalizing c with
  | nil => rfl
  | cons b rest ih =>
    obtain ⟨hab, hrest⟩ := not_or.mp (mt List.mem_cons.mpr ha)
    cases hclaim : (c.get b).claim with
    | none => rw [Census.walk_cons_of_unclaimed budget rest hclaim]; exact ih h hrest
    | some level =>
      rw [Census.walk_cons_of_claimed budget rest hclaim]
      split
      · rw [ih (Census.upd_sized b _ h) hrest, Census.get_upd h, if_neg hab]
      · rfl

/-- An entry stands, or is admitted at the claim it had; an admitted one has no claim left. -/
theorem Census.walk_get (budget : Nat) (list : List Addr) (h : c.sized) (a : Addr) :
    (Census.walk budget list c).get a = c.get a ∨
      ∃ x, (c.get a).claim = some x ∧ (Census.walk budget list c).get a = (c.get a).admitAt x := by
  induction list generalizing c with
  | nil => exact .inl rfl
  | cons b rest ih =>
    cases hclaim : (c.get b).claim with
    | none => rw [Census.walk_cons_of_unclaimed budget rest hclaim]; exact ih h
    | some level =>
      rw [Census.walk_cons_of_claimed budget rest hclaim]
      split
      · have hget := Census.get_upd h b a (fun e => e.admitAt level)
        have hrest := ih (Census.upd_sized b (fun e => e.admitAt level) h)
        rw [hget] at hrest
        by_cases hab : a = b
        · subst hab
          rw [if_pos rfl] at hrest
          rcases hrest with hsame | ⟨x, hx, -⟩
          · exact .inr ⟨level, hclaim, hsame⟩
          · cases hx
        · rw [if_neg hab] at hrest
          exact hrest
      · exact .inl rfl

/-- Settles O59, by induction over the list: an admission that fits stays within the budget. -/
theorem admissionStaysWithinTheBudget : Obligations.AdmissionStaysWithinTheBudget := by
  intro c budget list h
  exact ⟨Census.walk_load_le budget list h, fun a ha => Census.walk_get_of_not_mem budget list h ha,
    Census.walk_get budget list h⟩

/-! ## The shed computation (R85 to R88) -/

theorem Entry.shedTo_effective_le (e : Entry) (level : Nat) : (e.shedTo level).effective ≤ e.effective := by
  unfold Entry.shedTo
  split
  · rename_i h
    exact Nat.le_of_lt h
  · exact Nat.le_refl _

theorem Entry.shedTo_zero_effective (e : Entry) : (e.shedTo 0).effective = 0 := by
  unfold Entry.shedTo
  split
  · rfl
  · omega

theorem Entry.shedTo_unshed (e : Entry) (level : Nat) : { e.shedTo level with shed := none } = { e with shed := none } := by
  unfold Entry.shedTo
  split <;> rfl

section
variable (budget : Nat) (level : Entry → Nat)

theorem Census.shedPass_effective_le (list : List Addr) (h : c.sized) (a : Addr) :
    ((Census.shedPass budget level list c).get a).effective ≤ (c.get a).effective := by
  induction list generalizing c with
  | nil => exact Nat.le_refl _
  | cons b rest ih =>
    unfold Census.shedPass
    split
    · exact Nat.le_refl _
    · refine Nat.le_trans (ih (Census.upd_sized b _ h)) ?_
      rw [Census.get_upd h]
      split
      · exact Entry.shedTo_effective_le _ _
      · exact Nat.le_refl _

theorem Census.shedPass_get_of_not_mem (list : List Addr) (h : c.sized) {a : Addr} (ha : a ∉ list) :
    (Census.shedPass budget level list c).get a = c.get a := by
  induction list generalizing c with
  | nil => rfl
  | cons b rest ih =>
    obtain ⟨hab, hrest⟩ := not_or.mp (mt List.mem_cons.mpr ha)
    unfold Census.shedPass
    split
    · rfl
    · rw [ih (Census.upd_sized b _ h) hrest, Census.get_upd h, if_neg hab]

theorem Census.shedPass_unshed (list : List Addr) (h : c.sized) (a : Addr) :
    { (Census.shedPass budget level list c).get a with shed := none } = { c.get a with shed := none } := by
  induction list generalizing c with
  | nil => rfl
  | cons b rest ih =>
    unfold Census.shedPass
    split
    · rfl
    · rw [ih (Census.upd_sized b _ h), Census.get_upd h]
      split
      · exact Entry.shedTo_unshed _ _
      · rfl

end

/-- A pass to level 0 ends within the budget or leaves every listed station at 0. -/
theorem Census.shedPass_zero (budget : Nat) (list : List Addr) (h : c.sized) :
    (Census.shedPass budget (fun _ => 0) list c).effLoad ≤ budget ∨
      ∀ a ∈ list, ((Census.shedPass budget (fun _ => 0) list c).get a).effective = 0 := by
  induction list generalizing c with
  | nil => exact .inr nofun
  | cons b rest ih =>
    unfold Census.shedPass
    split
    · rename_i hwithin
      exact .inl hwithin
    · have hsized := Census.upd_sized b (fun e : Entry => e.shedTo 0) h
      refine (ih hsized).imp_right fun hzero a ha => ?_
      rcases List.mem_cons.mp ha with rfl | hrest
      · have hle := Census.shedPass_effective_le budget (fun _ => 0) rest hsized a
        rw [Census.get_upd h, if_pos rfl, Entry.shedTo_zero_effective] at hle
        exact Nat.le_zero.mp hle
      · exact hzero a hrest

/-- Settles O60: the second pass ends within the budget or takes every candidate to 0; both passes only lower. -/
theorem shedReachesItsBudgetOrExhausts : Obligations.ShedReachesItsBudgetOrExhausts := by
  intro c budget h
  have hfirst : (Census.shedPass budget Entry.reducedLevel c.candidates c).sized :=
    (Census.shedPass_length budget Entry.reducedLevel c.candidates c).trans h
  refine ⟨Census.shedPass_zero budget c.candidates hfirst, fun a => ?_, fun a ha => ?_, fun a => ?_⟩
  · exact Nat.le_trans (Census.shedPass_effective_le budget _ _ hfirst a) (Census.shedPass_effective_le budget _ _ h a)
  · exact (Census.shedPass_get_of_not_mem budget _ _ hfirst ha).trans (Census.shedPass_get_of_not_mem budget _ _ h ha)
  · exact (Census.shedPass_unshed budget _ _ hfirst a).trans (Census.shedPass_unshed budget _ _ h a)

end Sys2Proof.Machine
end

section
/-! PROOFS. Fans and inputs: gate ends, the fan update, presence, tach edges, PWM wraps and general-purpose inputs (R134 to
R145, R181, R182). -/

namespace Sys2Proof.Machine

variable {s : State}

/-! ## Inputs that settle (R182) -/

theorem State.debounce_state {s : State} {pin n : Nat} (level : Bool) (hn : 0 < n) (h : pin < s.lnu.inputs.length) :
    ((s.debounce pin n level).input pin).state = if level then .yes else .no := by
  rw [State.debounce_self n level h, Input.settle_state hn]

theorem State.shaped.input_lt (h : s.shaped) {pin : Nat} (hp : pin < 8) : pin < s.lnu.inputs.length := by
  have hlen : s.lnu.inputs.length = Config.inputs := ((State.shaped_iff s).mp h).2.1
  rw [hlen]; exact hp

theorem State.shaped.channel_lt (h : s.shaped) {k : Nat} (hk : k < 6) : k < s.fdu.channels.length := by
  have hlen : s.fdu.channels.length = Config.fans := ((State.shaped_iff s).mp h).2.2.2
  rw [hlen]; exact hk

theorem exec_gpiChange (pin : Nat) (level : Bool) (s : State) :
    exec (.gpiChange pin level) s = .next (if gpiPin s.role pin then s.debounce pin lineSamples level else s) := rfl

theorem gpiPin_iff (r : Role) (pin : Nat) : gpiPin r pin = true ↔
    (r = .blade ∧ 5 ≤ pin ∧ pin < 8) ∨ ((r = .supply ∨ r = .uplink) ∧ 2 ≤ pin ∧ pin < 8) := by
  cases r <;> simp only [gpiPin, Bool.and_eq_true, decide_eq_true_eq] <;> simp [Config.inputs]

/-- Settles O47: a pin of the role is debounced, and any other command of the kind does nothing. -/
theorem generalInputsSettle : Obligations.GeneralInputsSettle := by
  refine ⟨fun s pin level hs hpin hrole => ?_, fun s pin level hno => ?_⟩
  · have hgpi : gpiPin s.role pin = true := (gpiPin_iff _ _).mpr (by
      rcases hrole with ⟨hr, h⟩ | ⟨hr, h⟩ | ⟨hr, h⟩
      · exact .inl ⟨hr, h, hpin⟩
      · exact .inr ⟨.inl hr, h, hpin⟩
      · exact .inr ⟨.inr hr, h, hpin⟩)
    refine ⟨(s.input pin).settle lineSamples level, ?_, Input.settle_state (by decide) level _⟩
    rw [exec_gpiChange, if_pos hgpi]
    rfl
  · have hgpi : ¬ gpiPin s.role pin = true := fun h => by
      rcases (gpiPin_iff _ _).mp h with ⟨hr, hlo, hhi⟩ | ⟨hr | hr, hlo, hhi⟩ <;>
        simp only [hr, reduceCtorEq, true_and, false_and, false_or, or_false] at hno <;> omega
    rw [exec_gpiChange, if_neg hgpi]

/-! ## Tach edges and PWM wraps (R136, R141) -/

theorem exec_tachEdge (k : Nat) (s : State) : exec (.tachEdge k) s = .next (s.tachEdge k) := rfl
theorem exec_pwmWrap (s : State) : exec .pwmWrap s = .next s.pwmWraps := rfl

theorem Fdu.wrap_channel (f : Fdu) {k : Nat} (hk : k < 6) :
    f.wrap.channel k = if k < f.count then { f.channel k with shadow := (f.channel k).preload } else f.channel k :=
  f.mapChannels_channel _ hk

/-- Settles O43: one channel counts, or every channel in force takes its preload. -/
theorem tachEdgesAndWraps : Obligations.TachEdgesAndWraps := by
  intro s hs
  refine ⟨fun k hk hk6 hgate => ?_, fun k hno => ?_, fun hc => ?_, fun hc => ?_⟩
  · have hcounts : (s.fdu.gate.isSome && s.configuredFan k) = true := by
      simp [State.configuredFan, hk, Option.isSome_iff_ne_none.mpr hgate]
    refine ⟨s.fdu.updChannel k (fun c => { c with tach := satInc Config.counterMax c.tach }), ?_,
      Fdu.updChannel_self _ (hs.channel_lt hk6), fun j hj => Fdu.updChannel_other _ _ hj, rfl⟩
    rw [exec_tachEdge, State.tachEdge, if_pos hcounts]
    rfl
  · have hcounts : ¬ (s.fdu.gate.isSome && s.configuredFan k) = true := by
      rcases hno with hk | hgate
      · simp [State.configuredFan, hk]
      · simp [hgate]
    rw [exec_tachEdge, State.tachEdge, if_neg hcounts]
  · refine ⟨{ s.fdu.wrap with counter := some 0 }, ?_, rfl, fun k hk => s.fdu.wrap_channel hk, rfl⟩
    rw [exec_pwmWrap, State.pwmWraps, if_pos (Option.isSome_iff_ne_none.mpr hc)]
    rfl
  · rw [exec_pwmWrap, State.pwmWraps, hc]
    rfl

/-! ## The own airflow (R144, R145) -/

theorem State.request_fdu (s : State) (r : FrameReq) : (s.request r).fdu = s.fdu := by
  unfold State.request State.enqueue
  split
  · split <;> rfl
  · rfl

theorem State.requestIf_fdu (s : State) (b : Bool) (r : FrameReq) : (s.requestIf b r).fdu = s.fdu := by
  unfold State.requestIf
  split
  · exact s.request_fdu r
  · rfl

theorem State.evalOwnAirflow_fdu (s : State) : s.evalOwnAirflow.fdu = { s.fdu with airflow := s.airflowNow } := by
  unfold State.evalOwnAirflow
  dsimp only
  split
  · rfl
  · rw [State.raiseIf_fdu, State.requestIf_fdu]
    rfl

/-! ## A gate end (R137) -/

/-- What a gate end makes of a configured channel, before an update of the duty and the opening of the next gate. -/
structure FanChannel.Gated (c d : FanChannel) (pulses maxRpm : Nat) : Prop where
  rpm : d.rpm = c.tach * 125 / pulses
  tach : d.tach = 0
  spinning : c.state = .spinup → 1 < c.spinup → d.state = .spinup ∧ d.spinup = c.spinup - 1
  runs : c.state = .spinup → c.spinup = 1 → c.ranWholeGate = false → d.state = .running
  judged : c.state = .running → c.ranWholeGate = true → c.dutyChanged = false →
    (¬ d.rpm < maxRpm * c.duty / 1000 * 60 / 100 → d.state = .running ∧ d.lowGates = 0) ∧
    (d.rpm < maxRpm * c.duty / 1000 * 60 / 100 → c.lowGates < 2 → d.state = .running ∧ d.lowGates = c.lowGates + 1) ∧
    (d.rpm < maxRpm * c.duty / 1000 * 60 / 100 → c.lowGates = 2 →
      d.state = .failed ∧ d.failureMark = true ∧ d.lowGates = 0)
  unjudged : c.state = .running → (c.ranWholeGate = false ∨ c.dutyChanged = true) →
    d.state = .running ∧ d.lowGates = c.lowGates
  undriven : (c.state = .absent ∨ c.state = .idle ∨ c.state = .failed) → d.state = c.state

theorem FanChannel.judge_rpm (c : FanChannel) (maxRpm : Nat) : (c.judge maxRpm).rpm = c.rpm ∧ (c.judge maxRpm).tach = c.tach := by
  unfold FanChannel.judge
  split
  · split
    · split <;> exact ⟨rfl, rfl⟩
    · exact ⟨rfl, rfl⟩
  · exact ⟨rfl, rfl⟩

theorem FanChannel.countSpinup_rpm (c : FanChannel) : c.countSpinup.rpm = c.rpm ∧ c.countSpinup.tach = c.tach := by
  unfold FanChannel.countSpinup
  split
  · split <;> exact ⟨rfl, rfl⟩
  · exact ⟨rfl, rfl⟩

theorem FanChannel.judge_of_unjudged {c : FanChannel} (maxRpm : Nat) (h : c.judged = false) : c.judge maxRpm = c := by
  simp [FanChannel.judge, h]

theorem FanChannel.countSpinup_of_ne {c : FanChannel} (h : c.state ≠ .spinup) : c.countSpinup = c := by
  simp [FanChannel.countSpinup, h]

/-- A channel that is not RUNNING is not judged. -/
theorem FanChannel.gate_of_state_ne {c : FanChannel} (pulses maxRpm : Nat) (hspin : c.state ≠ .spinup)
    (hrun : c.state ≠ .running) : c.gate pulses maxRpm = c.speed pulses := by
  have hcount : (c.speed pulses).countSpinup = c.speed pulses := FanChannel.countSpinup_of_ne hspin
  rw [FanChannel.gate, hcount]
  exact FanChannel.judge_of_unjudged maxRpm (by simp [FanChannel.judged, FanChannel.speed, hrun])

theorem FanChannel.gate_of_running {c : FanChannel} (pulses maxRpm : Nat) (hrun : c.state = .running) :
    c.gate pulses maxRpm = (c.speed pulses).judge maxRpm := by
  have hcount : (c.speed pulses).countSpinup = c.speed pulses :=
    FanChannel.countSpinup_of_ne (by simp [FanChannel.speed, hrun])
  rw [FanChannel.gate, hcount]

theorem FanChannel.gate_gated (c : FanChannel) (pulses maxRpm : Nat) : c.Gated (c.gate pulses maxRpm) pulses maxRpm := by
  have hrpm : (c.gate pulses maxRpm).rpm = c.tach * 125 / pulses := by
    rw [FanChannel.gate, (FanChannel.judge_rpm _ _).1, (FanChannel.countSpinup_rpm _).1]; rfl
  constructor
  · exact hrpm
  · rw [FanChannel.gate, (FanChannel.judge_rpm _ _).2, (FanChannel.countSpinup_rpm _).2]; rfl
  · intro hspin hmore
    have hcount : (c.speed pulses).countSpinup = { c.speed pulses with spinup := c.spinup - 1 } := by
      simp [FanChannel.countSpinup, FanChannel.speed, hspin, Nat.not_le.mpr hmore]
    rw [FanChannel.gate, hcount, FanChannel.judge_of_unjudged]
    · exact ⟨hspin, rfl⟩
    · simp [FanChannel.judged, FanChannel.speed, hspin]
  · intro hspin hlast hgate
    have hcount : (c.speed pulses).countSpinup = { c.speed pulses with spinup := 0, state := .running } := by
      simp [FanChannel.countSpinup, FanChannel.speed, hspin, hlast]
    rw [FanChannel.gate, hcount, FanChannel.judge_of_unjudged]
    simp [FanChannel.judged, FanChannel.speed, hgate]
  · intro hrun hwhole hsteady
    have hjudged : (c.speed pulses).judged = true := by simp [FanChannel.judged, FanChannel.speed, hrun, hwhole, hsteady]
    have hlow : ∀ h : (c.gate pulses maxRpm).rpm < maxRpm * c.duty / 1000 * 60 / 100,
        lowGate maxRpm (c.speed pulses).duty (c.speed pulses).rpm = true := fun h => by
      rw [hrpm] at h; exact decide_eq_true h
    have hfine : ∀ h : ¬ (c.gate pulses maxRpm).rpm < maxRpm * c.duty / 1000 * 60 / 100,
        lowGate maxRpm (c.speed pulses).duty (c.speed pulses).rpm = false := fun h => by
      rw [hrpm] at h; exact decide_eq_false h
    refine ⟨fun h => ?_, fun h hfew => ?_, fun h hthird => ?_⟩
    · have hlg := hfine h
      rw [FanChannel.gate_of_running _ _ hrun, FanChannel.judge, if_pos hjudged, hlg]
      exact ⟨hrun, rfl⟩
    · have hlg := hlow h
      have hcount : ¬ 3 ≤ (c.speed pulses).lowGates + 1 := by simp only [FanChannel.speed]; omega
      rw [FanChannel.gate_of_running _ _ hrun, FanChannel.judge, if_pos hjudged, if_pos hlg, if_neg hcount]
      exact ⟨hrun, rfl⟩
    · have hlg := hlow h
      have hcount : 3 ≤ (c.speed pulses).lowGates + 1 := by simp only [FanChannel.speed]; omega
      rw [FanChannel.gate_of_running _ _ hrun, FanChannel.judge, if_pos hjudged, if_pos hlg, if_pos hcount]
      exact ⟨rfl, rfl, rfl⟩
  · intro hrun hother
    have hjudged : (c.speed pulses).judged = false := by
      rcases hother with h | h <;> simp [FanChannel.judged, FanChannel.speed, h]
    rw [FanChannel.gate_of_running _ _ hrun, FanChannel.judge_of_unjudged _ hjudged]
    exact ⟨hrun, rfl⟩
  · intro hstate
    have hspin : c.state ≠ .spinup := by rcases hstate with h | h | h <;> rw [h] <;> decide
    have hrun : c.state ≠ .running := by rcases hstate with h | h | h <;> rw [h] <;> decide
    rw [FanChannel.gate_of_state_ne _ _ hspin hrun]
    rfl

/-- A channel that an update of the duty may have changed: its duty and preload alone. -/
def FanChannel.Updated (c d : FanChannel) : Prop := ∃ duty preload, d = { c with duty := duty, preload := preload }

theorem FanChannel.update_updated (c : FanChannel) (duty compare : Nat) : c.Updated (c.update duty compare) := by
  unfold FanChannel.update
  split
  · exact ⟨duty, compare, rfl⟩
  · exact ⟨c.duty, c.preload, rfl⟩

/-- The channels of a state at its gate end, steps 1 to 3. -/
def State.gatedFdu (s : State) : Fdu :=
  s.fdu.mapChannels (fun k c => if s.configuredFan k then c.gate s.cfg.pulses s.cfg.maxRpm else c)

/-- The gate end after its events: steps 1 to 3 done. -/
def State.gated (s : State) : State := (s.updFdu (fun _ => s.gatedFdu)).raiseAll (failedNow s.cfg.fanCount s.fdu s.gatedFdu)

/-- The fan update of a gate end. -/
def State.gateUpdated (s : State) : State := if s.gated.fdu.mode == .drive then s.gated.fanUpdate false else s.gated

theorem State.gateEnds_eq (s : State) : s.gateEnds =
    s.gateUpdated.evalOwnAirflow.updFdu (fun f => { f.mapChannels (fun _ c => c.openGate) with gate := some gateMs }) := rfl

theorem State.gateEnds_channel (s : State) {k : Nat} (hk : k < 6) :
    s.gateEnds.fdu.channel k = (s.gateUpdated.fdu.channel k).openGate := by
  have hchannel := s.gateUpdated.evalOwnAirflow.fdu.mapChannels_channel (fun _ c => c.openGate) (k := k) hk
  rw [State.gateEnds_eq]
  refine hchannel.trans ?_
  rw [State.evalOwnAirflow_fdu]
  rfl

theorem State.gated_channel (s : State) {k : Nat} (hk : k < 6) (hc : k < s.cfg.fanCount) :
    s.gated.fdu.channel k = (s.fdu.channel k).gate s.cfg.pulses s.cfg.maxRpm := by
  have hchannel : s.gatedFdu.channel k = _ := s.fdu.mapChannels_channel _ hk
  refine hchannel.trans (if_pos ?_)
  simpa [State.configuredFan] using hc

theorem State.fanUpdate_channel (s : State) {k : Nat} (hk : k < 6) :
    (s.fanUpdate false).fdu.channel k = (s.fdu.channel k).update (slew s.fdu.duty s.baseWanted)
      (s.fdu.compare (slew s.fdu.duty s.baseWanted)) := by
  have hchannel := s.fdu.mapChannels_channel (fun _ ch => ch.update (slew s.fdu.duty s.baseWanted)
    (s.fdu.compare (slew s.fdu.duty s.baseWanted))) (k := k) hk
  exact hchannel

theorem State.gateUpdated_channel (s : State) {k : Nat} (hk : k < 6) :
    (s.gated.fdu.channel k).Updated (s.gateUpdated.fdu.channel k) := by
  unfold State.gateUpdated
  split
  · rw [State.fanUpdate_channel _ hk]
    exact FanChannel.update_updated _ _ _
  · exact ⟨_, _, rfl⟩

theorem exec_gateEnd (s : State) :
    exec .gateEnd s = .next (if s.isFan && s.fdu.gate.running then s.newEvent.gateEnds else s) := rfl

theorem exec_gateEnd_of_fan (hrole : s.role = .fan) (hgate : s.fdu.gate ≠ none) :
    exec .gateEnd s = .next s.newEvent.gateEnds := by
  rw [exec_gateEnd, if_pos]
  simp [State.isFan, hrole, Timer.running, Option.isSome_iff_ne_none.mpr hgate]

/-- Settles O40: the gate end step by step, the update of the duty moving duty and preload alone. -/
theorem gateEndSettlesTheFans : Obligations.GateEndSettlesTheFans := by
  intro s
  refine ⟨fun hrole hgate => ⟨_, exec_gateEnd_of_fan hrole hgate, rfl, fun k hcount hk => ?_⟩, fun hno => ?_⟩
  · obtain ⟨duty, preload, hupdated⟩ := s.newEvent.gateUpdated_channel hk
    obtain ⟨hrpm, htach, hspinning, hruns, hjudged, hunjudged, hundriven⟩ :=
      (s.fdu.channel k).gate_gated s.cfg.pulses s.cfg.maxRpm
    have hgated : s.newEvent.gated.fdu.channel k = (s.fdu.channel k).gate s.cfg.pulses s.cfg.maxRpm :=
      State.gated_channel _ hk hcount
    have hchannel : s.newEvent.gateEnds.fdu.channel k =
        ({ (s.fdu.channel k).gate s.cfg.pulses s.cfg.maxRpm with duty := duty, preload := preload } : FanChannel).openGate := by
      rw [State.gateEnds_channel _ hk, hupdated, hgated]
    rw [hchannel]
    refine ⟨hrpm, htach, rfl, hspinning, fun hspin hlast hwhole => ?_, hjudged, hunjudged, hundriven⟩
    have hrunning := hruns hspin hlast hwhole
    exact ⟨hrunning, by simp [FanChannel.openGate, hrunning]⟩
  · rw [exec_gateEnd, if_neg]
    rcases hno with h | h
    · simp [State.isFan, h]
    · simp [Timer.running, h]

end Sys2Proof.Machine
end

section
/-! PROOFS. The fan update of a gate end (R138 to R140) and the presence of a fan (R134). -/

namespace Sys2Proof.Machine

variable {s : State}

/-! ## The zone demand and the boost (R138, R139) -/

theorem Entry.demandFor_of_blade {e : Entry} {p : BladePart} (h : e.part = .blade p) (zone : Nat) :
    e.demandFor zone = if e.state ≠ .vacant ∧ p.zone = zone then p.demand else 0 := by
  simp [Entry.demandFor, Entry.blade, h, Entry.isVacant]

/-- The demand of an entry is 0, or that of a blade of the zone that is LIVE or STALE. -/
theorem Entry.demandFor_cases (e : Entry) (zone : Nat) : e.demandFor zone = 0 ∨
    ∃ p, e.part = .blade p ∧ (e.state = .live ∨ e.state = .stale) ∧ p.zone = zone ∧ p.demand = e.demandFor zone := by
  cases hpart : e.part with
  | blade p =>
    rw [Entry.demandFor_of_blade hpart]
    split
    · rename_i h
      refine .inr ⟨p, rfl, ?_, h.2, rfl⟩
      cases hstate : e.state with
      | vacant => exact absurd hstate h.1
      | live => exact .inl rfl
      | stale => exact .inr rfl
    · exact .inl rfl
  | unknown | fan | supply | uplink => left; simp [Entry.demandFor, Entry.blade, hpart]

theorem Census.max?_demands (c : Census) (zone : Nat) :
    (0 :: c.entries.map (fun e => e.demandFor zone)).max? = some (c.zoneDemand zone) := List.max?_cons'

theorem Census.demandFor_le_zoneDemand {c : Census} {e : Entry} (he : e ∈ c.entries) (zone : Nat) :
    e.demandFor zone ≤ c.zoneDemand zone := by
  obtain ⟨-, hmax⟩ := List.max?_eq_some_iff.mp (c.max?_demands zone)
  exact hmax _ (List.mem_cons_of_mem 0 (List.mem_map_of_mem he))

theorem Census.zoneDemand_eq_zero_or (c : Census) (zone : Nat) :
    c.zoneDemand zone = 0 ∨ ∃ e ∈ c.entries, e.demandFor zone = c.zoneDemand zone := by
  obtain ⟨hmem, -⟩ := List.max?_eq_some_iff.mp (c.max?_demands zone)
  exact (List.mem_cons.mp hmem).imp_right List.mem_map.mp

/-- An entry of the census stands in it, or is the VACANT entry past its end. -/
theorem Census.get_mem_or_vacant (c : Census) (a : Addr) : c.get a ∈ c.entries ∨ c.get a = Entry.vacant := by
  rw [Census.get, List.getD_eq_getElem?_getD]
  cases h : c.entries[a.toNat]? with
  | none => exact .inr rfl
  | some e => exact .inl (List.mem_of_getElem? h)

theorem Entry.callsBoost_iff (e : Entry) (zone : Nat) : e.callsBoost zone = true ↔ ∃ p, e.part = .fan p ∧ p.zone = zone ∧
    ((e.state = .live ∧ (p.airflow = .degraded ∨ p.airflow = .lost)) ∨ e.state = .stale) := by
  cases hpart : e.part with
  | fan p =>
    have hfull : p.airflow ≠ .full ↔ p.airflow = .degraded ∨ p.airflow = .lost := by cases p.airflow <;> simp
    simp [Entry.callsBoost, Entry.fan, hpart, Entry.isLive, Entry.isStale, hfull]
  | unknown | blade | supply | uplink => simp [Entry.callsBoost, Entry.fan, hpart]

theorem State.fansDown_pos_iff (s : State) : 0 < s.fansDown ↔ ∃ k, k < s.cfg.fanCount ∧
    ((s.fdu.channel k).state = .failed ∨ (s.fdu.channel k).state = .absent) := by
  simp [State.fansDown, List.length_pos_iff_exists_mem]

theorem State.boost_iff (s : State) : s.boost = true ↔
    (∃ k, k < s.cfg.fanCount ∧ ((s.fdu.channel k).state = .failed ∨ (s.fdu.channel k).state = .absent)) ∨
    ∃ a p, a ≠ s.addr ∧ (s.entry a).part = .fan p ∧ p.zone = s.cfg.zone ∧
      (((s.entry a).state = .live ∧ (p.airflow = .degraded ∨ p.airflow = .lost)) ∨ (s.entry a).state = .stale) := by
  rw [State.boost, Bool.or_eq_true, decide_eq_true_eq, s.fansDown_pos_iff]
  simp only [List.any_eq_true, Bool.and_eq_true, bne_iff_ne, Entry.callsBoost_iff]
  constructor
  · rintro (h | ⟨a, -, ha, p, hp⟩)
    · exact .inl h
    · exact .inr ⟨a, p, ha, hp⟩
  · rintro (h | ⟨a, p, ha, hp⟩)
    · exact .inl h
    · exact .inr ⟨a, mem_allAddrs a, ha, p, hp⟩

/-! ## The update at a gate end -/

theorem Fdu.channel_of_le {f : Fdu} {k : Nat} (h : f.channels.length ≤ k) : f.channel k = .reset := by
  rw [Fdu.channel, List.getD_eq_getElem?_getD, List.getElem?_eq_none h]
  rfl

theorem State.gateUpdated_of_drive (hmode : s.fdu.mode = .drive) : s.gateUpdated = s.gated.fanUpdate false :=
  if_pos (beq_iff_eq.mpr hmode)

/-- Steps 1 to 3 of a gate end decide the states of the channels. -/
theorem State.gateEnds_state (s : State) (k : Nat) : (s.gateEnds.fdu.channel k).state = (s.gated.fdu.channel k).state := by
  by_cases hk : k < 6
  · obtain ⟨duty, preload, hupdated⟩ := s.gateUpdated_channel hk
    rw [s.gateEnds_channel hk, hupdated]
    rfl
  · have hafter : s.gateEnds.fdu.channels.length ≤ k := by
      have hlen : s.gateEnds.fdu.channels.length = Config.fans := Fdu.mapChannels_length _ _
      rw [hlen]
      exact Nat.not_lt.mp hk
    have hbefore : s.gated.fdu.channels.length ≤ k := by
      have hlen : s.gated.fdu.channels.length = Config.fans := Fdu.mapChannels_length _ _
      rw [hlen]
      exact Nat.not_lt.mp hk
    rw [Fdu.channel_of_le hafter, Fdu.channel_of_le hbefore]

theorem State.gateEnds_zoneDemand (hmode : s.fdu.mode = .drive) :
    s.gateEnds.fdu.zoneDemand = s.cen.zoneDemand s.cfg.zone := by
  have heval : s.gateEnds.fdu.zoneDemand = s.gateUpdated.evalOwnAirflow.fdu.zoneDemand := rfl
  rw [heval, State.evalOwnAirflow_fdu, State.gateUpdated_of_drive hmode]
  rfl

/-- The boost, base, duty and saturation of a gate end under the drive condition. -/
theorem State.gateEnds_drive (hmode : s.fdu.mode = .drive) :
    s.gateEnds.fdu.boost = s.gated.boost ∧ s.gateEnds.fdu.base = s.gated.baseWanted ∧
      s.gateEnds.fdu.duty = slew s.fdu.duty s.gated.baseWanted ∧
      s.gateEnds.fdu.saturation = saturationAfter s.fdu.saturation s.gateEnds.fdu.duty := by
  have hfdu : ∀ {α : Type} (field : Fdu → α), (∀ f v, field { f with airflow := v } = field f) →
      field s.gateUpdated.evalOwnAirflow.fdu = field (s.gated.fanUpdate false).fdu := fun field hfield => by
    rw [State.evalOwnAirflow_fdu, hfield, State.gateUpdated_of_drive hmode]
  exact ⟨hfdu Fdu.boost fun _ _ => rfl, hfdu Fdu.base fun _ _ => rfl, hfdu Fdu.duty fun _ _ => rfl,
    (hfdu Fdu.saturation fun _ _ => rfl).trans (congrArg (saturationAfter s.fdu.saturation) (hfdu Fdu.duty fun _ _ => rfl).symm)⟩

theorem State.gateEnds_driven (hmode : s.fdu.mode = .drive) {k : Nat} (hk : k < 6)
    (hdriven : (s.gateEnds.fdu.channel k).state.driven = true) :
    (s.gateEnds.fdu.channel k).duty = s.gateEnds.fdu.duty ∧
      (s.gateEnds.fdu.channel k).preload = s.gateEnds.fdu.duty * (s.fdu.top + 1) / 1000 := by
  rw [s.gateEnds_state] at hdriven
  rw [s.gateEnds_channel hk, State.gateUpdated_of_drive hmode, State.fanUpdate_channel _ hk, FanChannel.update, if_pos hdriven,
    (State.gateEnds_drive hmode).2.2.1]
  exact ⟨rfl, rfl⟩

/-- Settles O41: the update at the gate end reads the census and the channels as judged. -/
theorem fanUpdateFollowsTheZone : Obligations.FanUpdateFollowsTheZone := by
  intro s hrole hgate hmode
  have hdemand : s.newEvent.gateEnds.fdu.zoneDemand = s.cen.zoneDemand s.cfg.zone := State.gateEnds_zoneDemand hmode
  obtain ⟨hboost, hbase, hduty, hsaturation⟩ := State.gateEnds_drive (s := s.newEvent) hmode
  refine ⟨_, exec_gateEnd_of_fan hrole hgate, fun a p hpart hstate hzone => ?_, ?_, ?_, ?_, hduty.trans ?_,
    fun k hk hdriven => State.gateEnds_driven (s := s.newEvent) hmode hk hdriven, ?_⟩
  · rw [hdemand]
    have hmem : s.entry a ∈ s.cen.entries := (s.cen.get_mem_or_vacant a).resolve_right fun h => by
      rw [State.entry, h] at hpart; cases hpart
    have hle := Census.demandFor_le_zoneDemand hmem s.cfg.zone
    rw [Entry.demandFor_of_blade hpart, if_pos ⟨by rcases hstate with h | h <;> rw [h] <;> decide, hzone⟩] at hle
    exact hle
  · rw [hdemand]
    rcases s.cen.zoneDemand_eq_zero_or s.cfg.zone with hzero | ⟨e, he, heq⟩
    · exact .inl hzero
    · exact (e.demandFor_cases s.cfg.zone).imp (heq.symm.trans ·) fun ⟨p, hpart, hstate, hzone, hp⟩ =>
        ⟨e, p, he, hpart, hstate, hzone, hp.trans heq⟩
  · rw [hboost, State.boost_iff]
    simp only [State.gateEnds_state]
    rfl
  · rw [hbase, hdemand, hboost]
    rfl
  · rw [hbase]
    rfl
  · rw [hsaturation, saturationAfter]
    simp only [beq_iff_eq]
    rfl

/-! ## Presence (R134) -/

theorem exec_fanPresentChange (k : Nat) (present : Bool) (s : State) : exec (.fanPresentChange k present) s = .next
    (if s.isFan && decide (k < Config.fans) then
      (s.newEvent.debounce (k + 2) lineSamples present).presenceTaken k (s.input (k + 2)).state else s) := rfl

theorem exec_fanPresentChange_of_fan {k : Nat} (present : Bool) (hrole : s.role = .fan) (hk : k < 6) :
    exec (.fanPresentChange k present) s = .next
      ((s.newEvent.debounce (k + 2) lineSamples present).presenceTaken k (s.input (k + 2)).state) := by
  rw [exec_fanPresentChange, if_pos]
  simp [State.isFan, hrole, Config.fans, hk]

theorem State.evalOwnAirflow_channel (s : State) (k : Nat) : s.evalOwnAirflow.fdu.channel k = s.fdu.channel k := by
  rw [State.evalOwnAirflow_fdu]
  rfl

theorem State.insertFan_channel_other (s : State) {j k : Nat} (h : j ≠ k) :
    (s.insertFan k).fdu.channel j = s.fdu.channel j := by
  unfold State.insertFan
  split <;> exact Fdu.updChannel_other _ _ h

section
variable {k : Nat}

theorem State.insertFan_drive (h : s.fdu.mode = .drive) (hk : k < s.fdu.channels.length) : (s.insertFan k).fdu.channel k =
    { (s.fdu.channel k).spinUp s.fdu.duty with preload := s.fdu.compare s.fdu.duty } := by
  rw [State.insertFan, h]
  exact Fdu.updChannel_self _ hk

theorem State.insertFan_mute (h : s.fdu.mode = .mute) (hk : k < s.fdu.channels.length) : (s.insertFan k).fdu.channel k =
    ((s.fdu.channel k).spinUp s.fdu.duty).drive s.fdu.duty (s.fdu.top + 1) := by
  rw [State.insertFan, h]
  exact Fdu.updChannel_self _ hk

theorem State.insertFan_idle (h : s.fdu.mode = .none ∨ s.fdu.mode = .retained) (hk : k < s.fdu.channels.length) :
    (s.insertFan k).fdu.channel k = { s.fdu.channel k with state := .idle } := by
  rw [State.insertFan]
  rcases h with h | h <;> rw [h] <;> exact Fdu.updChannel_self _ hk

end

/-- A presence leaves every other channel as it is. -/
theorem State.presence_channel_other (s : State) {j k : Nat} (h : j ≠ k) (present edge : Bool) :
    (s.presence k present edge).fdu.channel j = s.fdu.channel j := by
  unfold State.presence
  dsimp only
  split
  · rw [State.evalOwnAirflow_channel, State.raiseIf_fdu, State.insertFan_channel_other _ h]
  · split
    · rw [State.evalOwnAirflow_channel, State.raiseIf_fdu]
      exact Fdu.updChannel_other _ _ h
    · rfl

theorem State.presence_removes {k : Nat} (edge : Bool) (h : (s.fdu.channel k).state ≠ .absent) (hk : k < s.fdu.channels.length) :
    (s.presence k false edge).fdu.channel k = (s.fdu.channel k).remove := by
  have heq : s.presence k false edge =
      ((s.updFdu (fun f => f.updChannel k FanChannel.remove)).raiseIf edge (.fanRemoved k)).evalOwnAirflow := by
    simp [State.presence, h]
  rw [heq, State.evalOwnAirflow_channel, State.raiseIf_fdu]
  exact Fdu.updChannel_self _ hk

theorem State.presence_inserts {k : Nat} (edge : Bool) (h : (s.fdu.channel k).state = .absent) :
    (s.presence k true edge).fdu.channel k = (s.insertFan k).fdu.channel k := by
  have heq : s.presence k true edge = ((s.insertFan k).raiseIf edge (.fanInserted k)).evalOwnAirflow := by
    simp [State.presence, h]
  rw [heq, State.evalOwnAirflow_channel, State.raiseIf_fdu]

theorem StationState.running_of_ne {x : StationState} (hstart : x ≠ .start) (hsetup : x ≠ .setup) : x.running = true := by
  cases x with
  | start => exact absurd rfl hstart
  | setup => exact absurd rfl hsetup
  | parked | listen | joined | leaving | mute => rfl

/-- A change of the input of a configured channel reaches its presence. -/
theorem State.presenceTaken_of_change {k : Nat} {was : Debounced} (hstart : s.station ≠ .start) (hsetup : s.station ≠ .setup)
    (hk : k < s.cfg.fanCount) (hchange : (s.input (k + 2)).state ≠ was) :
    s.presenceTaken k was = s.presence k (s.fanPresent k) (was != .unsettled) := by
  rw [State.presenceTaken, if_pos]
  simp [StationState.running_of_ne hstart hsetup, State.configuredFan, hk, hchange]

/-- Settles O42: the input settles, and the presence clears or fills the one channel. -/
theorem fanPresenceFollowsTheInput : Obligations.FanPresenceFollowsTheInput := by
  intro s k hs hrole hstart hsetup hcount hk
  have hpin : k + 2 < s.newEvent.lnu.inputs.length := hs.input_lt (by omega)
  have hchannels : k < s.fdu.channels.length := hs.channel_lt hk
  have hstate : ∀ level, ((s.newEvent.debounce (k + 2) lineSamples level).input (k + 2)).state = if level then .yes else .no :=
    fun level => State.debounce_state level (by decide) hpin
  have hpresent : ∀ level, (s.newEvent.debounce (k + 2) lineSamples level).fanPresent k = level := fun level => by
    rw [State.fanPresent, Input.isYes, hstate level]
    cases level <;> rfl
  have htaken : ∀ level was, ((if level then Debounced.yes else .no) ≠ was) →
      (s.newEvent.debounce (k + 2) lineSamples level).presenceTaken k was =
        (s.newEvent.debounce (k + 2) lineSamples level).presence k level (was != .unsettled) := fun level was hne => by
    rw [State.presenceTaken_of_change (s := s.newEvent.debounce (k + 2) lineSamples level) hstart hsetup hcount (by rw [hstate level]; exact hne), hpresent level]
  refine ⟨fun hwas habsent => ⟨_, exec_fanPresentChange_of_fan false hrole hk, ?_⟩,
    fun hwas habsent => ⟨_, exec_fanPresentChange_of_fan true hrole hk, ?_⟩,
    fun present => ⟨_, exec_fanPresentChange_of_fan present hrole hk, fun j hj => ?_⟩⟩
  · rw [hwas, htaken false .yes (by decide)]
    have hremoved : ((s.newEvent.debounce (k + 2) lineSamples false).presence k false (Debounced.yes != .unsettled)).fdu.channel k =
        (s.fdu.channel k).remove := State.presence_removes _ habsent hchannels
    rw [hremoved]
    exact ⟨rfl, rfl, rfl, rfl, rfl, rfl, rfl⟩
  · rw [hwas, htaken true .no (by decide)]
    have hinserted : ((s.newEvent.debounce (k + 2) lineSamples true).presence k true (Debounced.no != .unsettled)).fdu.channel k =
        ((s.newEvent.debounce (k + 2) lineSamples true).insertFan k).fdu.channel k := State.presence_inserts _ habsent
    rw [hinserted]
    refine ⟨fun hmode => ?_, fun hmode => ?_, fun hmode => ?_⟩
    · rw [State.insertFan_drive (s := s.newEvent.debounce (k + 2) lineSamples true) hmode hchannels]
      exact ⟨rfl, rfl, rfl, rfl, rfl, rfl⟩
    · rw [State.insertFan_mute (s := s.newEvent.debounce (k + 2) lineSamples true) hmode hchannels]
      exact ⟨rfl, rfl, rfl, rfl, rfl, rfl⟩
    · exact State.insertFan_idle (s := s.newEvent.debounce (k + 2) lineSamples true) hmode hchannels
  · rw [State.presenceTaken]
    split
    · exact State.presence_channel_other _ hj _ _
    · rfl

end Sys2Proof.Machine
end

section
/-! PROOFS. The ramp and its timers (R101 to R103), and the start of a frame (R2, R6 to R8). -/

namespace Sys2Proof.Machine

variable {s : State}

/-! ## The ramp -/

theorem exec_staggerExpiry (s : State) : exec .staggerExpiry s =
    .next (if s.rsq.state == .stagger && s.rsq.stagger.running then s.enterRamp 0 else s) := rfl
theorem exec_stepOneShotExpiry (s : State) : exec .stepOneShotExpiry s =
    .next (if s.rsq.oneShot.running then s.endOneShot else s) := rfl
theorem exec_pgFoundGood (k : Nat) (s : State) : exec (.pgFoundGood k) s =
    .next (if s.isBlade && decide (k < 3) then (s.debounce (k + 2) pgSamples true).pgGoodTaken k else s) := rfl

theorem Timer.running_iff (x : Timer) : x.running = true ↔ x ≠ none := by
  cases x <;> simp [Timer.running]

theorem Timer.running_of_none {x : Timer} (h : x = none) : x.running = false := by rw [h]; rfl

theorem State.isBlade_iff (s : State) : s.isBlade = true ↔ s.role = .blade := by simp [State.isBlade]
theorem State.isFan_iff (s : State) : s.isFan = true ↔ s.role = .fan := by simp [State.isFan]
theorem State.isSupply_iff (s : State) : s.isSupply = true ↔ s.role = .supply := by simp [State.isSupply]
theorem State.isUplink_iff (s : State) : s.isUplink = true ↔ s.role = .uplink := by simp [State.isUplink]

theorem State.passOn_of_lt (s : State) {k : Nat} (hk : k < 2) :
    s.passOn k = { s with rsq := s.rsq.ramping s.cfg (k + 1) } := by
  rw [State.passOn, if_pos hk]
  rfl

theorem State.passOn_last (s : State) : s.passOn 2 = { s with rsq := s.rsq.nowOn, lpt := s.lpt.push .railsOn } := rfl

theorem State.endOneShot_of_ramp {k : Nat} (h : s.rsq.state = .ramp k) :
    s.endOneShot = if s.pgGood k then s.passOn k else s.startPgTimeout k := by
  unfold State.endOneShot
  rw [h]

theorem exec_stepOneShotExpiry_of_ramp {k : Nat} (h : s.rsq.state = .ramp k) (ht : s.rsq.oneShot ≠ none) :
    exec .stepOneShotExpiry s = .next (if s.pgGood k then s.passOn k else s.startPgTimeout k) := by
  rw [exec_stepOneShotExpiry, if_pos ((Timer.running_iff _).mpr ht), State.endOneShot_of_ramp h]

theorem State.pgGoodTaken_of_waiting {k : Nat} (h : s.rsq.state = .ramp k) (ht : s.rsq.pgTimeout ≠ none) :
    s.pgGoodTaken k = s.passOn k := by
  simp [State.pgGoodTaken, h, (Timer.running_iff _).mpr ht]

theorem State.pgGoodTaken_of_idle {k : Nat} (h : s.rsq.state ≠ .ramp k ∨ s.rsq.pgTimeout = none) : s.pgGoodTaken k = s := by
  rcases h with h | h
  · simp [State.pgGoodTaken, h]
  · simp [State.pgGoodTaken, Timer.running_of_none h]

/-- What a power-good return does past its input is what the sequencer makes of it. -/
theorem State.pgGoodTaken_cases (s : State) (k : Nat) :
    ∃ r l, s.pgGoodTaken k = { s with rsq := r, lpt := l } := by
  unfold State.pgGoodTaken State.passOn
  split
  · split
    · exact ⟨_, _, rfl⟩
    · exact ⟨_, _, rfl⟩
  · exact ⟨_, _, rfl⟩

theorem State.debounce_pgGood (hs : s.shaped) {k : Nat} (hk : k < 3) (level : Bool) :
    (s.debounce (k + 2) pgSamples level).pgGood k = level := by
  rw [State.pgGood, Input.isYes, State.debounce_state level (by decide) (hs.input_lt (by omega))]
  cases level <;> rfl

/-- Settles O29: each end of a timer, and a power-good return, meets the sequencer in its step or leaves it. -/
theorem rampTakesTheRailsUp : Obligations.RampTakesTheRailsUp := by
  intro s
  refine ⟨fun h ht => ?stagger, fun h => ?noStagger, fun k h ht => ⟨fun hg => ?bad, fun hg hk => ?next, fun hg hk => ?last⟩,
    fun h => ?noShot, fun k hs hr hk => ?good⟩
  case stagger =>
    rw [exec_staggerExpiry, h, (Timer.running_iff _).mpr ht]
    rfl
  case noStagger =>
    rw [exec_staggerExpiry, if_neg]
    rw [Bool.and_eq_true, beq_iff_eq, Timer.running_iff]
    exact not_and_of_not_or_not (h.imp_right fun hnone hne => hne hnone)
  case bad =>
    rw [exec_stepOneShotExpiry_of_ramp h ht, if_neg (by simp [hg])]
    rfl
  case next => rw [exec_stepOneShotExpiry_of_ramp h ht, if_pos hg, s.passOn_of_lt hk]
  case last =>
    subst hk
    rw [exec_stepOneShotExpiry_of_ramp h ht, if_pos hg, s.passOn_last]
  case noShot => rw [exec_stepOneShotExpiry, Timer.running_of_none h]; rfl
  case good =>
    have hcond : (s.isBlade && decide (k < 3)) = true := by simp [hk, hr, State.isBlade]
    have hgood : (s.debounce (k + 2) pgSamples true).pgGood k = true := State.debounce_pgGood hs hk true
    refine ⟨_, by rw [exec_pgFoundGood, if_pos hcond], ?_, fun h ht hk => ?_, fun h ht hk => ?_, fun h => ?_, ?_⟩
    · obtain ⟨r, l, he⟩ := (s.debounce (k + 2) pgSamples true).pgGoodTaken_cases k
      rw [he]
      exact hgood
    · rw [State.pgGoodTaken_of_waiting (s := s.debounce (k + 2) pgSamples true) h ht, State.passOn_of_lt _ hk]
      exact ⟨rfl, rfl⟩
    · subst hk
      rw [State.pgGoodTaken_of_waiting (s := s.debounce 4 pgSamples true) h ht, State.passOn_last]
      exact ⟨rfl, rfl⟩
    · rw [State.pgGoodTaken_of_idle (s := s.debounce (k + 2) pgSamples true) h]
      exact ⟨rfl, rfl⟩
    · obtain ⟨r, l, he⟩ := (s.debounce (k + 2) pgSamples true).pgGoodTaken_cases k
      rw [he]
      exact ⟨rfl, rfl, rfl, rfl⟩

/-! ## Synchronisation and the start of a frame -/

theorem exec_lineSynchronised (s : State) : exec .lineSynchronised s = .next s.synchronise := rfl
theorem exec_frameStart (line : List Bool) (s : State) : exec (.frameStart line) s = .next (s.startFrame line) := rfl

theorem StationState.followsLine_iff (x : StationState) : x.followsLine = true ↔ x ≠ .start ∧ x ≠ .setup := by
  cases x <;> simp [StationState.followsLine, StationState.running]

/-- A transmission whose read bits all agree is clean, as far as they go. -/
theorem readBack_of_prefix {line driven : List Bool} (h : line <+: driven) : ∀ key, readBack key driven line = .clean := by
  obtain ⟨rest, rfl⟩ := h
  induction line with
  | nil => intro key; cases rest <;> rfl
  | cons b line ih =>
    intro key
    simp only [List.cons_append, readBack, beq_self_eq_true, if_true]
    exact ih _

/-- Bits that agree are read past; each one read in the key leaves one key bit less. -/
theorem readBack_append (pre ds rs : List Bool) : ∀ key,
    readBack key (pre ++ ds) (pre ++ rs) = readBack (key - pre.length) ds rs := by
  induction pre with
  | nil => intro key; rfl
  | cons b pre ih =>
    intro key
    simp only [List.cons_append, readBack, beq_self_eq_true, if_true, List.length_cons]
    rw [ih, Nat.sub_sub, Nat.add_comm 1]

theorem readBack_of_difference {d r : Bool} (h : d ≠ r) (key : Nat) (ds rs : List Bool) :
    readBack key (d :: ds) (r :: rs) = if decide (0 < key) && d then .lost else .bitError := by
  simp [readBack, h]

section

variable {i : SlotId} {f : QueuedFrame} {line : List Bool} (h : s.offered = some (i, f))

include h

theorem State.startFrame_of_clean (hr : readBack 8 (drivenBits s.addr (buildPayload s f.contents)) line = .clean) :
    s.startFrame line = s.putOnLine i (buildPayload s f.contents) false := by
  simp [State.startFrame, h, hr]

theorem State.startFrame_of_lost (hr : readBack 8 (drivenBits s.addr (buildPayload s f.contents)) line = .lost) :
    s.startFrame line = s.loseArbitration i f := by
  simp [State.startFrame, h, hr]

theorem State.startFrame_of_bitError (hr : readBack 8 (drivenBits s.addr (buildPayload s f.contents)) line = .bitError) :
    s.startFrame line = s.putOnLine i (buildPayload s f.contents) true := by
  simp [State.startFrame, h, hr]

end

/-- Settles O49: the outcome of a frame's start is decided at the first bit that differs. -/
theorem synchronisationAndFrameStart : Obligations.SynchronisationAndFrameStart := by
  intro s line
  refine ⟨fun h => ?still, fun h h' => ?synced, fun h => ?none, fun i f h => ?some⟩
  case still =>
    have hline : s.station.followsLine = false := by rcases h with h | h <;> rw [h] <;> rfl
    rw [exec_lineSynchronised, State.synchronise, hline]
    rfl
  case synced =>
    rw [exec_lineSynchronised, State.synchronise, if_pos ((StationState.followsLine_iff _).mpr ⟨h, h'⟩)]
    rfl
  case none => rw [exec_frameStart, State.startFrame, h]
  case some =>
    intro driven
    refine ⟨fun hpre => ?_, fun pre d r ds rs hd hl hne => ?_⟩
    · rw [exec_frameStart, State.startFrame_of_clean h (readBack_of_prefix hpre _)]
      rfl
    · have hread : readBack 8 driven line = if decide (0 < 8 - pre.length) && d then .lost else .bitError := by
        rw [hd, hl, readBack_append, readBack_of_difference hne]
      refine ⟨fun hkey hdom => ?_, fun hkey => ?_⟩
      · have hlost : (decide (0 < 8 - pre.length) && d) = true := by simp [hdom]; omega
        rw [if_pos hlost] at hread
        refine ⟨fun hf => ?_, fun q hf => ?_⟩
        · rw [exec_frameStart, State.startFrame_of_lost h hread]
          simp only [State.loseArbitration, hf]
        · rw [exec_frameStart, State.startFrame_of_lost h hread]
          simp only [State.loseArbitration, hf]
          rfl
      · have herror : ¬ (decide (0 < 8 - pre.length) && d) = true := by
          rcases hkey with hkey | hrec
          · simp; omega
          · simp [hrec]
        rw [if_neg herror] at hread
        rw [exec_frameStart, State.startFrame_of_bitError h hread]
        rfl

end Sys2Proof.Machine
end

section
/-! PROOFS. Sweeps of the Measurement Unit and the Supply Monitor (R114 to R116, R150 to R161). -/

namespace Sys2Proof.Machine

variable {s : State}

/-! ## Sweeps (R114 to R116) -/

theorem exec_sweepIntervalExpiry (s : State) :
    exec .sweepIntervalExpiry s = .next (if s.msu.interval.running then s.startSweep else s) := rfl

theorem State.startSweep_of_cons {ch : Nat} {rest : List Nat} (h : s.enabledChannels = ch :: rest) :
    s.startSweep = { s with msu := { s.msu with sweep := some ch, interval := none } } := by
  simp [State.startSweep, h]

theorem State.startSweep_of_nil (h : s.enabledChannels = []) :
    s.startSweep = { s with msu := { s.msu with sweep := none, interval := some s.cfg.sweepInterval } } := by
  simp [State.startSweep, h]

theorem State.requestSweep_of_some {ch : Nat} (h : s.msu.sweep = some ch) :
    s.requestSweep = { s with msu := { s.msu with request := true } } := by
  simp [State.requestSweep, h]

theorem State.requestSweep_of_none (h : s.msu.sweep = none) : s.requestSweep = s.startSweep := by
  simp [State.requestSweep, h]

theorem State.startSweep_sweep (s : State) :
    s.startSweep.msu.sweep = s.enabledChannels.head? ∧ s.startSweep.msu.request = s.msu.request := by
  unfold State.startSweep
  split
  · exact ⟨by simp [*], rfl⟩
  · exact ⟨by simp [*], rfl⟩

/-- The state of a completion once the record is settled and the blade has read it. -/
def State.recorded (s : State) (ch raw : Nat) : State := (s.newEvent.completeChannel ch raw).bladeReads s

theorem State.recorded_msu (s : State) (ch raw : Nat) : (s.recorded ch raw).msu =
    { s.msu with channels := s.msu.channels.set ch ((s.channel ch).complete s.cfg ch raw) } :=
  State.bladeReads_msu _ s

theorem State.followCritical_life (s : State) (before : Nat) : (s.followCritical before).life = s.life := by
  unfold State.followCritical
  dsimp only
  split
  · rfl
  · split <;> rfl

theorem State.bladeReads_cfg (s before : State) : (s.bladeReads before).cfg = s.cfg := by
  unfold State.bladeReads
  split
  · have hreact := congrArg (fun k : Still => k.life.config)
      ((s.followCritical before.criticalDemand).react_still s.cen .none before)
    exact hreact.trans (congrArg Life.config (s.followCritical_life _))
  · rfl

theorem State.recorded_cfg (s : State) (ch raw : Nat) : (s.recorded ch raw).cfg = s.cfg := State.bladeReads_cfg _ s

theorem State.enabledChannels_congr {t : State} (h : t.cfg = s.cfg) : t.enabledChannels = s.enabledChannels := by
  simp only [State.enabledChannels, h]

theorem State.nextChannel_congr {t : State} (h : t.cfg = s.cfg) (ch : Nat) : t.nextChannel ch = s.nextChannel ch := by
  simp only [State.nextChannel, State.enabledChannels_congr h]

theorem State.goOn_of_next {ch k : Nat} (h : s.nextChannel ch = some k) :
    s.goOn ch = { s with msu := { s.msu with sweep := some k } } := by
  simp [State.goOn, h]

theorem State.goOn_of_last {ch : Nat} (h : s.nextChannel ch = none) : s.goOn ch = s.sweepNotice.endSweep := by
  simp [State.goOn, h]

theorem State.sweepNotice_cfg (s : State) : s.sweepNotice.cfg = s.cfg := by
  unfold State.sweepNotice
  split
  · have hfixed := s.measureOutput.evalSupply_fixed.trans s.measureOutput_fixed
    exact congrArg (fun k : Fixed => k.life.config) hfixed
  · rfl

section

variable {raw : Nat} {ch : Nat} (hsweep : s.msu.sweep = some ch)

include hsweep

theorem State.completion_of_next {k : Nat} (hnext : s.nextChannel ch = some k) :
    (s.completion raw).msu.sweep = some k ∧ (s.completion raw).msu.request = s.msu.request := by
  have hgo : (s.recorded ch raw).nextChannel ch = some k := by rw [State.nextChannel_congr (s.recorded_cfg ch raw), hnext]
  rw [State.completion_of_sweep hsweep, ← State.recorded, State.goOn_of_next hgo]
  have hrequest : (s.recorded ch raw).msu.request = s.msu.request := by rw [s.recorded_msu]
  exact ⟨rfl, hrequest⟩

theorem State.completion_of_last (hnext : s.nextChannel ch = none) :
    s.completion raw = (s.recorded ch raw).sweepNotice.endSweep := by
  have hgo : (s.recorded ch raw).nextChannel ch = none := by rw [State.nextChannel_congr (s.recorded_cfg ch raw), hnext]
  rw [State.completion_of_sweep hsweep, ← State.recorded, State.goOn_of_last hgo]

end

theorem State.recorded_notice_cfg (s : State) (ch raw : Nat) : (s.recorded ch raw).sweepNotice.cfg = s.cfg :=
  (State.sweepNotice_cfg _).trans (s.recorded_cfg ch raw)

theorem State.recorded_notice_request (s : State) (ch raw : Nat) :
    (s.recorded ch raw).sweepNotice.msu.request = s.msu.request := by
  rw [State.sweepNotice_msu, s.recorded_msu]

theorem State.endSweep_of_request (h : s.msu.request = true) :
    s.endSweep = State.startSweep { s with msu := { s.msu with request := false } } := by
  rw [State.endSweep, if_pos h]

theorem State.endSweep_of_idle (h : s.msu.request = false) :
    s.endSweep = { s with msu := { s.msu with sweep := none, interval := some s.cfg.sweepInterval } } := by
  simp [State.endSweep, h]

/-- Settles O37: each event of a sweep meets the lemma of its case. -/
theorem sweepsFollowOneAnother : Obligations.SweepsFollowOneAnother := by
  intro s
  refine ⟨fun h => ⟨fun ch rest hc => ?_, fun hc => ?_⟩, fun h => ?_, fun raw h => ?_, fun raw ch h => ?completion,
    fun hfree hset => ?now⟩
  · rw [exec_sweepIntervalExpiry, if_pos ((Timer.running_iff _).mpr h), State.startSweep_of_cons hc]
  · rw [exec_sweepIntervalExpiry, if_pos ((Timer.running_iff _).mpr h), State.startSweep_of_nil hc]
  · rw [exec_sweepIntervalExpiry, Timer.running_of_none h]
    rfl
  · rw [exec_conversionCompletion, State.completion, h]
  case completion =>
    refine ⟨_, exec_conversionCompletion raw s, fun k hk => State.completion_of_next h hk, fun hlast hreq => ?_,
      fun hlast hreq => ?_⟩
    · have hidle := (s.recorded_notice_request ch raw.toNat).trans hreq
      rw [State.completion_of_last h hlast, State.endSweep_of_idle hidle]
      exact ⟨rfl, congrArg (fun b : BootImage => some b.sweepInterval) (s.recorded_notice_cfg ch raw.toNat)⟩
    · have hasked := (s.recorded_notice_request ch raw.toNat).trans hreq
      rw [State.completion_of_last h hlast, State.endSweep_of_request hasked]
      obtain ⟨hsweep, hrequest⟩ := State.startSweep_sweep
        { (s.recorded ch raw.toNat).sweepNotice with
          msu := { (s.recorded ch raw.toNat).sweepNotice.msu with request := false } }
      exact ⟨hrequest, hsweep.trans (congrArg List.head?
        (State.enabledChannels_congr (s.recorded_notice_cfg ch raw.toNat)))⟩
  case now =>
    have hrun : s.station.running = true := by simp [StationState.running_of_portFree hfree.1, hset]
    have hexec : exec .sweepNow s = .next (s.requestSweep.respond .ok (noData s)) := by
      rw [exec_sweepNow, State.command_of_taken _ _ _ hfree hrun]
    refine ⟨fun ch h => ?_, fun ch rest h hc => ?_, fun h hc => ?_⟩
    · rw [hexec, State.requestSweep_of_some h]
      rfl
    · rw [hexec, State.requestSweep_of_none h, State.startSweep_of_cons hc]
      rfl
    · rw [hexec, State.requestSweep_of_none h, State.startSweep_of_nil hc, ← h]
      rfl

/-! ## The supply state (R154 to R160) -/

theorem exec_acWarnLatchSet (s : State) : exec .acWarnLatchSet s =
    .next (if s.isSupply then (if s.station == .start then s.setAcLatch else s.newEvent.setAcLatch.consumeAc) else s) := rfl
theorem exec_recoveryTimerExpiry (s : State) : exec .recoveryTimerExpiry s =
    .next (if s.spm.recovery.running && s.spm.activity == .running && s.spm.state == .failed then
      s.newEvent.recovered else s) := rfl

theorem State.setSupply_spm (s : State) (x : SupplyState) :
    (s.setSupply x).spm = { s.spm with state := x, capacity := s.capacityFor x } := by
  rw [State.setSupply, State.requestIf_spm, State.raiseIf_spm]
  rfl

theorem State.failSupply_spm (s : State) (cause : SupplyCause) : (s.failSupply cause).spm =
    { s.spm with state := .failed, qualification := 0, recovery := some 5000, capacity := 0, outEn := false } := by
  rw [State.failSupply, State.setSupply_spm]
  rfl

theorem State.restartRecovery_spm (s : State) (cause : SupplyCause) :
    (s.restartRecovery cause).spm = { s.spm with recovery := some 5000 } := rfl

section

variable (s)

theorem State.acWarning_of_failed (h : s.spm.activity = .running) (hf : s.spm.state = .failed) :
    s.acWarning = s.restartRecovery .acWarn := by
  simp [State.acWarning, h, hf]

theorem State.acWarning_of_running (h : s.spm.activity = .running) (hf : s.spm.state ≠ .failed) :
    s.acWarning = s.failSupply .acWarn := by
  cases hs : s.spm.state with
  | failed => exact absurd hs hf
  | offline | ok | derated => simp [State.acWarning, h, hs]

theorem State.acWarning_of_frozen (h : s.spm.activity = .frozen) :
    s.acWarning = s.updSpm (fun p => { p with outEn := false }) := by
  simp [State.acWarning, h]

theorem State.acWarning_of_inactive (h : s.spm.activity = .inactive) : s.acWarning = s := by
  simp [State.acWarning, h]

end

/-- The latch has been set and consumed, at the moment the Supply Monitor reads it. -/
def State.acTaken (s : State) : State :=
  { s.newEvent with lnu := { s.lnu with acLatch := false, acCopy := true } }

theorem exec_acWarnLatchSet_of_supply (hr : s.role = .supply) (h : s.station ≠ .start) :
    exec .acWarnLatchSet s = .next s.acTaken.acWarning := by
  rw [exec_acWarnLatchSet, if_pos ((State.isSupply_iff s).mpr hr), if_neg (by simpa using h)]
  rfl

/-- Settles O38: what an AC warning does turns on the activity of the Supply Monitor. -/
theorem acWarnFailsAndRecoveryRestores : Obligations.AcWarnFailsAndRecoveryRestores := by
  intro s hr
  refine ⟨fun h => ?start, fun h => ?warn, fun ht ha hf => ?recovers, fun ht => ?still⟩
  case start =>
    rw [exec_acWarnLatchSet, if_pos ((State.isSupply_iff s).mpr hr), h]
    rfl
  case warn =>
    refine ⟨_, exec_acWarnLatchSet_of_supply hr h, congrArg Fixed.lnu s.acTaken.acWarning_fixed, fun ha hf => ?_,
      fun ha hf => ?_, fun ha => ?_, fun ha => ?_⟩
    · rw [State.acWarning_of_running s.acTaken ha hf]
      exact State.failSupply_spm s.acTaken .acWarn
    · rw [State.acWarning_of_failed s.acTaken ha hf]
      rfl
    · rw [State.acWarning_of_frozen s.acTaken ha]
      exact ⟨rfl, rfl⟩
    · rw [State.acWarning_of_inactive s.acTaken ha]
      exact ⟨rfl, rfl⟩
  case recovers =>
    have hcond : (s.spm.recovery.running && s.spm.activity == .running && s.spm.state == .failed) = true := by
      simp [(Timer.running_iff _).mpr ht, ha, hf]
    refine ⟨_, by rw [exec_recoveryTimerExpiry, if_pos hcond], ?_⟩
    rw [State.recovered, State.setSupply_spm]
    rfl
  case still =>
    rw [exec_recoveryTimerExpiry, Timer.running_of_none ht]
    rfl

end Sys2Proof.Machine
end

section
/-! PROOFS. The end of a sweep of a supply (R152 to R154, R156 to R161). -/

namespace Sys2Proof.Machine

variable {s t : State}

/-! ## The conditions of a sweep-end (R152) -/

/-- Two states whose channels read alike under the same configuration. -/
structure State.ReadsAs (t s : State) : Prop where
  channels : t.msu.channels = s.msu.channels
  cfg : t.cfg = s.cfg

namespace State.ReadsAs

variable (h : t.ReadsAs s)

include h

theorem channel (ch : Nat) : t.channel ch = s.channel ch := by simp only [State.channel, Msu.channel, h.channels]

theorem channelTest (ch : Nat) (test : Int → Bool) : t.channelTest ch test = s.channelTest ch test := by
  simp only [State.channelTest, h.channel]

theorem outputOutOfWindow : t.outputOutOfWindow = s.outputOutOfWindow := by
  simp only [State.outputOutOfWindow, h.channelTest, h.cfg]

theorem outputInWindow : t.outputInWindow = s.outputInWindow := by
  simp only [State.outputInWindow, h.channelTest, h.cfg]

theorem inputLow : t.inputLow = s.inputLow := by simp only [State.inputLow, h.channelTest, h.cfg]
theorem inputGood : t.inputGood = s.inputGood := by simp only [State.inputGood, h.channelTest, h.cfg]
theorem temperature : t.temperature = s.temperature := by simp only [State.temperature, h.channel]

theorem qualifies : t.qualifies = s.qualifies := by
  simp only [State.qualifies, h.channel, h.outputInWindow, h.inputGood]

theorem capacityFor (x : SupplyState) : t.capacityFor x = s.capacityFor x := by
  cases x <;> simp only [State.capacityFor, h.cfg]

end State.ReadsAs

/-- A cause of failure of an output that is judged (R154). -/
def State.Faulty (s : State) : Prop := s.outputOutOfWindow = true ∨ s.inputLow = true ∨ s.temperature = .critical

theorem State.failureCause_of_faulty (h : s.Faulty) : ∃ cause, s.failureCause true = some cause := by
  unfold State.failureCause
  rcases h with h | h | h <;> simp only [h] <;> (repeat' split) <;> first | exact ⟨_, rfl⟩ | simp_all

theorem State.failureCause_of_sound (judge : Bool) (ho : s.outputOutOfWindow = false) (hi : s.inputLow = false)
    (ht : s.temperature ≠ .critical) : s.failureCause judge = none := by
  simp [State.failureCause, ho, hi, ht]

theorem State.failureCause_input (h : s.inputLow = true ∨ s.temperature = .critical) :
    ∃ cause, s.failureCause false = some cause := by
  unfold State.failureCause
  rcases h with h | h <;> simp only [h, Bool.false_and, Bool.false_eq_true, if_false, if_true]
  · exact ⟨_, rfl⟩
  · split <;> exact ⟨_, rfl⟩

theorem State.failureCause_none (hi : s.inputLow = false) (ht : s.temperature ≠ .critical) :
    s.failureCause false = none := by
  simp [State.failureCause, hi, ht]

/-! ## The evaluation of each state -/

theorem State.watchSupply_of_faulty (h : s.Faulty) : ∃ cause, s.watchSupply = s.failSupply cause := by
  obtain ⟨cause, hc⟩ := State.failureCause_of_faulty h
  exact ⟨cause, by simp [State.watchSupply, hc]⟩

section

variable (ho : s.outputOutOfWindow = false) (hi : s.inputLow = false) (ht : s.temperature ≠ .critical)

include ho hi ht

theorem State.watchSupply_derates (hx : s.spm.state = .ok) (hw : s.temperature = .warn) :
    s.watchSupply = s.setSupply .derated := by
  simp [State.watchSupply, State.failureCause_of_sound true ho hi ht, hx, hw]

theorem State.watchSupply_restores (hx : s.spm.state = .derated) (hw : s.temperature = .clear) :
    s.watchSupply = s.setSupply .ok := by
  simp [State.watchSupply, State.failureCause_of_sound true ho hi ht, hx, hw]

theorem State.watchSupply_stays
    (h : s.spm.state = .ok ∧ s.temperature = .clear ∨ s.spm.state = .derated ∧ s.temperature = .warn) :
    s.watchSupply = s := by
  rcases h with ⟨hx, hw⟩ | ⟨hx, hw⟩ <;>
    simp [State.watchSupply, State.failureCause_of_sound true ho hi ht, hx, hw]

end

theorem State.qualifySupply_of_faulty (h : s.inputLow = true ∨ s.temperature = .critical) :
    ∃ cause, s.qualifySupply = s.failSupply cause := by
  obtain ⟨cause, hc⟩ := State.failureCause_input h
  exact ⟨cause, by simp [State.qualifySupply, hc]⟩

section

variable (hi : s.inputLow = false) (ht : s.temperature ≠ .critical)

include hi ht

theorem State.qualifySupply_of_unfit (hq : s.qualifies = false) :
    s.qualifySupply = s.updSpm (fun p => { p with qualification := 0 }) := by
  simp [State.qualifySupply, State.failureCause_none hi ht, hq]

theorem State.qualifySupply_counts (hq : s.qualifies = true) (hn : s.spm.qualification < 2) :
    s.qualifySupply = s.updSpm (fun p => { p with qualification := p.qualification + 1 }) := by
  have hmore : ¬ 3 ≤ s.spm.qualification + 1 := by omega
  simp [State.qualifySupply, State.failureCause_none hi ht, hq, hmore]

theorem State.qualifySupply_passes (hq : s.qualifies = true) (hn : s.spm.qualification = 2) :
    s.qualifySupply = State.setSupply (s.updSpm (fun p => { p with qualification := 0 }))
      (if s.temperature = .warn then .derated else .ok) := by
  simp [State.qualifySupply, State.failureCause_none hi ht, hq, hn]

end

theorem State.recoverSupply_of_faulty (h : s.inputGood = false ∨ s.temperature = .critical) :
    ∃ cause, s.recoverSupply = s.restartRecovery cause := by
  unfold State.recoverSupply
  rcases h with h | h
  · exact ⟨.input, by simp [h]⟩
  · by_cases hg : s.inputGood = true
    · exact ⟨.temperature, by simp [hg, h]⟩
    · exact ⟨.input, by simp [hg]⟩

theorem State.recoverSupply_of_sound (h : ¬ (s.inputGood = false ∨ s.temperature = .critical)) : s.recoverSupply = s := by
  obtain ⟨hg, ht⟩ := not_or.mp h
  simp [State.recoverSupply, hg, ht]

/-- A supply FAILED waits on; its recovery timer restarts while a cause stands. -/
theorem State.recoverSupply_spm (s : State) : s.recoverSupply.spm =
    { s.spm with recovery := if s.inputGood = false ∨ s.temperature = .critical then some 5000 else s.spm.recovery } := by
  split
  · obtain ⟨cause, he⟩ := State.recoverSupply_of_faulty ‹_›
    rw [he, State.restartRecovery_spm]
  · rw [State.recoverSupply_of_sound ‹_›]

theorem State.watchOutput_eq (s : State) : s.watchOutput = { s with spm := { s.spm with
    outEn := s.spm.outEn && !(s.outputOutOfWindow || s.inputLow || s.temperature == .critical) } } := by
  unfold State.watchOutput
  cases h : s.outputOutOfWindow || s.inputLow || s.temperature == .critical
  · simp
  · simp [State.updSpm]

section

variable (s)

theorem State.evalSupply_of_offline (ha : s.spm.activity = .running) (hx : s.spm.state = .offline) :
    s.evalSupply = s.qualifySupply := by
  simp [State.evalSupply, ha, hx]

theorem State.evalSupply_of_sound (ha : s.spm.activity = .running) (hx : s.spm.state = .ok ∨ s.spm.state = .derated) :
    s.evalSupply = s.watchSupply := by
  rcases hx with hx | hx <;> simp [State.evalSupply, ha, hx]

theorem State.evalSupply_of_failed (ha : s.spm.activity = .running) (hx : s.spm.state = .failed) :
    s.evalSupply = s.recoverSupply := by
  simp [State.evalSupply, ha, hx]

theorem State.evalSupply_of_frozen (ha : s.spm.activity = .frozen) : s.evalSupply = s.watchOutput := by
  simp [State.evalSupply, ha]

theorem State.evalSupply_of_inactive (ha : s.spm.activity = .inactive) : s.evalSupply = s := by
  simp [State.evalSupply, ha]

end

theorem State.qualifySupply_output (s : State) : s.qualifySupply.spm.output = s.spm.output := by
  unfold State.qualifySupply
  split
  · rw [State.failSupply_spm]
  · split
    · split
      · rw [State.setSupply_spm]; rfl
      · rfl
    · rfl

theorem State.watchSupply_output (s : State) : s.watchSupply.spm.output = s.spm.output := by
  unfold State.watchSupply
  split
  · rw [State.failSupply_spm]
  · split
    · rw [State.setSupply_spm]
    · rw [State.setSupply_spm]
    · rfl

/-- No evaluation writes the measured output. -/
theorem State.evalSupply_output (s : State) : s.evalSupply.spm.output = s.spm.output := by
  unfold State.evalSupply
  split
  · exact s.qualifySupply_output
  · exact s.watchSupply_output
  · exact s.watchSupply_output
  · rw [State.recoverSupply_spm]
  · rw [State.watchOutput_eq]
  · rfl

/-! ## The end of the sweep -/

theorem State.endSweep_eq (s : State) : s.endSweep = { s with msu := s.endSweep.msu } := by
  unfold State.endSweep State.startSweep
  split
  · split <;> rfl
  · rfl

theorem State.recorded_of_supply (hr : s.role = .supply) (ch raw : Nat) :
    s.recorded ch raw = s.newEvent.completeChannel ch raw := by
  have hblade : ¬ (s.newEvent.completeChannel ch raw).isBlade = true := by
    rw [State.isBlade_iff]
    exact fun h => absurd (hr.symm.trans h) (by decide)
  rw [State.recorded, State.bladeReads, if_neg hblade]

/-- The state in which a supply is judged at the end of a sweep: the record settled and the output measured. -/
def State.measured (s : State) (ch raw : Nat) : State := (s.newEvent.completeChannel ch raw).measureOutput

theorem State.completion_of_supply (hr : s.role = .supply) {ch : Nat} (hsweep : s.msu.sweep = some ch)
    (hlast : s.nextChannel ch = none) (raw : Nat) : s.completion raw = (s.measured ch raw).evalSupply.endSweep := by
  have hnotice : (s.newEvent.completeChannel ch raw).isSupply = true := (State.isSupply_iff _).mpr hr
  rw [State.completion_of_last hsweep hlast, State.recorded_of_supply hr, State.sweepNotice, if_pos hnotice]
  rfl

theorem State.judged_readsAs (s : State) : s.evalSupply.endSweep.ReadsAs s where
  channels := by rw [State.endSweep_channels, State.msu_of_fixed s.evalSupply_fixed]
  cfg := by
    rw [State.endSweep_eq]
    exact congrArg (fun k : Fixed => k.life.config) s.evalSupply_fixed

theorem State.evalSupply_endSweep_spm (s : State) : s.evalSupply.endSweep.spm = s.evalSupply.spm := by
  rw [State.endSweep_eq]

theorem Census.get_upd_of_get (c : Census) (a : Addr) (f : Entry → Entry) :
    (c.upd a f).get a = f (c.get a) ∨ (c.upd a f).get a = c.get a := by
  by_cases h : a.toNat < c.entries.length
  · exact .inl (by simp [Census.upd, Census.get, List.getD_eq_getElem?_getD, h])
  · exact .inr (by simp [Census.upd, Census.get, List.getD_eq_getElem?_getD, h])

theorem Entry.updSupply_judged (e : Entry) (f : SupplyPart → SupplyPart)
    (hf : ∀ p, ((f p).state, (f p).capacity) = (p.state, p.capacity)) :
    (e.updSupply f).supply.map (fun p => (p.state, p.capacity)) = e.supply.map (fun p => (p.state, p.capacity)) := by
  unfold Entry.updSupply Entry.supply
  cases h : e.part with
  | supply p => exact congrArg some (hf p)
  | unknown | blade p | fan p | uplink p => simp only [h]

/-- The measured output leaves the state and the capacity of the self entry. -/
theorem State.measured_self (s : State) (ch raw : Nat) : (s.measured ch raw).self.supply.map (fun p => (p.state, p.capacity)) =
    s.self.supply.map (fun p => (p.state, p.capacity)) := by
  have hget := s.cen.get_upd_of_get s.addr
    (fun e => e.updSupply (fun p => { p with output := (s.newEvent.completeChannel ch raw).measuredNow }))
  rcases hget with hget | hget
  · refine (congrArg (fun e : Entry => e.supply.map (fun p => (p.state, p.capacity))) hget).trans ?_
    exact Entry.updSupply_judged (s.cen.get s.addr) _ fun _ => rfl
  · exact congrArg (fun e : Entry => e.supply.map (fun p => (p.state, p.capacity))) hget

/-- What the end of a sweep makes of a supply that is judged. -/
theorem State.measured_spm (s : State) (ch raw : Nat) :
    (s.measured ch raw).spm = { s.spm with output := (s.measured ch raw).measuredNow } := rfl

/-- Settles O39: the evaluation of each state of the Supply Monitor, on the channels as the sweep left them. -/
theorem sweepEndJudgesTheSupply : Obligations.SweepEndJudgesTheSupply := by
  intro raw s ch hr hsweep hlast
  refine ⟨_, exec_conversionCompletion raw s, ?_⟩
  rw [State.completion_of_supply hr hsweep hlast]
  generalize hu : s.measured ch raw.toNat = u
  have hreads := u.judged_readsAs
  have hspm : u.spm = { s.spm with output := u.measuredNow } := by rw [← hu, State.measured_spm]
  have hcfg : u.cfg = s.cfg := by rw [← hu]; rfl
  have hqueue : u.pbc.queue = s.pbc.queue := by rw [← hu]; rfl
  have hself := s.measured_self ch raw.toNat
  rw [hu] at hself
  have hact : u.spm.activity = s.spm.activity := by rw [hspm]
  have hstate : u.spm.state = s.spm.state := by rw [hspm]
  have hqual : u.spm.qualification = s.spm.qualification := by rw [hspm]
  have hcap : u.spm.capacity = s.spm.capacity := by rw [hspm]
  have hout : u.evalSupply.spm.output = u.measuredNow := by rw [State.evalSupply_output, hspm]
  simp only [hreads.channel, hreads.outputOutOfWindow, hreads.inputLow, hreads.inputGood, hreads.temperature,
    hreads.qualifies, State.evalSupply_endSweep_spm]
  rw [← hact, ← hstate, ← hqual, ← hcap, ← hcfg]
  refine ⟨fun v i hv hi => ?_, fun h => ?_, fun ha hx => ⟨fun h => ?_, fun ho hi ht => ⟨fun hx hw => ?_, fun hx hw => ?_, fun h => ?_⟩⟩,
    fun ha hx hi ht => ⟨fun hq => ?_, fun hq hn => ?_, fun hq hn hw => ?_, fun hq hn hw => ?_⟩, fun ha hx h => ?_,
    fun ha hx => ?_, fun ha => ?_, fun ha => ?_⟩
  · rw [hout, State.measuredNow, hv, hi]
  · rw [hout, State.measuredNow]
    rcases h with h | h <;> rw [h]
    split <;> simp_all
  · obtain ⟨cause, he⟩ := State.watchSupply_of_faulty h
    rw [u.evalSupply_of_sound ha hx, he, State.failSupply_spm]
    exact ⟨rfl, rfl, rfl, rfl, rfl⟩
  · rw [u.evalSupply_of_sound ha (.inl hx), State.watchSupply_derates ho hi ht hx hw, State.setSupply_spm]
    exact ⟨rfl, rfl⟩
  · rw [u.evalSupply_of_sound ha (.inr hx), State.watchSupply_restores ho hi ht hx hw, State.setSupply_spm]
    exact ⟨rfl, rfl⟩
  · rw [u.evalSupply_of_sound ha hx, State.watchSupply_stays ho hi ht h]
    exact ⟨rfl, rfl⟩
  · rw [u.evalSupply_of_offline ha hx, State.qualifySupply_of_unfit hi ht hq]
    exact ⟨hx, rfl⟩
  · rw [u.evalSupply_of_offline ha hx, State.qualifySupply_counts hi ht hq hn]
    exact ⟨hx, rfl⟩
  · rw [u.evalSupply_of_offline ha hx, State.qualifySupply_passes hi ht hq hn, hw, State.setSupply_spm]
    exact ⟨rfl, rfl, rfl⟩
  · rw [u.evalSupply_of_offline ha hx, State.qualifySupply_passes hi ht hq hn, hw, State.setSupply_spm]
    exact ⟨rfl, rfl, rfl⟩
  · obtain ⟨cause, he⟩ := State.qualifySupply_of_faulty h
    rw [u.evalSupply_of_offline ha hx, he, State.failSupply_spm]
    exact ⟨rfl, rfl, rfl, rfl, rfl⟩
  · rw [u.evalSupply_of_failed ha hx, State.recoverSupply_spm, hspm]
  · rw [State.endSweep_eq, u.evalSupply_of_frozen ha, State.watchOutput_eq]
    exact ⟨by rw [hspm], hqueue, hself⟩
  · rw [u.evalSupply_of_inactive ha, hspm]

end Sys2Proof.Machine
end

section
/-! PROOFS. Outputs, signals, combiners and the indicator code (R99, R186 to R188). -/

namespace Sys2Proof.Machine

variable {s : State}

/-! ## THROTTLE and the signals -/

theorem RailState.throttles_iff (x : RailState) : x.throttles = true ↔ (∃ k, x = .ramp k) ∨ x = .on ∨ x = .stopWait := by
  cases x <;> simp [RailState.throttles]

theorem StationState.acting_iff (x : StationState) : x.acting = true ↔ x = .joined ∨ x = .leaving ∨ x = .mute := by
  cases x <;> simp [StationState.acting]

theorem State.throttle_iff (s : State) : s.throttle = true ↔
    s.role = .blade ∧ (s.station = .joined ∨ s.station = .leaving ∨ s.station = .mute) ∧
      ((∃ k, s.rsq.state = .ramp k) ∨ s.rsq.state = .on ∨ s.rsq.state = .stopWait) ∧
      (s.self.held < s.cfg.fullLevel ∨ s.client.target < s.self.held) := by
  simp only [State.throttle, Bool.and_eq_true, Bool.or_eq_true, decide_eq_true_eq, State.isBlade_iff,
    StationState.acting_iff, RailState.throttles_iff, and_assoc]

theorem State.airflowIs_iff (s : State) (v : Airflow) : s.airflowIs v = true ↔
    (s.role = .blade ∧ s.client.zoneAirflow = v) ∨ (s.role = .fan ∧ s.fdu.airflow = v) := by
  simp only [State.airflowIs, Bool.or_eq_true, Bool.and_eq_true, beq_iff_eq, State.isBlade_iff, State.isFan_iff]

theorem State.lanesUp_iff (s : State) : s.lanesUp = true ↔
    (s.role = .blade ∧ s.ownHolding ≠ none) ∨ (s.role = .uplink ∧ 0 < s.self.offer) := by
  simp only [State.lanesUp, Bool.or_eq_true, Bool.and_eq_true, decide_eq_true_eq, State.isBlade_iff, State.isUplink_iff,
    Option.isSome_iff_ne_none]

theorem State.anyChannel_iff (s : State) (p : ChannelRec → Bool) :
    s.anyChannel p = true ↔ ∃ ch ∈ s.enabledChannels, p (s.channel ch) = true := by
  simp only [State.anyChannel, List.any_eq_true]

theorem State.fanFailedAny_iff (s : State) : s.fanFailedAny = true ↔
    s.role = .fan ∧ ∃ k, k < s.cfg.fanCount ∧ (s.fdu.channel k).failureMark = true := by
  simp only [State.fanFailedAny, Bool.and_eq_true, List.any_eq_true, List.mem_range, State.isFan_iff]

theorem State.signal_gpi (s : State) {n : Nat} (hn : n < 5) : s.signal (16 + n) = s.gpi n := by
  match n, hn with
  | 0, _ | 1, _ | 2, _ | 3, _ | 4, _ => rfl

theorem State.gpi_of_first {first : Nat} (h : firstGpi s.role = some first) (n : Nat) :
    s.gpi n = (decide (first + n < 8) && (s.input (first + n)).isYes) := by
  unfold State.gpi
  rw [h]
  rfl

theorem State.gpi_of_fan (h : s.role = .fan) (n : Nat) : s.gpi n = false := by
  simp only [State.gpi, firstGpi, h]

theorem State.gpi_of_blade (h : s.role = .blade) (n : Nat) : s.gpi n = (decide (n < 3) && (s.input (5 + n)).isYes) := by
  have hpin : decide (5 + n < 8) = decide (n < 3) := decide_eq_decide.mpr (by omega)
  rw [State.gpi_of_first (by rw [h]; rfl), hpin]

theorem State.gpi_of_supply (h : s.role = .supply) {n : Nat} (hn : n < 5) : s.gpi n = (s.input (3 + n)).isYes := by
  rw [State.gpi_of_first (by rw [h]; rfl), decide_eq_true (by omega), Bool.true_and]

theorem State.gpi_of_uplink (h : s.role = .uplink) {n : Nat} (hn : n < 5) : s.gpi n = (s.input (2 + n)).isYes := by
  rw [State.gpi_of_first (by rw [h]; rfl), decide_eq_true (by omega), Bool.true_and]

/-! ## Combiners and outputs -/

theorem State.source_combiner (s : State) {c : Nat} (hc : c < 4) : s.source (c + 2) = s.combiner c := by
  have hne : ¬ c + 2 = 1 := by omega
  have hle : c + 2 ≤ 5 := by omega
  simp [State.source, hle]

theorem State.source_unknown (s : State) {n : Nat} (hn : 14 ≤ n) : s.source n = false := by
  have hone : ¬ n = 1 := by omega
  have hfive : ¬ n ≤ 5 := by omega
  have hlast : ¬ n ≤ 13 := by omega
  simp [State.source, hone, hfive, hlast]

theorem State.combiner_eq (s : State) (c : Nat) :
    s.combiner c = (let x := if s.named c = [] then false
                             else if 1 ≤ s.cfg.get 50 c then (s.named c).all id else (s.named c).any id
      if 1 ≤ s.cfg.get 51 c then !x else x) := by
  have hcombine : combine (s.cfg.flag 50 c) (s.named c) = if s.named c = [] then false
      else if 1 ≤ s.cfg.get 50 c then (s.named c).all id else (s.named c).any id := by
    simp only [combine, List.isEmpty_iff, BootImage.flag, decide_eq_true_eq]
  rw [State.combiner, hcombine]
  by_cases hinvert : 1 ≤ s.cfg.get 51 c
  · simp only [BootImage.flag, hinvert, decide_true, Bool.bne_true, if_true]
  · simp only [BootImage.flag, hinvert, decide_false, Bool.bne_false, if_false]

theorem State.output_of_fixed {n : Nat} {b : Bool} (h : s.fixedOutput n = some b) : s.output n = b := by
  simp only [State.output, h]

theorem State.output_of_free {n : Nat} (h : s.fixedOutput n = none) :
    s.output n = (s.station != .start && s.source (s.cfg.nat 49 n)) := by
  simp only [State.output, h]

theorem State.fixedOutput_of_blade (h : s.role = .blade) :
    (∀ k, k < 3 → s.fixedOutput k = some (s.rsq.enable k)) ∧ s.fixedOutput 3 = some s.throttle := by
  refine ⟨fun k hk => ?_, by simp only [State.fixedOutput, h]⟩
  match k, hk with
  | 0, _ | 1, _ | 2, _ => simp only [State.fixedOutput, h]

/-- The outputs that a role leaves to the configuration. -/
theorem State.fixedOutput_none {n : Nat} (h : s.role = .fan ∨ 4 ≤ n ∨ (s.role ≠ .blade ∧ 0 < n)) :
    s.fixedOutput n = none := by
  match n with
  | 0 =>
    have hfan : s.role = .fan := by simpa using h
    simp only [State.fixedOutput, hfan]
  | 1 | 2 | 3 =>
    have hrole : s.role ≠ .blade := by rcases h with h | h | h <;> simp_all
    cases hr : s.role with
    | blade => exact absurd hr hrole
    | fan | supply | uplink => simp only [State.fixedOutput, hr]
  | n + 4 => cases hr : s.role <;> simp only [State.fixedOutput, hr]

/-! ## The indicator code -/

/-- The first code whose condition holds, 0 where none does. -/
def firstCode (conditions : List (Nat × Bool)) : Nat :=
  match conditions.find? (fun p => p.2) with
  | some p => p.1
  | none => 0

theorem State.indicatorCode_eq (s : State) : s.indicatorCode = firstCode s.indicatorConditions := rfl

theorem firstCode_nil : firstCode [] = 0 := rfl

theorem firstCode_cons (n : Nat) (b : Bool) (rest : List (Nat × Bool)) :
    firstCode ((n, b) :: rest) = if b then n else firstCode rest := by
  cases b <;> rfl

/-- A station that throttles is a blade. -/
theorem State.throttle_and_isBlade (s : State) : (s.isBlade = true ∧ s.throttle = true) ↔ s.throttle = true :=
  ⟨fun h => h.2, fun h => ⟨(State.isBlade_iff s).mpr ((State.throttle_iff s).mp h).1, h⟩⟩

/-- Settles O46: each output, signal and condition is the named one. -/
theorem outputsFollowTheirSignals : Obligations.OutputsFollowTheirSignals := by
  intro s
  refine ⟨s.throttle_iff, fun hr => ?blade, fun hr => ?supply, fun hr => ?uplink, fun n h => ?free, rfl, rfl,
    fun c hc => s.source_combiner hc, fun j hj => State.source_indicator hj, fun n hn => s.source_unknown hn,
    fun c => s.combiner_eq c, ?signals, ?code⟩
  case blade =>
    obtain ⟨henable, hthrottle⟩ := State.fixedOutput_of_blade hr
    exact ⟨fun k hk => State.output_of_fixed (henable k hk), State.output_of_fixed hthrottle⟩
  case supply => exact State.output_of_fixed (by simp only [State.fixedOutput, hr])
  case uplink => exact State.output_of_fixed (by simp only [State.fixedOutput, hr])
  case free =>
    rw [State.output_of_free (State.fixedOutput_none h)]
    exact ⟨fun hx => by simp [hx], fun hx => by simp [hx]⟩
  case signals =>
    refine ⟨rfl, rfl, ?_, ?_, ?_, rfl, ?_, s.lanesUp_iff, s.airflowIs_iff _, s.airflowIs_iff _, ?_, ?_, s.fanFailedAny_iff,
      ?_, rfl, fun n hn => ?_⟩
    · simp [State.signal]
    · simp [State.signal]
    · simp [State.signal, State.isBlade_iff]
    · simp [State.signal, State.isBlade_iff]
    · simp only [State.signal, State.anyChannel_iff, bne_iff_ne]
    · simp only [State.signal, State.anyChannel_iff, beq_iff_eq]
    · simp [State.signal, State.isSupply_iff]
    · rw [s.signal_gpi hn]
      exact ⟨fun hr => State.gpi_of_blade hr n, fun hr => State.gpi_of_supply hr hn, fun hr => State.gpi_of_uplink hr hn,
        fun hr => State.gpi_of_fan hr n⟩
  case code =>
    rw [State.indicatorCode_eq, State.indicatorConditions]
    simp only [firstCode_cons, firstCode_nil, Bool.and_eq_true, Bool.or_eq_true, beq_iff_eq, decide_eq_true_eq,
      State.anyChannel_iff, State.isBlade_iff, State.isFan_iff, State.isUplink_iff, StationState.acting_iff,
      Option.isSome_iff_ne_none, and_assoc]
    simp only [← State.isBlade_iff, State.throttle_and_isBlade]

end Sys2Proof.Machine
end

section
/-! PROOFS. The boot record that STORE_SETUP writes, read back (R48, R49, R52). -/

namespace Sys2Proof.Machine

/-! ## Bytes of a list -/

theorem byteAt_append_right (front back : List Byte) (k : Nat) : byteAt (front ++ back) (front.length + k) = byteAt back k := by
  rw [byteAt, byteAt, List.getD_eq_getElem?_getD, List.getD_eq_getElem?_getD,
    List.getElem?_append_right (Nat.le_add_right _ _), Nat.add_sub_cancel_left]

theorem halfAt_append_right (front back : List Byte) : halfAt (front ++ back) front.length = halfAt back 0 := by
  have hfirst : byteAt (front ++ back) front.length = byteAt back 0 := byteAt_append_right front back 0
  rw [halfAt, halfAt, hfirst, byteAt_append_right]

theorem halfAt_be16 (x : Nat) (back : List Byte) : halfAt (be16 x ++ back) 0 = x % 65536 := by
  simp only [halfAt, byteAt, be16, byteOf, List.cons_append, List.getD_cons_zero, List.getD_cons_succ, BitVec.toNat_ofNat]
  omega

/-! ## One slot of a record -/

def slotPos (s : FieldSpec) (i : Nat) : Nat := if s.width == 1 then s.pos + i else s.pos + 2 * i

def slotLen (s : FieldSpec) : Nat := if s.width == 1 then 1 else 2

theorem slotBytes_length (s : FieldSpec) (v : Int) : (slotBytes s v).length = slotLen s := by
  unfold slotBytes slotLen
  split <;> rfl

theorem halfOf_toInt_be16Int {v : Int} (hlo : -32768 ≤ v) (hhi : v < 32768) (back : List Byte) :
    (halfOf (halfAt (be16Int v ++ back) 0)).toInt = v := by
  have hhalf : halfAt (be16Int v ++ back) 0 = (BitVec.ofInt 16 v).toNat := by
    rw [be16Int, halfAt_be16]
    exact Nat.mod_eq_of_lt (BitVec.isLt _)
  rw [hhalf, halfOf, BitVec.ofNat_toNat, BitVec.setWidth_eq, BitVec.toInt_ofInt]
  simp only [Int.bmod]
  omega

/-- A slot's bytes at its place in a record give its value back, where the slot can hold it. -/
theorem slotValue_of_placed {s : FieldSpec} {i : Nat} {v : Int} {front back : List Byte} (hv : s.holds v)
    (hpos : front.length = slotPos s i) : slotValue (front ++ (slotBytes s v ++ back)) s i = v := by
  unfold FieldSpec.holds at hv
  by_cases hw : s.width = 1
  · rw [if_pos hw] at hv
    have hplace : s.pos + i = front.length + 0 := by rw [hpos]; simp [slotPos, hw]
    simp only [slotValue, slotBytes, hw, beq_self_eq_true, if_true]
    rw [hplace, byteAt_append_right]
    simp only [byteAt, List.cons_append, List.getD_cons_zero, BitVec.toNat_ofInt]
    omega
  · rw [if_neg hw] at hv
    have hplace : s.pos + 2 * i = front.length := by rw [hpos]; simp [slotPos, hw]
    simp only [slotValue, slotBytes, beq_eq_false_iff_ne.mpr hw, Bool.false_eq_true, if_false]
    rw [hplace, halfAt_append_right]
    by_cases hs : s.signed = true
    · rw [if_pos hs] at hv ⊢
      exact halfOf_toInt_be16Int hv.1 hv.2 back
    · rw [if_neg hs] at hv ⊢
      rw [be16Int, halfAt_be16, BitVec.toNat_ofInt]
      omega

/-! ## The layout of the record -/

/-- The slots of the table, each with its row. -/
def tableSlots : List (FieldSpec × Nat) := fieldTable.flatMap (fun s => (List.range s.slots).map (fun i => (s, i)))

/-- The bytes of slots one after the other. -/
def slotsBytes (b : BootImage) (slots : List (FieldSpec × Nat)) : List Byte :=
  slots.flatMap (fun p => slotBytes p.1 (b.get p.1.no p.2))

/-- Slots that follow one another from a position on stand where their rows say. -/
def placed : Nat → List (FieldSpec × Nat) → Bool
  | _, [] => true
  | pos, p :: rest => pos == slotPos p.1 p.2 && placed (pos + slotLen p.1) rest

theorem slotsBytes_length (b : BootImage) (slots : List (FieldSpec × Nat)) :
    (slotsBytes b slots).length = (slots.map (fun p => slotLen p.1)).sum := by
  simp only [slotsBytes, List.length_flatMap, slotBytes_length]

theorem slotsBytes_tableSlots (b : BootImage) : slotsBytes b tableSlots =
    fieldTable.flatMap (fun s => (List.range s.slots).flatMap (fun i => slotBytes s (b.get s.no i))) := by
  simp only [slotsBytes, tableSlots, List.flatMap_assoc, List.flatMap_map]

/-- A slot among placed ones has its bytes at its position. -/
theorem slotsBytes_split (b : BootImage) {s : FieldSpec} {i : Nat} (back : List Byte) : ∀ (slots : List (FieldSpec × Nat))
    (front : List Byte), placed front.length slots = true → (s, i) ∈ slots → ∃ front' back',
      front ++ (slotsBytes b slots ++ back) = front' ++ (slotBytes s (b.get s.no i) ++ back') ∧
        front'.length = slotPos s i := by
  intro slots
  induction slots with
  | nil => intro front _ hmem; cases hmem
  | cons p rest ih =>
    intro front hplaced hmem
    simp only [placed, Bool.and_eq_true, beq_iff_eq] at hplaced
    obtain ⟨hpos, hrest⟩ := hplaced
    have hbytes : slotsBytes b (p :: rest) = slotBytes p.1 (b.get p.1.no p.2) ++ slotsBytes b rest := rfl
    rcases List.mem_cons.mp hmem with rfl | hmem
    · exact ⟨front, slotsBytes b rest ++ back, by rw [hbytes, List.append_assoc], hpos⟩
    · have hlen : (front ++ slotBytes p.1 (b.get p.1.no p.2)).length = front.length + slotLen p.1 := by
        rw [List.length_append, slotBytes_length]
      obtain ⟨front', back', heq, hlen'⟩ := ih _ (by rw [hlen]; exact hrest) hmem
      exact ⟨front', back', by rw [hbytes, List.append_assoc, ← List.append_assoc, heq], hlen'⟩

/-- The table places its slots one after the other from byte 1 on. -/
theorem placed_tableSlots : placed 1 tableSlots = true := by decide +kernel

theorem tableSlots_bytes : (tableSlots.map (fun p => slotLen p.1)).sum = 345 := by decide +kernel

/-- Every row stands at its field number. -/
theorem fieldTable_at : ∀ s ∈ fieldTable, fieldTable[s.no - 1]? = some s := by decide +kernel

theorem fieldSpec_of_mem {s : FieldSpec} (h : s ∈ fieldTable) : fieldSpec s.no = s := by
  rw [fieldSpec, List.getD_eq_getElem?_getD, fieldTable_at s h]
  rfl

theorem mem_fieldSlots {f i : Nat} (h : (f, i) ∈ fieldSlots) : ∃ s ∈ fieldTable, s.no = f ∧ i < s.slots := by
  simp only [fieldSlots, List.mem_flatMap, List.mem_map, List.mem_range, Prod.mk.injEq] at h
  obtain ⟨s, hs, k, hk, hno, rfl⟩ := h
  exact ⟨s, hs, hno, hk⟩

theorem mem_tableSlots {s : FieldSpec} {i : Nat} (h : s ∈ fieldTable) (hi : i < s.slots) : (s, i) ∈ tableSlots := by
  simp only [tableSlots, List.mem_flatMap, List.mem_map, List.mem_range, Prod.mk.injEq]
  exact ⟨s, h, i, hi, rfl, rfl⟩

theorem BootImage.ofRecord_get (record : List Byte) {s : FieldSpec} {i : Nat} (h : s ∈ fieldTable) (hi : i < s.slots) :
    (BootImage.ofRecord record).get s.no i = slotValue record s i := by
  have hfield : (BootImage.ofRecord record).fields[s.no - 1]? = some ((List.range s.slots).map (slotValue record s)) := by
    simp only [BootImage.ofRecord, List.getElem?_map, fieldTable_at s h, Option.map_some]
  simp [BootImage.get, List.getD_eq_getElem?_getD, hfield, hi]

/-! ## The record -/

/-- Bytes 0 to 509 of the record. -/
def BootImage.body (b : BootImage) : List Byte := [(1 : Byte)] ++ slotsBytes b tableSlots ++ List.replicate 164 0

theorem BootImage.toRecord_eq (b : BootImage) : b.toRecord = b.body ++ be16 (recordSum b.body) := by
  simp only [BootImage.toRecord, BootImage.body, slotsBytes_tableSlots]

theorem BootImage.body_length (b : BootImage) : b.body.length = 510 := by
  simp only [BootImage.body, List.length_append, slotsBytes_length, tableSlots_bytes, List.length_replicate,
    List.length_cons, List.length_nil]

theorem BootImage.toRecord_sum (b : BootImage) : sumHolds b.toRecord := by
  rw [← recordSum_eq_recordSumHeld_iff, b.toRecord_eq]
  have htake : (b.body ++ be16 (recordSum b.body)).take 510 = b.body.take 510 := by
    rw [← b.body_length, List.take_left, List.take_length]
  have hsum : recordSum (b.body ++ be16 (recordSum b.body)) = recordSum b.body := by
    rw [recordSum, htake, ← recordSum]
  have hheld : recordSumHeld (b.body ++ be16 (recordSum b.body)) = recordSum b.body := by
    have hhalf := halfAt_append_right b.body (be16 (recordSum b.body) ++ [])
    rw [halfAt_be16, List.append_nil, b.body_length] at hhalf
    exact hhalf.trans (Nat.mod_eq_of_lt (Nat.mod_lt _ (by decide)))
  rw [hsum, hheld]

/-- Settles O13: every slot stands where its row says, so it reads back the value that it can hold. -/
theorem storedRecordReadsBack : Obligations.StoredRecordReadsBack := by
  intro b
  refine ⟨?length, ?version, b.toRecord_sum, fun f i hmem hholds => ?field⟩
  case length => rw [b.toRecord_eq, List.length_append, b.body_length]; rfl
  case version => rw [b.toRecord_eq]; rfl
  case field =>
    obtain ⟨s, hs, rfl, hi⟩ := mem_fieldSlots hmem
    rw [fieldSpec_of_mem hs] at hholds
    obtain ⟨front, back, heq, hlen⟩ := slotsBytes_split b (List.replicate 164 0 ++ be16 (recordSum b.body))
      tableSlots [(1 : Byte)] placed_tableSlots (mem_tableSlots hs hi)
    have hrecord : b.toRecord = front ++ (slotBytes s (b.get s.no i) ++ back) := by
      rw [b.toRecord_eq, ← heq, BootImage.body]
      simp only [List.append_assoc]
    rw [BootImage.ofRecord_get _ hs hi, hrecord, slotValue_of_placed hholds hlen]

end Sys2Proof.Machine
end

section
/-! PROOFS. What an answer of the role blocks leaves: slots, wishes, flags, and what the census shows of each entry. -/

namespace Sys2Proof.Machine

/-! ## Slots that a request or a trim does not name -/

theorem State.setSlot_slot_self (s : State) (i : SlotId) (q : Option QueuedFrame) : (s.setSlot i q).slot i = q :=
  TxQueue.get_put_self _ i q

theorem State.setSlot_slot_other (s : State) {i j : SlotId} (q : Option QueuedFrame) (h : j ≠ i) :
    (s.setSlot i q).slot j = s.slot j := TxQueue.get_put_other _ q h

theorem State.enqueue_slot_other (s : State) {r : FrameReq} {i : SlotId} (h : i ≠ r.slot) :
    (s.enqueue r).slot i = s.slot i := by
  unfold State.enqueue
  split <;> exact State.setSlot_slot_other _ _ h

theorem State.request_slot_other (s : State) {r : FrameReq} {i : SlotId} (h : i ≠ r.slot) :
    (s.request r).slot i = s.slot i := by
  unfold State.request
  split
  · exact s.enqueue_slot_other h
  · rfl

theorem State.trimSlot_slot_other (s : State) (wanted : Option FrameReq) {i j : SlotId} (h : j ≠ i) :
    (s.trimSlot wanted i).slot j = s.slot j := by
  unfold State.trimSlot
  split
  · rfl
  · split <;> split <;> first | rfl | exact State.setSlot_slot_other _ _ h

theorem State.trimSlot_eq (s : State) (wanted : Option FrameReq) (i : SlotId) :
    s.trimSlot wanted i = { s with pbc := (s.trimSlot wanted i).pbc } := by
  unfold State.trimSlot
  split
  · rfl
  · split <;> split <;> rfl

/-! ## The census, entry by entry -/

/-- A step takes nothing into a vacant entry. -/
theorem CenStep.vacant {own b : Addr} {c c' : Census} (h : CenStep own c c') (hs : c.Shaped)
    (hb : c.get b = Entry.vacant) : c'.get b = Entry.vacant := by
  cases h with
  | @admission a level hclaim =>
    rw [hs.get_upd]
    split
    · rw [← ‹b = a›, hb] at hclaim; cases hclaim
    · exact hb
  | shed a level =>
    rw [hs.get_upd, hb]
    split <;> simp [Entry.shedTo, Entry.vacant, Entry.effective]
  | @grant a u n hclaim =>
    rw [(hs.dropLaneClaim a).get_assign, hs.get_dropLaneClaim, hb]
    split <;> split <;> rfl
  | notes => exact hb
  | selfPart hf =>
    rw [hs.get_upd, hb]
    split
    · exact (hf _).vacant
    · rfl
  | selfZero =>
    rw [hs.get_localZero, hb]
    split <;> rfl

theorem CenSteps.vacant {own b : Addr} {c c' : Census} (h : CenSteps own c c') (hs : c.Shaped)
    (hb : c.get b = Entry.vacant) : c'.get b = Entry.vacant := by
  induction h with
  | refl => exact hb
  | tail hsteps hstep ih => exact hstep.vacant (CenSteps.shaped hsteps hs) ih

/-- An entry that holds nothing and claims nothing. -/
def Entry.Powerless (e : Entry) : Prop := e.held = 0 ∧ e.claim = none

theorem CenStep.powerless {own b : Addr} {c c' : Census} (h : CenStep own c c') (hs : c.Shaped)
    (hb : (c.get b).Powerless) : (c'.get b).Powerless := by
  obtain ⟨hheld, hclaim⟩ := hb
  cases h with
  | @admission a level hadmit =>
    rw [hs.get_upd]
    split
    · rw [← ‹b = a›, hclaim] at hadmit; cases hadmit
    · exact ⟨hheld, hclaim⟩
  | shed a level =>
    rw [hs.get_upd]
    split
    · obtain ⟨o, ho⟩ := (c.get b).shedTo_eq level
      rw [ho]; exact ⟨hheld, hclaim⟩
    · exact ⟨hheld, hclaim⟩
  | @grant a u n =>
    rw [(hs.dropLaneClaim a).get_assign, hs.get_dropLaneClaim]
    split <;> split <;> exact ⟨by simp [hheld], by simp [hclaim]⟩
  | notes => exact ⟨hheld, hclaim⟩
  | selfPart hf =>
    rw [hs.get_upd]
    split
    · exact ⟨(Entry.held_of_bare (hf _).bare).trans hheld, (Entry.claim_of_bare (hf _).bare).trans hclaim⟩
    · exact ⟨hheld, hclaim⟩
  | selfZero =>
    rw [hs.get_localZero]
    split
    · exact ⟨rfl, rfl⟩
    · exact ⟨by simp [hheld], by simp [hclaim]⟩

theorem CenSteps.powerless {own b : Addr} {c c' : Census} (h : CenSteps own c c') (hs : c.Shaped)
    (hb : (c.get b).Powerless) : (c'.get b).Powerless := by
  induction h with
  | refl => exact hb
  | tail hsteps hstep ih => exact hstep.powerless (CenSteps.shaped hsteps hs) ih

theorem Entry.claimUnder_vacant (u : Addr) (old k : Nat) : Entry.vacant.claimUnder u old k = Entry.vacant := by
  simp [Entry.claimUnder, Entry.dropClaimOn, Entry.limitClaimOn, Entry.updBlade, Entry.vacant, Entry.laneClaim, Entry.blade]

theorem Entry.claimUnder_face (e : Entry) (u : Addr) (old k : Nat) : (e.claimUnder u old k).part.face = e.part.face := by
  have hlimit : ∀ e : Entry, (e.limitClaimOn u k).part.face = e.part.face := fun e => by
    cases h : e.part with
    | blade p =>
      simp only [Entry.limitClaimOn, Entry.updBlade, h, RolePart.face]
      split <;> (try split) <;> rfl
    | unknown | fan p | supply p | uplink p => simp [Entry.limitClaimOn, Entry.updBlade, h]
  have hdrop : (e.dropClaimOn u).part.face = e.part.face := by
    rcases e.dropClaimOn_cases u with ⟨h, -⟩ | ⟨h, -⟩ <;> rw [h]
    exact e.withoutLaneClaim_face
  unfold Entry.claimUnder
  split
  · split
    · exact hdrop
    · exact hlimit e
  · rfl

theorem Entry.offering_role (e : Entry) (k : Nat) : (e.offering k).role = e.role := by
  cases h : e.part <;> simp [Entry.offering, Entry.updUplink, Entry.role, h]

section

variable {c : Census} (hs : c.Shaped) (u b : Addr) (k : Nat)

include hs

theorem Census.Shaped.setOffer_vacant (hb : c.get b = Entry.vacant) : (c.setOffer u k).get b = Entry.vacant := by
  rcases Census.setOffer_eq hs u k with ⟨c', heq, -, hget⟩ | ⟨heq, -⟩ <;> rw [heq]
  · rw [Census.mark_get, hget, hb]
    split
    · exact Entry.claimUnder_vacant u _ k
    · exact Entry.claimUnder_vacant u _ k
  · exact hb

theorem Census.Shaped.setOffer_face (hb : b ≠ u) : ((c.setOffer u k).get b).part.face = (c.get b).part.face := by
  rcases Census.setOffer_eq hs u k with ⟨c', heq, -, hget⟩ | ⟨heq, -⟩ <;> rw [heq]
  rw [Census.mark_get, hget, if_neg hb, Entry.claimUnder_face]

theorem Census.Shaped.setOffer_role : ((c.setOffer u k).get b).role = (c.get b).role := by
  rcases Census.setOffer_eq hs u k with ⟨c', heq, -, hget⟩ | ⟨heq, -⟩ <;> rw [heq]
  rw [Census.mark_get, hget]
  split
  · exact (Entry.role_of_face (Entry.claimUnder_face _ _ _ _)).trans (Entry.offering_role _ k)
  · exact Entry.role_of_face (Entry.claimUnder_face _ _ _ _)

end

/-! ## What an answer leaves -/

namespace Answer

variable {o w : Bool} {s t : State} (h : Answer o w s t)

include h

theorem kept_slot {i : SlotId} (hi : s.station.answers i = false) : t.slot i = s.slot i := by
  induction h with
  | refl => rfl
  | trans hst _ ih ih' => exact (ih' (by rw [hst.station]; exact hi)).trans (ih hi)
  | request s hr =>
    refine s.request_slot_other fun he => ?_
    rw [he, hr] at hi
    cases hi
  | trim s wanted hj =>
    refine s.trimSlot_slot_other wanted fun he => ?_
    rw [he, hj] at hi
    cases hi
  | events | census | offer | flags | client | rails | fans | lanePort => rfl

theorem onLine : t.pbc.onLine = s.pbc.onLine := congrArg (fun f : Fixed => f.bus.onLine) h.fixed
theorem faultScore : t.pbc.faultScore = s.pbc.faultScore := congrArg (fun f : Fixed => f.bus.faultScore) h.fixed
theorem muteFlag : t.pbc.muteFlag = s.pbc.muteFlag := congrArg (fun f : Fixed => f.bus.muteFlag) h.fixed
theorem muteCause : t.pbc.muteCause = s.pbc.muteCause := congrArg (fun f : Fixed => f.bus.muteCause) h.fixed
theorem lnu : t.lnu = s.lnu := congrArg Fixed.lnu h.fixed
theorem msu : t.msu = s.msu := congrArg Fixed.msu h.fixed

theorem spm : t.spm = s.spm := by
  induction h with
  | trans _ _ ih ih' => exact ih'.trans ih
  | request s => exact s.request_spm _
  | trim s wanted => rw [s.trimSlot_eq wanted]
  | refl | events | census | offer | flags | client | rails | fans | lanePort => rfl

theorem wishes : t.client.wishes = s.client.wishes := by
  induction h with
  | trans _ _ ih ih' => exact ih'.trans ih
  | request s => rw [s.request_client]
  | trim s wanted => rw [s.trimSlot_eq wanted]
  | client s c hwishes => exact hwishes
  | refl | events | census | offer | flags | rails | fans | lanePort => rfl

theorem hostTarget : t.client.hostTarget = s.client.hostTarget := congrArg Prod.fst h.wishes
theorem criticalTimer : t.client.criticalTimer = s.client.criticalTimer := congrArg (fun q => q.2.1) h.wishes
theorem lanesWanted : t.client.lanesWanted = s.client.lanesWanted := congrArg (fun q => q.2.2.1) h.wishes

theorem portRecord : t.lmp.record = s.lmp.record := by
  induction h with
  | trans _ _ ih ih' => exact ih'.trans ih
  | request s => rw [s.request_lmp]
  | trim s wanted => rw [s.trimSlot_eq wanted]
  | lanePort s l _ hrecord => exact hrecord
  | refl | events | census | offer | flags | client | rails | fans => rfl

theorem lmp_of_role (hr : s.role ≠ .uplink) : t.lmp = s.lmp := by
  induction h with
  | trans hst _ ih ih' => exact (ih' (by rw [hst.role]; exact hr)).trans (ih hr)
  | request s => rw [s.request_lmp]
  | trim s wanted => rw [s.trimSlot_eq wanted]
  | lanePort s l hrole => exact absurd hrole hr
  | refl | events | census | offer | flags | client | rails | fans => rfl

theorem rsq (hw : w = false) : t.rsq = s.rsq := by
  induction h with
  | trans _ _ ih ih' => exact ih'.trans ih
  | request s => rw [s.request_rsq]
  | trim s wanted => rw [s.trimSlot_eq wanted]
  | rails s r hseq => rw [hw] at hseq; cases hseq
  | refl | events | census | offer | flags | client | fans | lanePort => rfl

/-- The event queue only takes events. -/
theorem told : ∃ es : List Event, t.lpt = es.foldl Lpt.push s.lpt := by
  induction h with
  | trans _ _ ih ih' =>
    obtain ⟨es, hes⟩ := ih
    obtain ⟨es', hes'⟩ := ih'
    exact ⟨es ++ es', by rw [hes', hes, List.foldl_append]⟩
  | events s es => exact ⟨es, rfl⟩
  | request s => exact ⟨[], s.request_lpt _⟩
  | trim s wanted => exact ⟨[], by rw [s.trimSlot_eq wanted]; rfl⟩
  | refl | census | offer | flags | client | rails | fans | lanePort => exact ⟨[], rfl⟩

theorem clock : t.cen.announceTimer = s.cen.announceTimer ∧ t.cen.ownAnnounced = s.cen.ownAnnounced ∧
    t.cen.anomalies = s.cen.anomalies := by
  induction h with
  | trans _ _ ih ih' => exact ⟨ih'.1.trans ih.1, ih'.2.1.trans ih.2.1, ih'.2.2.trans ih.2.2⟩
  | census s _ hclock => exact ⟨hclock.announceTimer, hclock.ownAnnounced, hclock.anomalies⟩
  | @offer s k =>
    have hclock := s.cen.setOffer_sameClock s.addr k
    exact ⟨hclock.announceTimer, hclock.ownAnnounced, hclock.anomalies⟩
  | request s => rw [s.request_cen]; exact ⟨rfl, rfl, rfl⟩
  | trim s wanted => rw [s.trimSlot_eq wanted]; exact ⟨rfl, rfl, rfl⟩
  | refl | events | flags | client | rails | fans | lanePort => exact ⟨rfl, rfl, rfl⟩

theorem kept_flags (hacting : s.station.acting = false) :
    t.cen.deficit = s.cen.deficit ∧ t.cen.overdraw = s.cen.overdraw := by
  induction h with
  | trans hst _ ih ih' =>
    obtain ⟨hd, ho⟩ := ih hacting
    obtain ⟨hd', ho'⟩ := ih' (by rw [hst.station]; exact hacting)
    exact ⟨hd'.trans hd, ho'.trans ho⟩
  | census s _ hclock => exact ⟨hclock.deficit, hclock.overdraw⟩
  | @offer s k =>
    have hclock := s.cen.setOffer_sameClock s.addr k
    exact ⟨hclock.deficit, hclock.overdraw⟩
  | flags s hact => rw [hact] at hacting; cases hacting
  | request s => rw [s.request_cen]; exact ⟨rfl, rfl⟩
  | trim s wanted => rw [s.trimSlot_eq wanted]; exact ⟨rfl, rfl⟩
  | refl | events | client | rails | fans | lanePort => exact ⟨rfl, rfl⟩

theorem shapedCen (hs : s.cen.Shaped) : t.cen.Shaped := h.keeps.promises .entries hs

/-- What the steps of a census and the own offer keep, an answer keeps. -/
theorem kept_entry (hs : s.cen.Shaped) {P : Census → Census → Prop} (hrefl : ∀ c, P c c)
    (htrans : ∀ c c' c'', P c c' → P c' c'' → P c c'')
    (hsteps : ∀ c c' : Census, c.Shaped → CenSteps s.addr c c' → P c c')
    (hflags : ∀ (c : Census) (d v : Bool), P c { c with deficit := d, overdraw := v })
    (hoffer : ∀ (c : Census) (k : Nat), c.Shaped → o = true → P c (c.setOffer s.addr k)) : P s.cen t.cen := by
  induction h with
  | trans hst _ ih ih' =>
    exact htrans _ _ _ (ih hs hsteps hoffer) (ih' (hst.shapedCen hs)
      (fun c c' hc hcc => hsteps c c' hc (hst.addr ▸ hcc)) (fun c k hc ho => hst.addr ▸ hoffer c k hc ho))
  | census s hst => exact hsteps _ _ hs (hst hs)
  | @offer s k ho => exact hoffer _ k hs ho
  | flags s => exact hflags _ _ _
  | request s => rw [s.request_cen]; exact hrefl _
  | trim s wanted => rw [s.trimSlot_eq wanted]; exact hrefl _
  | refl | events | client | rails | fans | lanePort => exact hrefl _

section

variable (hs : s.cen.Shaped) (b : Addr)

include hs

theorem core : (t.entry b).core = (s.entry b).core :=
  h.kept_entry hs (P := fun c c' => (c'.get b).core = (c.get b).core) (fun _ => rfl) (fun _ _ _ h h' => h'.trans h)
    (fun _ _ hc hst => CenSteps.core hst hc b) (fun _ _ _ => rfl)
    (fun _ k hc _ => Entry.core_of_bare (hc.setOffer_bare s.addr k b))

theorem entryRole : (t.entry b).role = (s.entry b).role :=
  h.kept_entry hs (P := fun c c' => (c'.get b).role = (c.get b).role) (fun _ => rfl) (fun _ _ _ h h' => h'.trans h)
    (fun _ _ hc hst => CenSteps.role hst hc b) (fun _ _ _ => rfl) (fun _ k hc _ => hc.setOffer_role s.addr b k)

theorem vacant (hb : s.entry b = Entry.vacant) : t.entry b = Entry.vacant :=
  h.kept_entry hs (P := fun c c' => c.get b = Entry.vacant → c'.get b = Entry.vacant) (fun _ h => h)
    (fun _ _ _ h h' hc => h' (h hc)) (fun _ _ hc hst => CenSteps.vacant hst hc) (fun _ _ _ h => h)
    (fun _ k hc _ hb => hc.setOffer_vacant s.addr b k hb) hb

theorem powerless (hb : (s.entry b).Powerless) : (t.entry b).Powerless :=
  h.kept_entry hs (P := fun c c' => (c.get b).Powerless → (c'.get b).Powerless) (fun _ h => h)
    (fun _ _ _ h h' hc => h' (h hc)) (fun _ _ hc hst => CenSteps.powerless hst hc) (fun _ _ _ h => h)
    (fun _ k hc _ hb => ⟨(hc.setOffer_held s.addr k b).trans hb.1, (hc.setOffer_claim s.addr k b).trans hb.2⟩) hb

variable {b}

theorem entryOffer (hb : b ≠ s.addr ∨ o = false) : (t.entry b).offer = (s.entry b).offer :=
  h.kept_entry hs (P := fun c c' => (c'.get b).offer = (c.get b).offer) (fun _ => rfl) (fun _ _ _ h h' => h'.trans h)
    (fun _ _ hc hst => CenSteps.offer hst hc b) (fun _ _ _ => rfl) (fun c k hc ho => by
      rcases hb with hb | hb
      · rw [hc.setOffer_offer s.addr k b, if_neg hb]
      · rw [hb] at ho; cases ho)

theorem face (hb : b ≠ s.addr) : (t.entry b).part.face = (s.entry b).part.face :=
  h.kept_entry hs (P := fun c c' => (c'.get b).part.face = (c.get b).part.face) (fun _ => rfl)
    (fun _ _ _ h h' => h'.trans h) (fun _ _ hc hst => CenSteps.face hc hb hst) (fun _ _ _ => rfl)
    (fun _ k hc _ => hc.setOffer_face s.addr b k hb)

theorem admitted (hb : b ≠ s.addr) : (s.entry b).Admitted (t.entry b) :=
  h.kept_entry hs (P := fun c c' => (c.get b).Admitted (c'.get b)) (fun _ => .inl ⟨rfl, rfl⟩) (fun _ _ _ h h' => h.trans h')
    (fun _ _ hc hst => CenSteps.admitted hc hb hst) (fun _ _ _ => .inl ⟨rfl, rfl⟩)
    (fun _ k hc _ => .inl ⟨hc.setOffer_held s.addr k b, hc.setOffer_claim s.addr k b⟩)

end

end Answer

end Sys2Proof.Machine
end

section
/-! PROOFS. The leaving sequence short of its end (R59 to R64), the entry to LEAVING, and what begins it: the LEAVE of the
host and the bump window (R58, R194). -/

namespace Sys2Proof.Machine

variable {s t u : State}

/-! ## Going on with a leaving -/

/-- The station life without the step that a leaving has come to. -/
def Life.stepless (l : Life) : Life := { l with leaving := l.leaving.map (fun v => { v with step := .railsOff }) }

/-- The slots of the frames that a leaving sends. -/
def SlotId.ofLeaving : SlotId → Bool
  | .lanesDrop | .capacityDrop | .laneRelease | .powerRelease | .depart => true
  | .airflowDrop | .powerClaim | .laneClaim | .heat | .announce | .inventory | .query => false

/-- What a leaving does short of its end: its step, its frames, the Lane Map Port and the output of a supply. -/
structure Onward (s t : State) : Prop where
  life : t.life.stepless = s.life.stepless
  cen : t.cen = s.cen
  client : t.client = s.client
  rsq : t.rsq = s.rsq
  fdu : t.fdu = s.fdu
  lpt : t.lpt = s.lpt
  lnu : t.lnu = s.lnu
  bus : { t.pbc with queue := .empty } = { s.pbc with queue := .empty }
  slots : ∀ i : SlotId, i.ofLeaving = false → t.slot i = s.slot i
  record : t.lmp.record = s.lmp.record
  msu : t.msu = s.msu

namespace Onward

theorem refl (s : State) : Onward s s := ⟨rfl, rfl, rfl, rfl, rfl, rfl, rfl, rfl, fun _ _ => rfl, rfl, rfl⟩

theorem trans (h : Onward s t) (h' : Onward t u) : Onward s u :=
  ⟨h'.life.trans h.life, h'.cen.trans h.cen, h'.client.trans h.client, h'.rsq.trans h.rsq, h'.fdu.trans h.fdu,
    h'.lpt.trans h.lpt, h'.lnu.trans h.lnu, h'.bus.trans h.bus, fun i hi => (h'.slots i hi).trans (h.slots i hi),
    h'.record.trans h.record, h'.msu.trans h.msu⟩

theorem ofIf {p : Prop} [Decidable p] (ht : Onward s t) (hu : Onward s u) : Onward s (if p then t else u) := by
  split <;> assumption

theorem onlyIf {p : Prop} [Decidable p] (h : Onward s t) : Onward s (if p then t else s) := ofIf h (refl s)

theorem setStep (s : State) (step : LeaveStep) : Onward s (s.setStep step) := by
  refine { refl s with life := ?_ }
  unfold State.setStep Life.stepless
  simp only [State.updLife_life, Option.map_map]
  rfl

theorem request (s : State) {r : FrameReq} (hr : r.slot.ofLeaving = true) : Onward s (s.request r) where
  life := by rw [s.request_life]
  cen := s.request_cen r
  client := s.request_client r
  rsq := s.request_rsq r
  fdu := s.request_fdu r
  lpt := s.request_lpt r
  lnu := s.request_lnu r
  bus := congrArg Fixed.bus (s.request_fixed r)
  slots i hi := s.request_slot_other fun he => by rw [he, hr] at hi; cases hi
  record := by rw [s.request_lmp]
  msu := congrArg Fixed.msu (s.request_fixed r)

theorem spm (s : State) (x : Spm) : Onward s { s with spm := x } := { refl s with }

theorem lmp (s : State) {x : Lmp} (h : x.record = s.lmp.record) : Onward s { s with lmp := x } := { refl s with record := h }

theorem beginDeparture (s : State) : Onward s s.beginDeparture := by
  unfold State.beginDeparture
  split
  · exact (setStep s _).trans (request _ rfl)
  · exact refl s

theorem beginRelease (s : State) : Onward s s.beginRelease :=
  ofIf ((setStep s _).trans (request _ rfl)) (beginDeparture s)

theorem beginLaneRelease (s : State) : Onward s s.beginLaneRelease := by
  unfold State.beginLaneRelease
  split
  · exact (setStep s _).trans (request _ rfl)
  · exact beginRelease s

theorem afterIdleMap (s : State) : Onward s s.afterIdleMap :=
  ofIf ((lmp s (x := { s.lmp with xbarEn := false }) rfl).trans (beginRelease _)) (setStep s _)

theorem forceIdle (s : State) : Onward s s.forceIdle := lmp s (Answer.give_record _ _)

end Onward

/-- The departure is the step that ends a leaving (R64); every other one goes on with it, or waits. -/
theorem State.advanceLeaving_cases (s : State) :
    (∃ l, s.station = .leaving ∧ s.life.leaving = some l ∧ l.step = .departure ∧
      s.advanceLeaving = s.completeDeparture l.reason) ∨
      Onward s s.advanceLeaving := by
  unfold State.advanceLeaving
  split
  · rename_i l hx hl
    split
    · exact .inr (.onlyIf (.beginLaneRelease s))
    · exact .inr (.onlyIf (.beginRelease s))
    · exact .inr (.onlyIf ((Onward.spm s _).trans (.beginDeparture _)))
    · exact .inr (.onlyIf ((Onward.forceIdle s).trans (.afterIdleMap _)))
    · exact .inr (.onlyIf (.afterIdleMap s))
    · exact .inr (.onlyIf (.beginDeparture s))
    · split
      · exact .inl ⟨l, hx, hl, ‹_›, rfl⟩
      · exact .inr (.refl s)
  · exact .inr (.refl s)

theorem State.advanceLeaving_of_station (h : s.station ≠ .leaving) : s.advanceLeaving = s := by
  unfold State.advanceLeaving
  split
  · exact absurd ‹_› h
  · rfl

theorem State.becomeParked_life (s : State) : s.becomeParked.life = { s.life.park with station := .parked } :=
  State.life_of_fixed (State.evalRoles_fixed _ _ _ _ _)

/-- The end of a leaving takes the station to PARKED, and on from there where the join condition holds (R64, R55). -/
theorem State.completeDeparture_passed (s : State) (reason : DepartReason) :
    (s.completeDeparture reason).passedIntoParked :=
  State.testJoin_passedIntoParked (congrArg Life.station (State.becomeParked_life _))

theorem State.passedIntoParked.not_leaving (h : s.passedIntoParked) : s.station ≠ .leaving := by
  rcases h with h | h | h <;> rw [h] <;> decide

/-- An advance ends the leaving, or goes on with it. -/
theorem State.advanceLeaving_outcome (s : State) : leftLeaving s s.advanceLeaving ∨ Onward s s.advanceLeaving := by
  rcases s.advanceLeaving_cases with ⟨l, hx, -, -, he⟩ | h
  · exact .inl ⟨hx, by rw [he]; exact (s.completeDeparture_passed _).not_leaving⟩
  · exact .inr h

/-- The answer to an event ends the leaving, or is an answer of the role blocks and a step of the leaving. -/
theorem State.react_outcome (s : State) (pre : Census) (points : Points) (before : State) :
    leftLeaving s (s.react pre points before) ∨
      Onward (s.evalRoles pre false points before) (s.react pre points before) := by
  have hanswer : Answer true true s (s.evalRoles pre false points before) := .evalRoles s pre false points before
  rcases (s.evalRoles pre false points before).advanceLeaving_outcome with ⟨hx, ht⟩ | h
  · exact .inl ⟨hanswer.station.symm.trans hx, ht⟩
  · exact .inr h

/-! ## A course of answers and steps of a leaving -/

/-- Answers of the role blocks and steps of a leaving, one after the other. -/
inductive Course : State → State → Prop
  | answer {s t : State} : Answer true true s t → Course s t
  | onward {s t : State} : Onward s t → Course s t
  | trans {s t u : State} : Course s t → Course t u → Course s u

namespace Course

theorem refl (s : State) : Course s s := .onward (.refl s)

theorem life (h : Course s t) : t.life.stepless = s.life.stepless := by
  induction h with
  | answer h => rw [h.life]
  | onward h => exact h.life
  | trans _ _ ih ih' => exact ih'.trans ih

theorem station (h : Course s t) : t.station = s.station := by
  have hlife := congrArg Life.station h.life
  exact hlife

theorem bumpTimer (h : Course s t) : t.life.bumpTimer = s.life.bumpTimer := by
  have hlife := congrArg Life.bumpTimer h.life
  exact hlife

theorem straps (h : Course s t) : t.life.straps = s.life.straps := by
  have hlife := congrArg Life.straps h.life
  exact hlife

theorem role (h : Course s t) : t.role = s.role := congrArg Straps.role h.straps
theorem addr (h : Course s t) : t.addr = s.addr := congrArg Straps.address h.straps

theorem reason (h : Course s t) :
    t.life.leaving.map (fun l => l.reason) = s.life.leaving.map (fun l => l.reason) := by
  have hleaving := congrArg (fun l : Life => l.leaving.map (fun v => v.reason)) h.life
  simpa only [Life.stepless, Option.map_map, Function.comp_def] using hleaving

theorem lnu (h : Course s t) : t.lnu = s.lnu := by
  induction h with
  | answer h => exact h.lnu
  | onward h => exact h.lnu
  | trans _ _ ih ih' => exact ih'.trans ih

theorem announceTimer (h : Course s t) : t.cen.announceTimer = s.cen.announceTimer := by
  induction h with
  | answer h => exact h.clock.1
  | onward h => rw [h.cen]
  | trans _ _ ih ih' => exact ih'.trans ih

theorem slots (h : Course s t) {i : SlotId} (hi : s.station.answers i = false) (hi' : i.ofLeaving = false) :
    t.slot i = s.slot i := by
  induction h with
  | answer h => exact h.kept_slot hi
  | onward h => exact h.slots i hi'
  | trans h _ ih ih' => exact (ih' (by rw [h.station]; exact hi)).trans (ih hi)

theorem writeSupply (s : State) (x : SupplyState) (capacity : Nat) : Course s (s.writeSupply x capacity) :=
  .trans (.onward (.spm s { s.spm with state := x, capacity := capacity }))
    (.answer (.selfPart _ fun e => e.updSupply_partWrite _))

theorem leaveSupply (s : State) : Course s s.leaveSupply := by
  have htold : Course s ((s.writeSupply .offline 0).raiseIf (s.spm.state != .offline) (.supplyState .offline)) :=
    (writeSupply s _ _).trans (.answer (.raiseIf _ _ _))
  exact (htold.trans (.onward (.spm _ _))).trans (.onward (.request _ rfl))

theorem leaveRole (s : State) (hstep : s.station = .leaving → ∀ l, s.life.leaving = some l → l.step ≠ .departure) :
    Course s s.leaveRole := by
  unfold State.leaveRole
  split
  · have hanswer : Answer true true s (s.evalBlade true .both s) := .evalBlade s _ _ _
    rcases (s.evalBlade true .both s).advanceLeaving_cases with ⟨l, hx, hl, hdeparture, -⟩ | h
    · exact absurd hdeparture (hstep (hanswer.station.symm.trans hx) l (by rw [← hanswer.life]; exact hl))
    · exact (Course.answer hanswer).trans (.onward h)
  · exact (Course.answer (.settleDrive s)).trans (.onward (.beginRelease _))
  · exact leaveSupply s
  · refine Course.trans ?_ (.onward (.request _ rfl))
    split
    · exact refl s
    · exact .answer (.writeOffer s (Nat.zero_le _))

end Course

/-! ## Entry to LEAVING -/

theorem State.removeClaim_eq (s : State) (i : SlotId) : s.removeClaim i = { s with pbc := (s.removeClaim i).pbc } := by
  unfold State.removeClaim
  split
  · rfl
  · split <;> rfl

theorem State.removeClaim_onLine (s : State) (i : SlotId) : (s.removeClaim i).pbc.onLine = s.pbc.onLine := by
  unfold State.removeClaim
  split
  · rfl
  · split <;> rfl

theorem Pbc.sending_congr {p q : Pbc} (h : p.onLine = q.onLine) (i : SlotId) : p.sending i = q.sending i := by
  simp only [Pbc.sending, h]

theorem State.removeClaim_other (s : State) {i j : SlotId} (h : j ≠ i) : (s.removeClaim i).slot j = s.slot j := by
  unfold State.removeClaim
  split
  · rfl
  · split <;> exact State.setSlot_slot_other _ _ h

theorem State.removeClaim_self (s : State) (i : SlotId) :
    (s.pbc.sending i = false → (s.removeClaim i).slot i = none) ∧
    ∀ f, s.pbc.sending i = true → s.slot i = some f → (s.removeClaim i).slot i = some { f with followOn := none } := by
  unfold State.removeClaim
  cases hf : s.slot i with
  | none => exact ⟨fun _ => hf, fun f _ h => by cases h⟩
  | some f =>
    refine ⟨fun hs => ?_, fun g hs hg => ?_⟩
    · simp only [hs, Bool.false_eq_true, if_false, State.setSlot_slot_self]
    · cases hg
      simp only [hs, if_true, State.setSlot_slot_self]

/-- The state of LEAVING in which the role begins to leave. -/
def State.leavingBegun (s : State) (reason : DepartReason) : State :=
  ((((s.removeClaim .powerClaim).removeClaim .laneClaim).updLife (fun l => { l with
    bumpTimer := none, leaving := some { reason := reason, step := firstStep s.role } })).enterState .leaving).ownStation
      (some .leaving)

theorem State.enterLeaving_eq (s : State) (reason : DepartReason) :
    s.enterLeaving reason = (s.leavingBegun reason).leaveRole := rfl

theorem State.leavingBegun_life (s : State) (reason : DepartReason) : (s.leavingBegun reason).life =
    { s.life with station := .leaving, bumpTimer := none,
                  leaving := some { reason := reason, step := firstStep s.role } } := by
  have hlife : ((s.removeClaim .powerClaim).removeClaim .laneClaim).life = s.life := by
    rw [State.removeClaim_eq, State.removeClaim_eq]
  unfold State.leavingBegun
  simp only [State.ownStation, State.updSelf_life, State.enterState, State.raise_life, State.updLife_life, hlife]

theorem State.leavingBegun_slot (s : State) (reason : DepartReason) (i : SlotId) :
    (s.leavingBegun reason).slot i = ((s.removeClaim .powerClaim).removeClaim .laneClaim).slot i := rfl

theorem State.leavingBegun_announceTimer (s : State) (reason : DepartReason) :
    (s.leavingBegun reason).cen.announceTimer = s.cen.announceTimer := by
  have hcen : ((s.removeClaim .powerClaim).removeClaim .laneClaim).cen = s.cen := by
    rw [State.removeClaim_eq, State.removeClaim_eq]
  have htimer := congrArg Census.announceTimer hcen
  exact htimer

theorem firstStep_ne_departure (r : Role) : firstStep r ≠ .departure := by cases r <;> decide

theorem State.enterLeaving_course (s : State) (reason : DepartReason) :
    Course (s.leavingBegun reason) (s.enterLeaving reason) := by
  refine Course.leaveRole _ fun _ l hl => ?_
  rw [s.leavingBegun_life] at hl
  cases hl
  exact firstStep_ne_departure _

theorem State.enterLeaving_station (s : State) (reason : DepartReason) : (s.enterLeaving reason).station = .leaving := by
  rw [(s.enterLeaving_course reason).station, State.station, s.leavingBegun_life]

theorem State.enterLeaving_reason (s : State) (reason : DepartReason) :
    (s.enterLeaving reason).life.leaving.map (fun l => l.reason) = some reason := by
  rw [(s.enterLeaving_course reason).reason, s.leavingBegun_life]
  rfl

theorem State.enterLeaving_bumpTimer (s : State) (reason : DepartReason) :
    (s.enterLeaving reason).life.bumpTimer = none := by
  rw [(s.enterLeaving_course reason).bumpTimer, s.leavingBegun_life]

theorem State.respond_slot (s : State) (x : PortStatus) (data : List Byte) (i : SlotId) :
    (s.respond x data).slot i = s.slot i := rfl

/-- Settles O20: the claims are removed before the station enters LEAVING, where no role requests one. -/
theorem leaveEntersLeaving : Obligations.LeaveEntersLeaving := by
  intro s hjoined hstoring
  have hfree : s.portFree := ⟨by rw [hjoined]; decide, hstoring⟩
  have htaken : (s.station == .joined) = true := by rw [hjoined]; rfl
  have hcourse := s.newEvent.enterLeaving_course .host
  refine ⟨(s.newEvent.enterLeaving .host).respond .ok (noData s), ?_, rfl, s.newEvent.enterLeaving_station _,
    s.newEvent.enterLeaving_reason _, s.newEvent.enterLeaving_bumpTimer _,
    hcourse.announceTimer.trans (s.newEvent.leavingBegun_announceTimer _), fun i hi => ?_⟩
  · rw [exec_leave, State.command_of_taken _ _ _ hfree htaken]
  have hkept : (s.newEvent.enterLeaving .host).slot i = (s.newEvent.leavingBegun .host).slot i := by
    refine hcourse.slots ?_ ?_
    · rw [State.station, s.newEvent.leavingBegun_life]
      rcases hi with rfl | rfl <;> rfl
    · rcases hi with rfl | rfl <;> rfl
  rw [State.respond_slot, hkept, State.leavingBegun_slot]
  rcases hi with rfl | rfl
  · rw [State.removeClaim_other _ (by decide)]
    exact s.newEvent.removeClaim_self .powerClaim
  · have hself := (s.newEvent.removeClaim .powerClaim).removeClaim_self .laneClaim
    rw [Pbc.sending_congr (s.newEvent.removeClaim_onLine .powerClaim),
      s.newEvent.removeClaim_other (i := .powerClaim) (j := .laneClaim) (by decide)] at hself
    exact hself

/-! ## The ejector latch and the bump window (R58, R184, R185) -/

theorem exec_ejectorLatchSet (s : State) : exec .ejectorLatchSet s =
    .next (if s.station == .start then s.setEjectorLatch else s.setEjectorLatch.consumeEjector) := rfl
theorem exec_bumpWindowExpiry (s : State) : exec .bumpWindowExpiry s =
    .next (if s.station == .joined && s.life.bumpTimer.running then s.newEvent.endBump else s) := rfl

theorem exec_bumpWindowExpiry_of_running (hx : s.station = .joined) (hb : s.life.bumpTimer ≠ none) :
    exec .bumpWindowExpiry s = .next s.newEvent.endBump := by
  rw [exec_bumpWindowExpiry, if_pos (by simp [hx, (Timer.running_iff _).mpr hb])]

theorem State.consumeEjector_eq (s : State) : s.setEjectorLatch.consumeEjector = { s with
    lnu := { s.lnu with ejectorLatch := false, ejectorCopy := true },
    life := { s.life with bumpTimer := if s.station = .joined ∧ s.life.bumpTimer = none then some 200
                                       else s.life.bumpTimer } } := by
  have hstarts : (s.station == .joined && !s.life.bumpTimer.running) = true ↔
      s.station = .joined ∧ s.life.bumpTimer = none := by
    rw [Bool.and_eq_true, beq_iff_eq, Bool.not_eq_true', ← Bool.not_eq_true, Timer.running_iff, Classical.not_not]
  unfold State.consumeEjector
  by_cases h : s.station = .joined ∧ s.life.bumpTimer = none
  · rw [if_pos h, show s.setEjectorLatch.station = s.station from rfl,
      show s.setEjectorLatch.life = s.life from rfl, if_pos (hstarts.mpr h)]
    rfl
  · rw [if_neg h, show s.setEjectorLatch.station = s.station from rfl,
      show s.setEjectorLatch.life = s.life from rfl, if_neg (mt hstarts.mp h)]
    rfl

/-- Settles O28: the latch passes at once past START, and the end of the window reads the debounced EJECTOR. -/
theorem ejectorLatchAndBumpWindow : Obligations.EjectorLatchAndBumpWindow := by
  intro s
  refine ⟨fun hx => ?held, fun hx => ?consumed, fun hx hb ho => ?leaves, fun hx hb ho => ?bump, fun h => ?still⟩
  case held =>
    rw [exec_ejectorLatchSet, hx]
    rfl
  case consumed => rw [exec_ejectorLatchSet, if_neg (by simpa using hx), State.consumeEjector_eq]
  case leaves =>
    refine ⟨_, exec_bumpWindowExpiry_of_running hx hb, ?_⟩
    rw [State.endBump, if_pos (show s.newEvent.ejectorOpen = true from ho)]
    exact ⟨State.enterLeaving_station _ _, State.enterLeaving_reason _ _, State.enterLeaving_bumpTimer _ _⟩
  case bump =>
    refine ⟨_, exec_bumpWindowExpiry_of_running hx hb, ?_⟩
    rw [State.endBump, if_neg (show ¬ s.newEvent.ejectorOpen = true by rw [show s.newEvent.ejectorOpen = false from ho]; decide)]
    exact ⟨rfl, rfl, rfl, rfl, rfl⟩
  case still =>
    rw [exec_bumpWindowExpiry, if_neg]
    rw [Bool.and_eq_true, beq_iff_eq, Timer.running_iff]
    exact not_and_of_not_or_not (h.imp_right fun hnone hne => hne hnone)

end Sys2Proof.Machine
end

section
/-! PROOFS. A peer's accepted frame at a station that hears it (R9 to R11, R19, R26): the census of the frame, the answer of
the role blocks to it, and what the entry of its sender shows after both. -/

namespace Sys2Proof.Machine

variable {s t : State}

/-! ## From the command to the census (R11) -/

theorem exec_of_acceptedFrame {i : Instr} {a : Addr} {p : Payload} {check : Half}
    (h : i.acceptedFrame = some (a, p, check)) (s : State) : exec i s = .next (s.accept a p check) := by
  cases i <;> cases h <;> rfl

theorem frameOf_checkPasses (a : Addr) (p : Payload) (check : Half) :
    (frameOf a p check).checkPasses = (checkOf a p == check) := rfl

theorem frameOf_wellFormed (a : Addr) (p : Payload) (check : Half) : (frameOf a p check).wellFormed = true := by
  have hkind : ∀ k : FrameKind, (match FrameKind.ofCode (BitVec.ofNat 4 k.code).toNat with
      | none => false
      | some j => j.cls == (BitVec.ofNat 3 k.cls).toNat && j.length == (BitVec.ofNat 5 k.length).toNat) = true := by
    intro k; cases k <;> rfl
  exact hkind p.kind

theorem frameOf_bad (a : Addr) (p : Payload) (check : Half) : (frameOf a p check).bad = !(checkOf a p == check) := by
  rw [FrameRead.bad, frameOf_wellFormed, frameOf_checkPasses]
  rfl

theorem State.countFrame_nothing (s : State) : s.countFrame false false = s := by
  unfold State.countFrame
  split <;> rfl

theorem State.ownAttempt_of_peer {a : Addr} (h : a ≠ s.addr) (p : Payload) (check : Half) :
    s.ownAttempt (frameOf a p check) (some p) = none := by
  unfold State.ownAttempt
  cases s.pbc.onLine with
  | none => rfl
  | some o =>
    have hsender : ((frameOf a p check).sender == s.addr) = false := by simpa [frameOf] using h
    simp [Option.filter, hsender]

theorem State.endOther_of_sound {a : Addr} (hx : s.station.listening = true ∨ s.station = .mute) (ha : a ≠ s.addr)
    (p : Payload) : s.endOther (frameOf a p (checkOf a p)) (some p) false = s.hearOther a (some p) := by
  have hclash : ((frameOf a p (checkOf a p)).sender == s.addr) = false := by simpa [frameOf] using ha
  have hbad : (frameOf a p (checkOf a p)).bad = false := by rw [frameOf_bad]; simp
  have hpass : (frameOf a p (checkOf a p)).checkPasses = true := by rw [frameOf_checkPasses]; simp
  have hcount : ∀ b, (!true || b) = b := fun b => rfl
  unfold State.endOther State.endListening State.endMuted
  split
  case h_4 => simp only [hbad, hpass, Bool.not_true, s.countFrame_nothing]; rfl
  case h_5 => rename_i hy; rw [hy] at hx; rcases hx with hx | hx <;> cases hx
  case h_6 => rename_i hy; rw [hy] at hx; rcases hx with hx | hx <;> cases hx
  case h_7 => rename_i hy; rw [hy] at hx; rcases hx with hx | hx <;> cases hx
  all_goals
    simp only [hclash, hbad, hpass, Bool.not_true, Bool.or_false, s.countFrame_nothing]
    rfl

theorem StationState.hearing {x : StationState} (h : x = .listen ∨ x = .joined ∨ x = .leaving ∨ x = .mute) :
    (x.listening = true ∨ x = .mute) ∧ x.followsLine = true ∧ x.apart = false := by
  rcases h with rfl | rfl | rfl | rfl <;> simp [StationState.listening, StationState.followsLine, StationState.running, StationState.apart]

/-- A frame that reaches the census there takes its effects, and the role blocks answer. -/
theorem State.accept_of_hears {a : Addr} {p : Payload} {check : Half} (h : s.hears a p check) :
    s.accept a p check = (s.newEvent.applyFrame a false p).react s.cen .both s.newEvent := by
  obtain ⟨hsynced, hx, ha, rfl⟩ := h
  obtain ⟨hlisten, hfollows, -⟩ := StationState.hearing hx
  have hline : (s.newEvent.pbc.synced && s.newEvent.station.followsLine) = true := by
    rw [Bool.and_eq_true]; exact ⟨hsynced, hfollows⟩
  unfold State.accept State.endFrame
  rw [if_pos hline, State.ownAttempt_of_peer (s := s.newEvent) ha]
  exact State.endOther_of_sound (s := s.newEvent) hlisten ha p

theorem State.hearFrame_peer {a : Addr} (ha : a ≠ s.addr) (p : Payload) :
    s.hearFrame a false p = (if p.kind = .depart then s else s.hear a).takeContents s.cen a false p := by
  unfold State.hearFrame
  rw [if_neg (by decide), if_neg (by simpa using ha)]
  by_cases hp : p.kind = .depart <;> simp [hp]

/-! ## What the answer makes of the own offer -/

namespace Answer

variable {o w : Bool}

theorem self_eq (h : Answer o w s t) : t.self = t.entry s.addr := by
  rw [State.self, h.addr]
  rfl

theorem weaken (h : Answer false w s t) : Answer o w s t := by
  induction h with
  | refl s => exact refl s
  | trans _ _ ih ih' => exact ih.trans ih'
  | events s es => exact events s es
  | census s hsteps hclock => exact census s hsteps hclock
  | offer s hoffers => cases hoffers
  | flags s hacting => exact flags s hacting _ _
  | request s hr => exact request s hr
  | trim s wanted hi => exact trim s wanted hi
  | client s c hwishes => exact client s c hwishes
  | rails s r hseq howns => exact rails s r hseq howns
  | fans s hrole hf => exact fans s hrole hf
  | lanePort s l hrole hrecord => exact lanePort s l hrole hrecord

/-- The offer logic leaves the own offer, or writes another one. -/
theorem evalOffer_either (s : State) : Answer false w s s.evalOffer ∨ (Answer true w s s.evalOffer ∧
    (s.cen.Shaped → s.self.role = some .uplink → s.evalOffer.self.offer ≠ s.self.offer)) := by
  by_cases hk : (s.offerNow == s.self.offer) = true
  · have hstay : s.evalOffer = s := by unfold State.evalOffer; simp [hk]
    rw [hstay]
    exact .inl (refl s)
  · refine .inr ⟨evalOffer s, fun hs hup => ?_⟩
    have hne : s.offerNow ≠ s.self.offer := by simpa using hk
    have hwrite : s.evalOffer = (s.writeOffer s.offerNow).requestIf
        (s.station == .joined && decide (s.offerNow < s.self.offer)) (.lanesDrop s.offerNow) := by
      unfold State.evalOffer; simp [hk]
    have hfirst : Answer true false s (s.updCen (fun c => c.setOffer s.addr s.offerNow)) := offer s rfl (offerNow_le s hne)
    have hrest : Answer false false (s.updCen (fun c => c.setOffer s.addr s.offerNow)) (s.writeOffer s.offerNow) :=
      (followUp _ _ _).trans (followTable _ _)
    have hoffer : (s.writeOffer s.offerNow).self.offer = s.offerNow := by
      rw [hrest.self_eq, hrest.entryOffer (hfirst.shapedCen hs) (.inr rfl)]
      refine (hs.setOffer_offer s.addr s.offerNow s.addr).trans ?_
      have hisSome : (s.cen.get s.addr).uplink.isSome = true := by
        have hrole : (s.cen.get s.addr).role = some .uplink := hup
        cases hp : (s.cen.get s.addr).part <;> simp [Entry.role, hp] at hrole
        simp [Entry.uplink, hp]
      rw [if_pos rfl, if_pos hisSome]
    have hself : (s.evalOffer).self = (s.writeOffer s.offerNow).self := by
      rw [hwrite]
      simp only [State.self, State.addr, State.requestIf_cen, State.requestIf_life]
    rw [hself]
    exact fun he => hne (hoffer.symm.trans he)

/-- The evaluation of the role blocks leaves the own offer, or writes another one. -/
theorem evalRoles_either (s : State) (pre : Census) (force : Bool) (points : Points) (before : State) :
    ∃ o, Answer o true s (s.evalRoles pre force points before) ∧ (o = true → s.cen.Shaped → s.self.role = some .uplink →
      (s.evalRoles pre force points before).self.offer ≠ s.self.offer) := by
  have hfront : Answer false true s ((s.evalBlade force points before).settleDrive) :=
    (evalBlade s force points before).trans (settleDrive _)
  rw [show s.evalRoles pre force points before =
    (((s.evalBlade force points before).settleDrive).evalUplink pre).evalEssential from rfl]
  generalize (s.evalBlade force points before).settleDrive = u at hfront ⊢
  by_cases hup : (u.isUplink && u.station.running) = true
  · have hrole : u.role = .uplink := by simp [State.isUplink] at hup; exact hup.1
    have heval : u.evalUplink pre = (u.followTable pre).evalOffer.evalXbar := by unfold State.evalUplink; rw [if_pos hup]
    rw [heval]
    have htable : Answer false true s (u.followTable pre) := hfront.trans (followTable u pre)
    have htail : ∀ v : State, v.role = .uplink → Answer false true v v.evalXbar.evalEssential := fun v hv =>
      (evalXbar hv).trans (evalEssential _)
    have hrole' : (u.followTable pre).role = .uplink := (followTable (o := false) (w := true) u pre).role.trans hrole
    rcases evalOffer_either (w := true) (u.followTable pre) with h | ⟨h, hne⟩
    · exact ⟨false, (htable.trans h).trans (htail _ (h.role.trans hrole')), fun he => by cases he⟩
    · refine ⟨true, (htable.weaken.trans h).trans (htail _ (h.role.trans hrole')).weaken, fun _ hs hself => ?_⟩
      · have hself' : (u.followTable pre).self.role = some .uplink := by
          rw [htable.self_eq, htable.entryRole hs]; exact hself
        have hoffer : (u.followTable pre).self.offer = s.self.offer := by
          rw [htable.self_eq, htable.entryOffer hs (.inr rfl)]; rfl
        have hlast := (htail (u.followTable pre).evalOffer (h.role.trans hrole'))
        have hsame : (u.followTable pre).evalOffer.evalXbar.evalEssential.self.offer = (u.followTable pre).evalOffer.self.offer := by
          rw [hlast.self_eq, hlast.entryOffer (h.shapedCen (htable.shapedCen hs)) (.inr rfl)]; rfl
        rw [hsame, ← hoffer]
        exact hne (htable.shapedCen hs) hself'
  · have heval : u.evalUplink pre = u := by unfold State.evalUplink; rw [if_neg hup]
    rw [heval]
    exact ⟨false, hfront.trans (evalEssential u), fun he => by cases he⟩

end Answer
end Sys2Proof.Machine
end

section
/-! PROOFS. What an answer leaves of a station's lanes and lane claim; the outcome of a peer's frame; its sender is LIVE. -/

namespace Sys2Proof.Machine

variable {s t : State}

/-! ## Lanes and lane claims under an answer -/

theorem Census.Shaped.lanesOf_eq_nil {c : Census} (hs : c.Shaped) (v a : Addr) :
    (c.get v).lanesOf a = [] ↔ ∀ k, (c.get v).owner k ≠ some a := by
  rw [List.eq_nil_iff_forall_not_mem]
  refine forall_congr' fun k => ?_
  rw [Entry.mem_lanesOf]
  exact ⟨fun h ho => h ⟨Entry.owner_lt (hs.tables v) ho, ho⟩, fun h ho => h ho.2⟩

namespace Answer

variable {o w : Bool} (h : Answer o w s t) (hs : s.cen.Shaped) {a : Addr} (ha : a ≠ s.addr)
include h hs ha

theorem served {u : Addr} {n : Nat} (hu : u ≠ s.addr ∨ o = false) (hoffer : (s.entry u).offer ≤ Config.lanes)
    (hserved : s.cen.Served a u n) : t.cen.Served a u n := by
  refine (h.kept_entry hs (P := fun c c' => (c.get u).offer ≤ Config.lanes ∧ c.Served a u n →
    (c'.get u).offer ≤ Config.lanes ∧ c'.Served a u n) (fun _ h => h) (fun _ _ _ h h' hc => h' (h hc))
    (fun c c' hc hst hp => ⟨Nat.le_trans (Nat.le_of_eq (CenSteps.offer hst hc u)) hp.1, CenSteps.served hst hc ha hp.1 hp.2⟩)
    (fun _ _ _ hp => hp) (fun c k hc ho hp => ?_) ⟨hoffer, hserved⟩).2
  have hu' : u ≠ s.addr := hu.resolve_right (by rw [ho]; decide)
  refine ⟨by rw [hc.setOffer_offer, if_neg hu']; exact hp.1, ?_⟩
  rcases hp.2 with ⟨hwait, hnone⟩ | ⟨hdone, hlen⟩
  · exact .inl ⟨hc.setOffer_laneClaim_other k hwait hu', fun v j ho' => hnone v j (hc.setOffer_owner_some ho').1⟩
  · refine .inr ⟨hc.setOffer_laneClaim_none k hdone, ?_⟩
    rw [← hlen]
    simp only [Entry.lanesOf]
    congr 1
    refine List.filter_congr fun j _ => ?_
    exact congrArg (· == some a) (hc.setOffer_owner_other k j hu')

/-- A station without a lane claim gains no lane, and loses none but on the own uplink as its offer changes. -/
theorem unclaimedLanes (hnone : (s.entry a).laneClaim = none) : (t.entry a).laneClaim = none ∧
    ∀ v k, ((t.entry v).owner k = some a → (s.entry v).owner k = some a) ∧
      (v ≠ s.addr ∨ o = false → (s.entry v).owner k = some a → (t.entry v).owner k = some a) := by
  refine h.kept_entry hs (P := fun c c' => (c.get a).laneClaim = none → (c'.get a).laneClaim = none ∧
    ∀ v k, ((c'.get v).owner k = some a → (c.get v).owner k = some a) ∧
      (v ≠ s.addr ∨ o = false → (c.get v).owner k = some a → (c'.get v).owner k = some a)) ?_ ?_ ?_ ?_ ?_ hnone
  · exact fun _ hn => ⟨hn, fun _ _ => ⟨id, fun _ => id⟩⟩
  · intro c c' c'' hcc hcc' hn
    obtain ⟨hn', hl⟩ := hcc hn
    obtain ⟨hn'', hl'⟩ := hcc' hn'
    exact ⟨hn'', fun v k => ⟨(hl v k).1 ∘ (hl' v k).1, fun hv => (hl' v k).2 hv ∘ (hl v k).2 hv⟩⟩
  · intro c c' hc hst hn
    obtain ⟨hn', hl⟩ := CenSteps.unclaimedLanes hst hc ha hn
    exact ⟨hn', fun v k => ⟨(hl v k).mp, fun _ => (hl v k).mpr⟩⟩
  · exact fun _ _ _ hn => ⟨hn, fun _ _ => ⟨id, fun _ => id⟩⟩
  · intro c k hc ho hn
    refine ⟨hc.setOffer_laneClaim_none k hn, fun v j => ⟨fun hv => (hc.setOffer_owner_some hv).1, fun hv hj => ?_⟩⟩
    rw [hc.setOffer_owner_other k j (hv.resolve_right (by rw [ho]; decide))]
    exact hj

theorem unclaimedNil (hnone : (s.entry a).laneClaim = none) {v : Addr} (hv : (s.entry v).lanesOf a = []) :
    (t.entry v).lanesOf a = [] := by
  obtain ⟨-, hl⟩ := h.unclaimedLanes hs ha hnone
  refine ((h.shapedCen hs).lanesOf_eq_nil v a).mpr fun k ho => ?_
  exact (hs.lanesOf_eq_nil v a).mp hv k ((hl v k).1 ho)

theorem unclaimedSame (hnone : (s.entry a).laneClaim = none) {v : Addr} (hv : v ≠ s.addr ∨ o = false) :
    (t.entry v).lanesOf a = (s.entry v).lanesOf a := by
  obtain ⟨-, hl⟩ := h.unclaimedLanes hs ha hnone
  simp only [Entry.lanesOf]
  refine List.filter_congr fun k _ => ?_
  rw [Bool.eq_iff_iff, beq_iff_eq, beq_iff_eq]
  exact ⟨(hl v k).1, (hl v k).2 hv⟩

/-- A station without power and without a power claim gains no lane. -/
theorem powerlessNil (hpower : (s.entry a).Powerless) (hnil : ∀ v, (s.entry v).lanesOf a = []) (v : Addr) :
    (t.entry v).lanesOf a = [] := by
  refine ((h.shapedCen hs).lanesOf_eq_nil v a).mpr ((h.kept_entry hs (P := fun c c' =>
    (c.get a).Powerless ∧ (∀ v k, (c.get v).owner k ≠ some a) → (c'.get a).Powerless ∧ ∀ v k, (c'.get v).owner k ≠ some a)
    (fun _ h => h) (fun _ _ _ h h' hc => h' (h hc)) ?_ (fun _ _ _ h => h) ?_
    ⟨hpower, fun v => (hs.lanesOf_eq_nil v a).mp (hnil v)⟩).2 v)
  · rintro c c' hc hst ⟨hp, hn⟩
    exact ⟨CenSteps.powerless hst hc hp, fun v k ho =>
      hn v k (((CenSteps.powerlessLanes hst hc ha hp.1 hp.2).2 v k).mp ho)⟩
  · rintro c k hc - ⟨hp, hn⟩
    exact ⟨⟨(hc.setOffer_held s.addr k a).trans hp.1, (hc.setOffer_claim s.addr k a).trans hp.2⟩,
      fun v j ho => hn v j (hc.setOffer_owner_some ho).1⟩

end Answer

/-! ## The outcome of a peer's frame -/

/-- What a station that answers an event comes to, but for the end of a leaving: an answer of the role blocks, which may
change the own offer, and a step of the leaving. -/
def Answered (s t : State) : Prop :=
  ∃ o v, Answer o true s v ∧ Onward v t ∧
    (o = true → s.cen.Shaped → s.self.role = some .uplink → (t.entry s.addr).offer ≠ (s.entry s.addr).offer)

theorem State.react_answered (s : State) (pre : Census) (points : Points) (before : State) :
    leftLeaving s (s.react pre points before) ∨ Answered s (s.react pre points before) := by
  refine (s.react_outcome pre points before).imp_right fun hon => ?_
  obtain ⟨o, hanswer, hoffer⟩ := Answer.evalRoles_either s pre false points before
  refine ⟨o, _, hanswer, hon, fun ho hs hup => ?_⟩
  have hne := hoffer ho hs hup
  rw [hanswer.self_eq] at hne
  rw [State.entry, hon.cen]
  exact hne

/-- An answer that leaves the offer comes first, as a follow-up does. -/
theorem Answered.after {u : State} (h : Answer false true s t) (h' : Answered t u) : Answered s u := by
  obtain ⟨o, v, hanswer, hon, hoffer⟩ := h'
  refine ⟨o, v, h.weaken.trans hanswer, hon, fun ho hs hup => ?_⟩
  have hup' : t.self.role = some .uplink := by rw [h.self_eq, h.entryRole hs]; exact hup
  have hne := hoffer ho (h.shapedCen hs) hup'
  rwa [h.addr, h.entryOffer hs (.inr rfl)] at hne

theorem State.applyFrame_react (s : State) (a : Addr) (p : Payload) (pre : Census) (points : Points) (before : State) :
    leftLeaving s ((s.applyFrame a false p).react pre points before) ∨
      Answered (s.hearFrame a false p) ((s.applyFrame a false p).react pre points before) := by
  rcases (s.applyFrame a false p).react_answered pre points before with ⟨hx, ht⟩ | h
  · refine .inl ⟨?_, ht⟩
    rw [← hx, State.station, State.station, State.life_of_fixed (s.applyFrame_fixed a false p)]
  · exact .inr (Answered.after (Answer.followUp _ _ _) h)

/-- What a station makes of a frame that reaches it. -/
theorem exec_of_hears {i : Instr} {a : Addr} {p : Payload} {check : Half} (hi : i.acceptedFrame = some (a, p, check))
    (h : s.hears a p check) : ∃ t, exec i s = .next t ∧
      (leftLeaving s t ∨ Answered (s.newEvent.hearFrame a false p) t) := by
  refine ⟨_, exec_of_acceptedFrame hi s, ?_⟩
  rw [State.accept_of_hears h]
  exact s.newEvent.applyFrame_react a p s.cen .both s.newEvent

namespace Answered

variable (h : Answered s t) (hs : s.cen.Shaped) (b : Addr)
include h

theorem clock : t.cen.announceTimer = s.cen.announceTimer ∧ t.cen.ownAnnounced = s.cen.ownAnnounced ∧
    t.cen.anomalies = s.cen.anomalies := by
  obtain ⟨o, v, hanswer, hon, -⟩ := h
  rw [hon.cen]
  exact hanswer.clock

theorem kept_slot {i : SlotId} (hi : s.station.answers i = false) (hi' : i.ofLeaving = false) : t.slot i = s.slot i := by
  obtain ⟨o, v, hanswer, hon, -⟩ := h
  exact (hon.slots i hi').trans (hanswer.kept_slot hi)

include hs

theorem core : (t.entry b).core = (s.entry b).core := by
  obtain ⟨o, v, hanswer, hon, -⟩ := h
  rw [State.entry, hon.cen]
  exact hanswer.core hs b

theorem entryRole : (t.entry b).role = (s.entry b).role := by
  obtain ⟨o, v, hanswer, hon, -⟩ := h
  rw [State.entry, hon.cen]
  exact hanswer.entryRole hs b

theorem vacant (hb : s.entry b = Entry.vacant) : t.entry b = Entry.vacant := by
  obtain ⟨o, v, hanswer, hon, -⟩ := h
  rw [State.entry, hon.cen]
  exact hanswer.vacant hs b hb

variable {b} (hb : b ≠ s.addr)
include hb

theorem face : (t.entry b).part.face = (s.entry b).part.face := by
  obtain ⟨o, v, hanswer, hon, -⟩ := h
  rw [State.entry, hon.cen]
  exact hanswer.face hs hb

theorem admitted : (s.entry b).Admitted (t.entry b) := by
  obtain ⟨o, v, hanswer, hon, -⟩ := h
  show (s.entry b).Admitted (t.cen.get b)
  rw [hon.cen]
  exact hanswer.admitted hs hb

theorem offer : (t.entry b).offer = (s.entry b).offer := by
  obtain ⟨o, v, hanswer, hon, -⟩ := h
  rw [State.entry, hon.cen]
  exact hanswer.entryOffer hs (.inl hb)

theorem unclaimed (hnone : (s.entry b).laneClaim = none) : (t.entry b).laneClaim = none := by
  obtain ⟨o, v, hanswer, hon, -⟩ := h
  rw [State.entry, hon.cen]
  exact (hanswer.unclaimedLanes hs hb hnone).1

theorem unclaimedNil (hnone : (s.entry b).laneClaim = none) {v : Addr} (hv : (s.entry v).lanesOf b = []) :
    (t.entry v).lanesOf b = [] := by
  obtain ⟨o, u, hanswer, hon, -⟩ := h
  rw [State.entry, hon.cen]
  exact hanswer.unclaimedNil hs hb hnone hv

theorem powerlessNil (hpower : (s.entry b).Powerless) (hnil : ∀ v, (s.entry v).lanesOf b = []) (v : Addr) :
    (t.entry v).lanesOf b = [] := by
  obtain ⟨o, u, hanswer, hon, -⟩ := h
  rw [State.entry, hon.cen]
  exact hanswer.powerlessNil hs hb hpower hnil v

variable {u : Addr} (hrole : u = s.addr → (s.entry u).role = some .uplink)
include hrole

/-- The lanes of an unclaiming peer on an uplink stand, unless that is the own uplink and its offer has changed. -/
theorem unclaimedSame (hnone : (s.entry b).laneClaim = none) :
    (t.entry u).lanesOf b = (s.entry u).lanesOf b ∨ (u = s.addr ∧ (t.entry u).offer ≠ (s.entry u).offer) := by
  obtain ⟨o, v, hanswer, hon, hoffer⟩ := h
  by_cases hu : u = s.addr ∧ o = true
  · obtain ⟨rfl, ho⟩ := hu
    exact .inr ⟨rfl, hoffer ho hs (hrole rfl)⟩
  · refine .inl ?_
    rw [State.entry, hon.cen]
    refine hanswer.unclaimedSame hs hb hnone ?_
    rcases Classical.not_and_iff_not_or_not.mp hu with hu | hu
    · exact .inl hu
    · exact .inr (by simpa using hu)

theorem served {n : Nat} (hoffer8 : (s.entry u).offer ≤ Config.lanes) (hserved : s.cen.Served b u n) :
    t.cen.Served b u n ∨ (u = s.addr ∧ (t.entry u).offer ≠ (s.entry u).offer) := by
  obtain ⟨o, v, hanswer, hon, hoffer⟩ := h
  by_cases hu : u = s.addr ∧ o = true
  · obtain ⟨rfl, ho⟩ := hu
    exact .inr ⟨rfl, hoffer ho hs (hrole rfl)⟩
  · refine .inl ?_
    rw [hon.cen]
    refine hanswer.served hs hb ?_ hoffer8 hserved
    rcases Classical.not_and_iff_not_or_not.mp hu with hu | hu
    · exact .inl hu
    · exact .inr (by simpa using hu)

end Answered

end Sys2Proof.Machine
end

section
/-! PROOFS. The pulse of an entry: its state and the timers that watch it (R26, R28, R29). The contents of a frame leave
it, but for a DEPART. -/

namespace Sys2Proof.Machine

variable {s t : State}

/-! ## Census operations keep an entry's core -/

section
variable {c : Census} (hs : c.Shaped) (a b : Addr)
include hs

theorem Census.Shaped.localZero_core : ((c.localZero a).get b).core = (c.get b).core :=
  CenStep.core (CenStep.selfZero (own := a) c) hs b

theorem Census.Shaped.setHeld_core (x : Nat) : ((c.setHeld a x).get b).core = (c.get b).core := by
  unfold Census.setHeld
  split
  · rw [hs.get_heldZero]
    split
    · exact (Entry.withoutLaneClaim_core _).trans (Entry.freeing_core _ _)
    · exact Entry.freeing_core _ _
  · rw [hs.get_upd]
    split
    · obtain ⟨o, ho⟩ := Entry.trimShed_eq ({ c.get b with held := x })
      rw [ho]
      rfl
    · rfl

theorem Census.Shaped.free_core : ((c.free a).get b).core = (c.get b).core := by
  rw [Census.free_eq]
  split
  · have hz := hs.localZero a
    have hemptied : ((c.localZero a).upd a Entry.emptied).Shaped := hz.upd fun e _ => e.emptied_tableOk
    rw [Census.mark_get, hemptied.get_dropLaneClaimsOn, Entry.core_of_bare (Entry.dropClaimOn_bare _ _), hz.get_upd]
    refine Eq.trans ?_ (hs.localZero_core a b)
    split
    · exact Entry.core_of_bare (Entry.updUplink_bare _ _)
    · rfl
  · exact hs.localZero_core a b

theorem Census.Shaped.dropLaneClaim_core : ((c.dropLaneClaim a).get b).core = (c.get b).core := by
  rw [hs.get_dropLaneClaim]
  split
  · exact Entry.withoutLaneClaim_core _
  · rfl

theorem Census.Shaped.putLaneClaim_core (u : Addr) (n : Nat) : ((c.putLaneClaim a u n).get b).core = (c.get b).core := by
  unfold Census.putLaneClaim
  rw [Census.mark_get, hs.get_upd]
  split
  · exact Entry.core_of_bare (Entry.updBlade_bare _ _)
  · rfl

theorem Census.Shaped.takeLaneClaim_core (u : Addr) (n : Nat) : ((c.takeLaneClaim a u n).get b).core = (c.get b).core := by
  refine ((hs.freeLanes a).putLaneClaim_core a b u n).trans ?_
  rw [hs.get_freeLanes, Entry.freeing_core]

theorem Census.Shaped.takeLaneRelease_core (u : Addr) : ((c.takeLaneRelease a u).get b).core = (c.get b).core := by
  have hfree : ((c.freeOn a u).get b).core = (c.get b).core := by
    rw [hs.get_freeOn]
    split
    · exact Entry.freeing_core _ _
    · rfl
  unfold Census.takeLaneRelease
  dsimp only
  split
  · split
    · exact ((hs.freeOn a u).dropLaneClaim_core a b).trans hfree
    · exact hfree
  · exact hfree

theorem Census.Shaped.setOffer_core (k : Nat) : ((c.setOffer a k).get b).core = (c.get b).core :=
  Entry.core_of_bare (hs.setOffer_bare a k b)

theorem Census.Shaped.announceLaneClaim_core (body : AnnounceBody) :
    ((c.announceLaneClaim a body).get b).core = (c.get b).core := by
  unfold Census.announceLaneClaim
  split
  · split
    · split
      · rfl
      · exact hs.putLaneClaim_core a b _ _
    · exact hs.dropLaneClaim_core a b
  · exact hs.dropLaneClaim_core a b

theorem Census.Shaped.announceLanes_core {body : AnnounceBody} (hb : body.Sound) :
    ((c.announceLanes a body).get b).core = (c.get b).core := by
  unfold Census.announceLanes
  split
  · rcases c.announceHold_cases a hb with ⟨u, lanes, -, hhon, heq, hlt⟩ | ⟨-, heq⟩ <;> rw [heq]
    · have hrelaned := (hs.honour (a := a) ((c.honours_iff _ u lanes).mp hhon).2.1 hlt).1
      exact (hrelaned.shaped.announceLaneClaim_core a b body).trans (Entry.core_of_bare (hrelaned.entries b).bare)
    · refine ((hs.freeLanes a).announceLaneClaim_core a b body).trans ?_
      rw [hs.get_freeLanes, Entry.freeing_core]
  all_goals rfl

end

/-! ## The pulse -/

/-- The state of an entry and the timers that watch it. -/
def Entry.pulse (e : Entry) : EntryState × Timer × Timer := (e.state, e.silence, e.staleHold)

theorem Entry.pulse_of_core {e e' : Entry} (h : e'.core = e.core) : e'.pulse = e.pulse := by
  have hpulse := congrArg Entry.pulse h
  exact hpulse

theorem Census.Shaped.announceEntry_pulse {c : Census} (hs : c.Shaped) (a b : Addr) (body : AnnounceBody) :
    ((c.announceEntry a body).get b).pulse = (c.get b).pulse := by
  have hsr := hs.announceRole a body
  have hrole : ((c.announceRole a body).get b).pulse = (c.get b).pulse := by
    unfold Census.announceRole
    split
    · rw [(hs.free a).get_upd]
      refine Eq.trans ?_ (Entry.pulse_of_core (hs.free_core a b))
      generalize (c.free a).get b = e
      split <;> rfl
    · rfl
  obtain ⟨hsp, hget⟩ := hsr.announcePart a body
  have hpart : (((c.announceRole a body).announcePart a body).get b).pulse = ((c.announceRole a body).get b).pulse := by
    rw [hget]
    split <;> rfl
  have hfields : (((c.announceRole a body).announceFields a body).get b).pulse = ((c.announceRole a body).get b).pulse := by
    rw [Census.announceFields_eq]
    split
    · exact (Entry.pulse_of_core (hsp.setOffer_core a b _)).trans hpart
    · exact hpart
  have hsf := hsr.announceFields a body
  unfold Census.announceEntry Census.announceLevels
  rw [(hsf.setHeld a _).get_upd]
  refine Eq.trans ?_ (hfields.trans hrole)
  refine Eq.trans ?_ (Entry.pulse_of_core (hsf.setHeld_core a b body.held))
  split <;> rfl

/-- The sizes of the census and the pulse of every entry are kept. -/
def SamePulse (s t : State) : Prop := s.cen.Shaped → t.cen.Shaped ∧ ∀ b, (t.entry b).pulse = (s.entry b).pulse

namespace SamePulse

theorem refl (s : State) : SamePulse s s := fun hs => ⟨hs, fun _ => rfl⟩

theorem trans {u : State} (h : SamePulse s t) (h' : SamePulse t u) : SamePulse s u := fun hs => by
  obtain ⟨ht, hst⟩ := h hs
  obtain ⟨hu, htu⟩ := h' ht
  exact ⟨hu, fun b => (htu b).trans (hst b)⟩

theorem ofIf {p : Prop} [Decidable p] {u : State} (h : SamePulse s t) (h' : SamePulse s u) :
    SamePulse s (if p then t else u) := by split <;> assumption

theorem sameEntries {t : State} (h : t.cen.entries = s.cen.entries) : SamePulse s t := fun hs =>
  ⟨hs.of_entries h, fun b => by rw [State.entry, State.entry, Census.get_congr h]⟩

theorem raiseIf (s : State) (b : Bool) (e : Event) : SamePulse s (s.raiseIf b e) := sameEntries (by rw [s.raiseIf_cen])

theorem anomaly (s : State) : SamePulse s s.anomaly := sameEntries rfl

theorem census (s : State) {f : Census → Census} (hshaped : s.cen.Shaped → (f s.cen).Shaped)
    (hcore : s.cen.Shaped → ∀ b, ((f s.cen).get b).core = (s.cen.get b).core) : SamePulse s (s.updCen f) :=
  fun hs => ⟨hshaped hs, fun b => Entry.pulse_of_core (hcore hs b)⟩

theorem updEntry (s : State) (a : Addr) {f : Entry → Entry} (hpart : ∀ e : Entry, e.tableOk → (f e).tableOk)
    (hpulse : ∀ e : Entry, (f e).pulse = e.pulse) : SamePulse s (s.updEntry a f) := fun hs =>
  ⟨hs.upd fun e he => hpart e he, fun b => by
    refine (congrArg Entry.pulse (hs.get_upd a b f)).trans ?_
    split
    · exact hpulse _
    · rfl⟩

theorem dropQuery (s : State) (u : Addr) : SamePulse s (s.dropQuery u) := by
  refine sameEntries ?_
  unfold State.dropQuery
  split
  · rfl
  · split <;> split <;> rfl

theorem requestIf (s : State) (b : Bool) (r : FrameReq) : SamePulse s (s.requestIf b r) :=
  sameEntries (by rw [s.requestIf_cen])

theorem takeAlert (s : State) (a : Addr) (own : Bool) (code subject : Byte) (value : Half) :
    SamePulse s (s.takeAlert a own code subject value) := by
  unfold State.takeAlert
  split
  · exact ofIf (anomaly s) (ofIf (refl s) (updEntry s a (fun e he => (e.updSupply_partWrite _).tableOk he)
      fun e => Entry.pulse_of_core (Entry.core_of_bare (e.updSupply_bare _))))
  · unfold State.takeAirflowDrop
    split
    · exact ofIf (anomaly s) (ofIf (refl s) (updEntry s a (fun e he => (e.updFan_partWrite _).tableOk he)
        fun e => Entry.pulse_of_core (Entry.core_of_bare (e.updFan_bare _))))
    · exact anomaly s
  · exact ofIf (anomaly s) (ofIf (refl s) (census s (fun hs => hs.setOffer a _) fun hs b => hs.setOffer_core a b _))
  · exact anomaly s

theorem takePower (s : State) (a : Addr) (level : Half) :
    SamePulse s (s.takePowerClaim a level) ∧ SamePulse s (s.takePowerRelease a level) := by
  refine ⟨ofIf (anomaly s) (updEntry s a (fun e he => Entry.tableOk_of_part rfl he) fun e => rfl), ?_⟩
  have hclaim : s.cen.Shaped → (s.cen.upd a (fun e => { e with claim := none })).Shaped := fun hs =>
    hs.upd fun e he => Entry.tableOk_of_part rfl he
  refine census s (fun hs => (hclaim hs).setHeld a _) fun hs b => ?_
  refine ((hclaim hs).setHeld_core a b _).trans ?_
  rw [hs.get_upd]
  split <;> rfl

theorem takeLanes (s : State) (a : Addr) (own : Bool) (uplink count : Byte) :
    SamePulse s (s.takeLaneClaim a own uplink count) ∧ SamePulse s (s.takeLaneRelease a uplink) := by
  constructor
  · unfold State.takeLaneClaim
    split
    · exact anomaly s
    · refine ofIf (anomaly s) (ofIf ?_ (raiseIf s _ _))
      exact census s (fun hs => hs.takeLaneClaim a _ _) fun hs b => hs.takeLaneClaim_core a b _ _
  · unfold State.takeLaneRelease
    split
    · exact anomaly s
    · exact census s (fun hs => hs.takeLaneRelease a _) fun hs b => hs.takeLaneRelease_core a b _

theorem takeHeat (s : State) (a : Addr) (own : Bool) (zone demand : Byte) : SamePulse s (s.takeHeat a own zone demand) := by
  unfold State.takeHeat
  split
  · exact anomaly s
  · split
    · exact refl s
    · refine ofIf (refl s) (updEntry s a (fun e he => ?_) fun e => Entry.pulse_of_core (Entry.core_of_bare (e.updBlade_bare _)))
      exact Entry.tableOk_congr (e.updBlade_uplink _) he
    all_goals exact anomaly s

theorem takeSegment (s : State) (a : Addr) (own : Bool) (segment : Byte) (rest : List Byte) :
    SamePulse s (s.takeSegment a own segment rest) := by
  unfold State.takeSegment
  split
  · exact ofIf (refl s) (updEntry s a (fun e he => Entry.tableOk_of_part rfl he) fun e => rfl)
  · exact ofIf (refl s) (updEntry s a (fun e he => Entry.tableOk_of_part rfl he) fun e => rfl)
  · exact anomaly s

theorem takeQuery (s : State) (target : Byte) : SamePulse s (s.takeQuery target) := by
  unfold State.takeQuery
  split
  · exact anomaly s
  · rename_i u _
    have hquiet : SamePulse s (s.updEntry u (fun e => { e with quiet := some queryQuietMs })) :=
      updEntry s u (fun e he => Entry.tableOk_of_part rfl he) fun e => rfl
    exact (hquiet.trans (dropQuery _ u)).trans (requestIf _ _ _)

theorem resynchronise (s : State) (a : Addr) : SamePulse s (s.resynchronise a) := by
  refine sameEntries ?_
  unfold State.resynchronise
  split
  · split
    · split <;> rfl
    · rfl
  · rfl

theorem told (h : s.Told t) : SamePulse s t := sameEntries (by rw [h.cen])

theorem applyAnnounce (s : State) (pre : Census) (a : Addr) {body : AnnounceBody} (hb : body.Sound) :
    SamePulse s (s.applyAnnounce pre a body) := by
  obtain ⟨u, htold, heq⟩ := s.applyAnnounce_eq pre a body
  have hfirst : SamePulse s (if body.supplyExcess then s.anomaly else s) := ofIf (anomaly s) (refl s)
  have hcensus : ∀ v : State, SamePulse v ((v.updCen (fun c => c.announceEntry a body)).updCen
      (fun c => c.announceLanes a body)) := fun v hs => by
    have he : (v.cen.announceEntry a body).Shaped := hs.announceEntry a
    exact ⟨he.announceLanes a hb, fun b =>
      (Entry.pulse_of_core (he.announceLanes_core a b hb)).trans (hs.announceEntry_pulse a b body)⟩
  have hmismatch : SamePulse u (u.policyCompare (pre.get a) a body) := by
    unfold State.policyCompare
    dsimp only
    generalize (u.station != .listen && _ && _) = report
    have hflag : ∀ b : Bool, SamePulse u (u.updEntry a (fun e => { e with mismatch := b })) := fun b =>
      updEntry u a (fun e he => Entry.tableOk_of_part rfl he) fun e => rfl
    exact (hflag _).trans (raiseIf _ _ _)
  rw [heq]
  exact ((((hfirst.trans (hcensus _)).trans (told htold)).trans hmismatch).trans (resynchronise _ a)).trans
    (requestIf _ _ _)

theorem takeContents (s : State) (pre : Census) (a : Addr) {p : Payload} (hp : p.kind ≠ .depart) :
    SamePulse s (s.takeContents pre a false p) := by
  cases p with
  | alert code subject value => exact takeAlert s a false code subject value
  | powerClaim level => exact (takePower s a level).1
  | powerRelease level => exact (takePower s a level).2
  | depart reason => exact absurd rfl hp
  | laneClaim uplink count => exact (takeLanes s a false uplink count).1
  | laneRelease uplink => exact (takeLanes s a false uplink 0).2
  | heat zone demand => exact takeHeat s a false zone demand
  | announce bytes =>
    show SamePulse s (s.takeAnnounce pre a false bytes)
    unfold State.takeAnnounce
    rw [if_neg (by decide)]
    split
    · exact ((anomaly s).trans (resynchronise _ a)).trans (requestIf _ _ _)
    · rename_i body hbody
      exact applyAnnounce s pre a (decodeAnnounce_sound hbody)
  | inventory segment rest => exact (takeSegment s a false segment rest).trans (dropQuery _ a)
  | query target => exact takeQuery s target

end SamePulse

/-! ## The sender is LIVE (R26) -/

/-- A LIVE entry whose silence timer has just been started. -/
def Entry.Live (e : Entry) : Prop := e.pulse = (.live, some 1920, none)

theorem State.hear_entry (hs : s.cen.Shaped) (a b : Addr) : (s.hear a).entry b =
    if b = a then { s.entry b with state := .live, staleHold := none, silence := some 1920 } else s.entry b := by
  have hcen : (s.hear a).cen.entries = (s.cen.upd a (fun e =>
      { e with state := .live, staleHold := none, silence := some silenceMs })).entries := by
    unfold State.hear
    dsimp only
    split
    · rw [State.raiseIf_cen]; rfl
    · rw [State.raiseIf_cen]
      exact (Census.markIf_entries _ _ _).1
    · rfl
  rw [State.entry, Census.get_congr hcen, hs.get_upd]
  rfl

theorem State.hear_shaped (hs : s.cen.Shaped) (a : Addr) (hx : s.station.apart = false) : (s.hear a).cen.Shaped :=
  (Keeps.hear hx a).promises .entries hs

theorem State.hearFrame_live (hs : s.cen.Shaped) {a : Addr} (ha : a ≠ s.addr) (hx : s.station.apart = false) {p : Payload}
    (hp : p.kind ≠ .depart) : ((s.hearFrame a false p).entry a).Live := by
  rw [State.hearFrame_peer ha, if_neg hp]
  refine ((SamePulse.takeContents (s.hear a) s.cen a hp (State.hear_shaped hs a hx)).2 a).trans ?_
  rw [State.hear_entry hs, if_pos rfl]
  rfl

theorem State.hearFrame_shaped (hs : s.cen.Shaped) (hx : s.station.apart = false) (a : Addr) (p : Payload) :
    (s.hearFrame a false p).cen.Shaped := (Keeps.hearFrame hx a false p).promises .entries hs

/-- Settles O52: the frame makes its sender LIVE, no contents but a DEPART's undo that, and no answer writes it. -/
theorem acceptedFrameMakesItsSenderLive : Obligations.AcceptedFrameMakesItsSenderLive := by
  intro i a p check s hi hp hs h
  obtain ⟨-, hx, ha, -⟩ := id h
  have happart := (StationState.hearing hx).2.2
  obtain ⟨t, ht, hout⟩ := exec_of_hears hi h
  refine ⟨t, ht, hout.imp_right fun hans => ?_⟩
  have hlive := State.hearFrame_live (s := s.newEvent) hs.cen ha happart hp
  have hpulse : (t.entry a).Live :=
    (Entry.pulse_of_core (hans.core (State.hearFrame_shaped (s := s.newEvent) hs.cen happart a p) a)).trans hlive
  simp only [Entry.Live, Entry.pulse, Prod.mk.injEq] at hpulse
  exact hpulse

end Sys2Proof.Machine
end

section
/-! PROOFS. POWER_CLAIM and POWER_RELEASE at the sender's entry (R75, R80); ALERT and HEAT (R36, R131, R162, R171). -/

namespace Sys2Proof.Machine

variable {s t : State}

/-! ## A peer's frame at a station that hears it -/

/-- An answer to what a peer's frame has made of the census. -/
structure PeerAnswered (a : Addr) (u t : State) : Prop where
  answered : Answered u t
  shaped : u.cen.Shaped
  peer : a ≠ u.addr

namespace PeerAnswered

variable {a : Addr} {u : State} (h : PeerAnswered a u t)
include h

theorem admitted : (u.entry a).Admitted (t.entry a) := h.answered.admitted h.shaped h.peer
theorem face : (t.entry a).part.face = (u.entry a).part.face := h.answered.face h.shaped h.peer
theorem core : (t.entry a).core = (u.entry a).core := h.answered.core h.shaped a
theorem offer : (t.entry a).offer = (u.entry a).offer := h.answered.offer h.shaped h.peer
theorem anomalies : t.cen.anomalies = u.cen.anomalies := h.answered.clock.2.2

end PeerAnswered

/-- The state in which a peer has just been heard. -/
abbrev State.heard (s : State) (a : Addr) : State := s.newEvent.hear a

section

variable {a : Addr} {p : Payload} {check : Half} (hs : s.shaped) (h : s.hears a p check)
include hs h

theorem State.hears.heard_shaped : (s.heard a).cen.Shaped :=
  State.hear_shaped (s := s.newEvent) hs.cen a (StationState.hearing h.2.1).2.2

theorem State.hears.heard_entry (b : Addr) : (s.heard a).entry b =
    if b = a then { s.entry b with state := .live, staleHold := none, silence := some 1920 } else s.entry b :=
  State.hear_entry (s := s.newEvent) hs.cen a b

theorem State.hears.heard_part (b : Addr) : ((s.heard a).entry b).part = (s.entry b).part := by
  rw [h.heard_entry hs]
  split <;> rfl

theorem State.hears.heard_held (b : Addr) : ((s.heard a).entry b).held = (s.entry b).held := by
  rw [h.heard_entry hs]
  split <;> rfl

theorem State.hears.peer : a ≠ (s.heard a).addr := by
  have haddr : (s.heard a).addr = s.addr := congrArg (fun l => l.straps.address) (State.life_of_fixed (s.newEvent.hear_fixed a))
  rw [haddr]
  exact h.2.2.1

theorem State.hears.heard_anomalies : (s.heard a).cen.anomalies = s.cen.anomalies := by
  unfold State.heard State.hear
  dsimp only
  split
  · rw [State.raiseIf_cen]; rfl
  · rw [State.raiseIf_cen]
    exact (Census.markIf_entries _ _ _).2.anomalies
  · rfl

/-- The contents of a frame other than a DEPART, then the answer to them. -/
theorem exec_of_peer {i : Instr} (hi : i.acceptedFrame = some (a, p, check)) (hp : p.kind ≠ .depart) :
    ∃ t, exec i s = .next t ∧ (leftLeaving s t ∨ PeerAnswered a ((s.heard a).takeContents s.cen a false p) t) := by
  obtain ⟨t, ht, hout⟩ := exec_of_hears hi h
  refine ⟨t, ht, hout.imp_right fun hans => ?_⟩
  rw [State.hearFrame_peer (s := s.newEvent) h.2.2.1, if_neg hp] at hans
  refine ⟨hans, (SamePulse.takeContents (s.heard a) s.cen a hp (h.heard_shaped hs)).1, ?_⟩
  have haddr := congrArg (fun l => l.straps.address)
    (State.life_of_fixed ((s.heard a).takeContents_fixed s.cen a false p))
  exact fun he => h.peer hs (he.trans haddr)

end

/-! ## The role of an entry by its part -/

section
variable (e : Entry)
theorem Entry.role_blade_iff : e.role = some .blade ↔ ∃ p, e.part = .blade p := by cases h : e.part <;> simp [Entry.role, h]
theorem Entry.role_fan_iff : e.role = some .fan ↔ ∃ p, e.part = .fan p := by cases h : e.part <;> simp [Entry.role, h]
theorem Entry.role_supply_iff : e.role = some .supply ↔ ∃ p, e.part = .supply p := by cases h : e.part <;> simp [Entry.role, h]
theorem Entry.role_uplink_iff : e.role = some .uplink ↔ e.uplink.isSome = true := by
  cases h : e.part <;> simp [Entry.role, Entry.uplink, h]
end

theorem Entry.role_of_part {e e' : Entry} (h : e'.part = e.part) : e'.role = e.role := by
  simp only [Entry.role, h]

theorem Entry.not_supply {e : Entry} (h : ∀ p, e.part ≠ .supply p) : e.role ≠ some .supply := fun hr => by
  obtain ⟨p, hp⟩ := e.role_supply_iff.mp hr
  exact h p hp

/-! ## POWER_CLAIM and POWER_RELEASE -/

section
variable {a : Addr} (level : Half)

theorem State.takePowerClaim_of_supply (hr : (s.entry a).role = some .supply) : s.takePowerClaim a level = s.anomaly := by
  rw [State.takePowerClaim, if_pos (by rw [hr]; rfl)]

theorem State.takePowerClaim_entry (hs : s.cen.Shaped) (hr : (s.entry a).role ≠ some .supply) :
    (s.takePowerClaim a level).entry a = (s.entry a).takeClaim (min 4095 level.toNat) := by
  rw [State.takePowerClaim, if_neg (by simpa using hr)]
  exact (hs.get_upd a a _).trans (if_pos rfl)

theorem State.takePowerRelease_levels (hs : s.cen.Shaped) :
    ((s.takePowerRelease a level).entry a).held = min (s.entry a).held (min 4095 level.toNat) ∧
      ((s.takePowerRelease a level).entry a).claim = none := by
  have hclaim : (s.cen.upd a (fun e => { e with claim := none })).Shaped := hs.upd fun e he => Entry.tableOk_of_part rfl he
  refine ⟨hclaim.setHeld_held a _, (hclaim.setHeld_claim a _ a).trans ?_⟩
  rw [hs.get_upd, if_pos rfl]

end

theorem Entry.takeClaim_below {e : Entry} {x : Nat} (h : x ≤ e.held) : (e.takeClaim x).claim = none := if_neg (by omega)
theorem Entry.takeClaim_above {e : Entry} {x : Nat} (h : e.held < x) : (e.takeClaim x).claim = some x := if_pos h

theorem Entry.Admitted.of_unclaimed {e e' : Entry} (h : e.Admitted e') (hn : e.claim = none) :
    e'.held = e.held ∧ e'.claim = none := by
  rcases h with ⟨hheld, hclaim⟩ | ⟨x, hx, -⟩
  · exact ⟨hheld, hclaim.trans hn⟩
  · rw [hn] at hx; cases hx

theorem Entry.Admitted.of_claimed {e e' : Entry} {x : Nat} (h : e.Admitted e') (hc : e.claim = some x) :
    (e'.held = e.held ∧ e'.claim = some x) ∨ (e'.held = x ∧ e'.claim = none) := by
  rcases h with ⟨hheld, hclaim⟩ | ⟨y, hy, hheld, hclaim⟩
  · exact .inl ⟨hheld, hclaim.trans hc⟩
  · rw [hc] at hy
    cases hy
    exact .inr ⟨hheld, hclaim⟩

/-- One more protocol anomaly, short of the counter's limit. -/
def State.faulted (s t : State) : Prop :=
  t.cen.anomalies = if s.cen.anomalies < 65535 then s.cen.anomalies + 1 else s.cen.anomalies

theorem PeerAnswered.faulted {a : Addr} {p : Payload} {check : Half} {u : State} (h : PeerAnswered a u t) (hs : s.shaped)
    (hh : s.hears a p check) (hu : u = (s.heard a).anomaly) : s.faulted t := by
  rw [State.faulted, h.anomalies, hu, ← hh.heard_anomalies hs]
  rfl

/-- Settles O53: the claim of the frame stands in the entry, or the walk that follows admits it. -/
theorem powerFramesMoveTheHeldLevel : Obligations.PowerFramesMoveTheHeldLevel := by
  intro a level check s hs
  refine ⟨fun h => ?claim, fun h => ?release⟩
  case claim =>
    obtain ⟨t, ht, hout⟩ := exec_of_peer (i := .powerClaimAccepted a level check) hs h rfl nofun
    refine ⟨t, ht, hout.imp_right fun hans => ⟨fun hpart => ?_, fun p hp => ?_⟩⟩
    · have hrole : ((s.heard a).entry a).role ≠ some .supply := by
        rw [Entry.role_of_part (h.heard_part hs a)]
        exact Entry.not_supply hpart
      have hadm : (((s.heard a).entry a).takeClaim (min 4095 level.toNat)).Admitted (t.entry a) := by
        rw [← State.takePowerClaim_entry level (h.heard_shaped hs) hrole]
        exact hans.admitted
      rw [← h.heard_held hs a]
      exact ⟨fun hx => hadm.of_unclaimed (Entry.takeClaim_below hx), fun hx => hadm.of_claimed (Entry.takeClaim_above hx)⟩
    · have hrole : ((s.heard a).entry a).role = some .supply := by
        rw [Entry.role_of_part (h.heard_part hs a)]
        exact (Entry.role_supply_iff _).mpr ⟨p, hp⟩
      exact hans.faulted hs h (State.takePowerClaim_of_supply level hrole)
  case release =>
    obtain ⟨t, ht, hout⟩ := exec_of_peer (i := .powerReleaseAccepted a level check) hs h rfl nofun
    refine ⟨t, ht, hout.imp_right fun hans => ?_⟩
    obtain ⟨hheld, hclaim⟩ := State.takePowerRelease_levels (s := s.heard a) (a := a) level (h.heard_shaped hs)
    obtain ⟨hheld', hclaim'⟩ := hans.admitted.of_unclaimed hclaim
    rw [← h.heard_held hs a]
    exact ⟨hheld'.trans hheld, hclaim'⟩

/-! ## ALERT and HEAT -/

section
variable {p : RolePart}

theorem RolePart.eq_supply_of_face {q : SupplyPart} (h : p.face = .supply q) : p = .supply q := by
  cases p <;> simp [RolePart.face] at h
  rw [h]

theorem RolePart.eq_fan_of_face {q : FanPart} (h : p.face = .fan q) : p = .fan q := by
  cases p <;> simp [RolePart.face] at h
  rw [h]

end

theorem zoneOfCode_of_zone {b : Byte} (hlo : 1 ≤ b.toNat) (hhi : b.toNat ≤ 4) : zoneOfCode b = some b.toNat := by
  unfold zoneOfCode
  rw [if_pos (by simp [hlo, hhi])]

theorem zoneOfCode_of_none {b : Byte} (h : b.toNat = 0 ∨ 4 < b.toNat) : zoneOfCode b = none := by
  unfold zoneOfCode
  rw [if_neg (by simp; omega)]

section
variable {a : Addr} {b1 : Byte} {value : Half}

theorem State.takeCapacityDrop_of_fault (h : b1 ≠ 0 ∨ (s.entry a).role ≠ some .supply) :
    s.takeCapacityDrop a false b1 value = s.anomaly := by
  rw [State.takeCapacityDrop, if_pos (by simpa using h)]

theorem State.takeCapacityDrop_entry (hs : s.cen.Shaped) (hr : (s.entry a).role = some .supply) :
    (s.takeCapacityDrop a false 0 value).entry a =
      (s.entry a).updSupply (fun p => { p with capacity := min 4095 value.toNat }) := by
  rw [State.takeCapacityDrop, if_neg (by simp [hr]), if_neg (by decide)]
  exact (hs.get_upd a a _).trans (if_pos rfl)

theorem State.takeLanesDrop_of_fault (h : b1 ≠ 0 ∨ (s.entry a).role ≠ some .uplink) :
    s.takeLanesDrop a false b1 value = s.anomaly := by
  rw [State.takeLanesDrop, if_pos (by simpa using h)]

theorem State.takeLanesDrop_offer (hs : s.cen.Shaped) (hr : (s.entry a).uplink.isSome = true) :
    ((s.takeLanesDrop a false 0 value).entry a).offer = min 8 value.toNat := by
  rw [State.takeLanesDrop, if_neg (by simp [(Entry.role_uplink_iff _).mpr hr]), if_neg (by decide)]
  exact (hs.setOffer_offer a _ a).trans ((if_pos rfl).trans (if_pos hr))

theorem State.takeAirflowDrop_entry (hs : s.cen.Shaped) {p : FanPart} {v : Airflow} (hp : (s.entry a).part = .fan p)
    (hlo : 1 ≤ p.zone) (hhi : p.zone ≤ 4) (hz : b1.toNat = p.zone) (hv : Airflow.ofCode value.toNat = some v) :
    (s.takeAirflowDrop a false b1 value).entry a = (s.entry a).updFan (fun p => { p with airflow := v }) := by
  have hzone : zoneOfCode b1 = some p.zone := by rw [zoneOfCode_of_zone (by omega) (by omega), hz]
  have hfan : (s.entry a).fanZone = some p.zone := by simp [Entry.fanZone, Entry.fan, hp]
  rw [State.takeAirflowDrop, hzone, hv]
  dsimp only
  rw [if_neg (by simp [hfan]), if_neg (by decide)]
  exact (hs.get_upd a a _).trans (if_pos rfl)

theorem State.takeAirflowDrop_of_fault
    (h : (∀ p, (s.entry a).part = .fan p → p.zone ≠ b1.toNat) ∨ Airflow.ofCode value.toNat = none) :
    s.takeAirflowDrop a false b1 value = s.anomaly := by
  unfold State.takeAirflowDrop
  split
  · rename_i z v hz hv
    have hzone : z = b1.toNat := by
      unfold zoneOfCode at hz
      split at hz <;> cases hz
      rfl
    rcases h with h | h
    · rw [if_pos]
      rw [bne_iff_ne]
      intro hfan
      cases hp : (s.entry a).part with
      | fan p =>
        simp only [Entry.fanZone, Entry.fan, hp, Option.map_some, Option.some.injEq] at hfan
        exact h p hp (hfan.trans hzone)
      | unknown | blade p | supply p | uplink p => simp [Entry.fanZone, Entry.fan, hp] at hfan
    · rw [h] at hv; cases hv
  · rfl

end

section
variable {a : Addr} {b1 b2 : Byte}

theorem State.takeHeat_entry (hs : s.cen.Shaped) {p : BladePart} (hp : (s.entry a).part = .blade p)
    (hlo : 1 ≤ b1.toNat) (hhi : b1.toNat ≤ 4) :
    (s.takeHeat a false b1 b2).entry a = (s.entry a).updBlade (fun p => { p with zone := b1.toNat, demand := b2.toNat }) := by
  rw [State.takeHeat, zoneOfCode_of_zone hlo hhi]
  dsimp only
  rw [hp]
  exact (hs.get_upd a a _).trans (if_pos rfl)

theorem State.takeHeat_of_role {r : Role} (hr : (s.entry a).role = some r) (hne : r ≠ .blade) :
    s.takeHeat a false b1 b2 = s.anomaly := by
  unfold State.takeHeat
  split
  · rfl
  · split
    · rename_i hp; simp [Entry.role, hp] at hr
    · rename_i hp
      simp only [Entry.role, hp, Option.some.injEq] at hr
      exact absurd hr.symm hne
    all_goals rfl

theorem State.takeHeat_of_zone (h : b1.toNat = 0 ∨ 4 < b1.toNat) : s.takeHeat a false b1 b2 = s.anomaly := by
  rw [State.takeHeat, zoneOfCode_of_none h]

end

theorem Entry.blade_eq_some {e : Entry} {p : BladePart} : e.blade = some p ↔ e.part = .blade p := by
  cases h : e.part <;> simp [Entry.blade, h]

/-- Settles O54: what no answer writes at a peer's entry, the frame has written there. -/
theorem reportsReachTheSendersEntry : Obligations.ReportsReachTheSendersEntry := by
  intro a b1 b2 value check s hs
  refine ⟨fun h => ?capacity, fun h => ?airflow, fun h => ?lanes, fun h => ?heat⟩
  case capacity =>
    obtain ⟨t, ht, hout⟩ := exec_of_peer (i := .capacityDropAccepted a b1 value check) hs h rfl nofun
    refine ⟨t, ht, hout.imp_right fun hans => ⟨fun p hp hb => ?_, fun hfault => hans.faulted hs h ?_⟩⟩
    · subst hb
      have hpart : ((s.heard a).entry a).part = .supply p := (h.heard_part hs a).trans hp
      refine RolePart.eq_supply_of_face (hans.face.trans ?_)
      have hentry := State.takeCapacityDrop_entry (s := s.heard a) (a := a) (value := value) (h.heard_shaped hs)
        ((Entry.role_supply_iff _).mpr ⟨p, hpart⟩)
      refine (congrArg (fun e : Entry => e.part.face) hentry).trans ?_
      simp only [Entry.updSupply, hpart, RolePart.face]
    · refine State.takeCapacityDrop_of_fault (hfault.symm.imp_right fun hpart => ?_)
      rw [Entry.role_of_part (h.heard_part hs a)]
      exact Entry.not_supply hpart
  case airflow =>
    obtain ⟨t, ht, hout⟩ := exec_of_peer (i := .airflowDropAccepted a b1 value check) hs h rfl nofun
    refine ⟨t, ht, hout.imp_right fun hans => ⟨fun p v hp hlo hhi hz hv => ?_, fun hfault => hans.faulted hs h ?_⟩⟩
    · have hpart : ((s.heard a).entry a).part = .fan p := (h.heard_part hs a).trans hp
      refine RolePart.eq_fan_of_face (hans.face.trans ?_)
      have hentry := State.takeAirflowDrop_entry (s := s.heard a) (h.heard_shaped hs) hpart hlo hhi hz hv
      refine (congrArg (fun e : Entry => e.part.face) hentry).trans ?_
      simp only [Entry.updFan, hpart, RolePart.face]
    · refine State.takeAirflowDrop_of_fault (hfault.imp_left fun hzone p hp => hzone p ?_)
      rw [← h.heard_part hs a, hp]
  case lanes =>
    obtain ⟨t, ht, hout⟩ := exec_of_peer (i := .lanesDropAccepted a b1 value check) hs h rfl nofun
    have hrole : ((s.heard a).entry a).role = (s.entry a).role := Entry.role_of_part (h.heard_part hs a)
    refine ⟨t, ht, hout.imp_right fun hans => ⟨fun hup hb => ?_, fun hfault => hans.faulted hs h ?_⟩⟩
    · subst hb
      refine hans.offer.trans (State.takeLanesDrop_offer (h.heard_shaped hs) ?_)
      rw [← Entry.role_uplink_iff, hrole, Entry.role_uplink_iff]
      exact hup
    · refine State.takeLanesDrop_of_fault (hfault.symm.imp_right fun hup => ?_)
      rw [hrole, ne_eq, Entry.role_uplink_iff, hup]
      decide
  case heat =>
    obtain ⟨t, ht, hout⟩ := exec_of_peer (i := .heatAccepted a b1 b2 check) hs h rfl nofun
    refine ⟨t, ht, hout.imp_right fun hans => ⟨fun p hp hlo hhi => ?_, fun r hr hne => hans.faulted hs h ?_,
      fun hzone => hans.faulted hs h (State.takeHeat_of_zone hzone)⟩⟩
    · have hpart : ((s.heard a).entry a).part = .blade p := (h.heard_part hs a).trans (Entry.blade_eq_some.mp hp)
      have hentry := State.takeHeat_entry (s := s.heard a) (b2 := b2) (h.heard_shaped hs) hpart hlo hhi
      have hface := hans.face.trans (congrArg (fun e : Entry => e.part.face) hentry)
      simp only [Entry.updBlade, hpart, RolePart.face] at hface
      cases hq : (t.entry a).part <;> simp [hq] at hface
      simp [Entry.blade, hq, hface]
    · exact State.takeHeat_of_role ((Entry.role_of_part (h.heard_part hs a)).trans hr) hne

end Sys2Proof.Machine
end

section
/-! PROOFS. DEPART, LANE_CLAIM, LANE_RELEASE, INVENTORY and QUERY from a peer (R30, R39, R40, R168, R170). -/

namespace Sys2Proof.Machine

variable {s t : State}

/-! ## A request holds its slot -/

theorem State.enqueue_slot_isSome (s : State) (r : FrameReq) : ((s.enqueue r).slot r.slot).isSome = true := by
  unfold State.enqueue
  split <;> rw [State.setSlot_slot_self] <;> rfl

theorem State.request_slot_isSome (h : s.station.listening = true) (r : FrameReq) :
    ((s.request r).slot r.slot).isSome = true := by
  rw [State.request, if_pos h]
  exact s.enqueue_slot_isSome r

/-! ## No lanes and no lane claim on an uplink -/

/-- Station a has neither lanes nor a lane claim on uplink u. -/
def Census.Away (c : Census) (a u : Addr) : Prop :=
  (∀ k, (c.get u).owner k ≠ some a) ∧ ∀ n, (c.get a).laneClaim ≠ some (u, n)

theorem CenStep.away {own a u : Addr} {c c' : Census} (h : CenStep own c c') (hs : c.Shaped) (ha : a ≠ own)
    (haway : c.Away a u) : c'.Away a u := by
  obtain ⟨hlanes, hclaim⟩ := haway
  rcases h.lanes hs ha with ⟨hsame, howner⟩ | ⟨v, m, hclaim', -, -, rfl⟩
  · exact ⟨fun k ho => hlanes k ((howner u k).mp ho), fun n hn => hclaim n (hsame.symm.trans hn)⟩
  · have hv : u ≠ v := fun hv => hclaim m (hv ▸ hclaim')
    have hget := (hs.dropLaneClaim a).get_assign v a (lanes := (c.get v).freeLanes.take m)
    refine ⟨fun k ho => hlanes k ?_, fun n hn => ?_⟩
    · rw [hget, if_neg hv, hs.get_dropLaneClaim] at ho
      split at ho <;> simpa using ho
    · rw [hget, hs.get_dropLaneClaim] at hn
      split at hn <;> simp at hn

theorem Census.Shaped.setOffer_away {c : Census} (hs : c.Shaped) (v : Addr) (k : Nat) {a u : Addr} (haway : c.Away a u) :
    (c.setOffer v k).Away a u := by
  refine ⟨fun j ho => haway.1 j (hs.setOffer_owner_some ho).1, fun n hn => ?_⟩
  obtain ⟨m, hm⟩ := hs.setOffer_laneClaim_some hn
  exact haway.2 m hm

theorem Answer.away {o w : Bool} (h : Answer o w s t) (hs : s.cen.Shaped) {a u : Addr} (ha : a ≠ s.addr)
    (haway : s.cen.Away a u) : t.cen.Away a u := by
  refine h.kept_entry hs (P := fun c c' => c.Away a u → c'.Away a u) (fun _ => id) (fun _ _ _ h h' => h' ∘ h) ?_
    (fun _ _ _ => id) (fun c k hc _ => hc.setOffer_away _ k) haway
  intro c c' hc hst
  induction hst with
  | refl => exact id
  | tail hsteps hstep ih => exact fun hp => hstep.away (CenSteps.shaped hsteps hc) ha (ih hp)

theorem PeerAnswered.shaped_after {a : Addr} {v : State} (h : PeerAnswered a v t) : t.cen.Shaped := by
  obtain ⟨⟨o, w, hanswer, hon, -⟩, hs, -⟩ := h
  rw [hon.cen]
  exact hanswer.shapedCen hs

theorem PeerAnswered.away {a u : Addr} {v : State} (h : PeerAnswered a v t) (haway : v.cen.Away a u) :
    t.cen.Away a u := by
  obtain ⟨⟨o, w, hanswer, hon, -⟩, hs, ha⟩ := h
  rw [hon.cen]
  exact hanswer.away hs ha haway

theorem Census.Shaped.takeLaneRelease_away {c : Census} (hs : c.Shaped) (a u : Addr) : (c.takeLaneRelease a u).Away a u := by
  have hlanes : ∀ k, ((c.freeOn a u).get u).owner k ≠ some a := fun k ho => by
    rw [hs.get_freeOn, if_pos rfl] at ho
    exact (Entry.owner_of_freeing ho).2 rfl
  unfold Census.takeLaneRelease
  dsimp only
  split
  · rename_i v m hm
    split
    · refine ⟨fun k ho => hlanes k ?_, fun n hn => ?_⟩
      · rw [(hs.freeOn a u).get_dropLaneClaim] at ho
        split at ho <;> simpa using ho
      · rw [(hs.freeOn a u).get_dropLaneClaim, if_pos rfl] at hn
        simp at hn
    · rename_i hv
      refine ⟨hlanes, fun n hn => hv ?_⟩
      rw [hm] at hn
      cases hn
      exact beq_self_eq_true u
  · rename_i hm
    exact ⟨hlanes, fun n hn => by rw [hm] at hn; cases hn⟩

/-- A lane claim that is taken waits for its lanes, and its station owns none (R168). -/
theorem Census.Shaped.takeLaneClaim_served {c : Census} (hs : c.Shaped) {a : Addr} (hb : (c.get a).blade.isSome = true)
    (u : Addr) (n : Nat) : (c.takeLaneClaim a u n).Served a u (min n (c.get u).offer) := by
  have hsf := hs.freeLanes a
  have hget := hsf.get_upd a
  refine .inl ⟨?_, fun v k ho => ?_⟩
  · unfold Census.takeLaneClaim Census.putLaneClaim
    rw [Census.mark_get, hget, if_pos rfl, hs.get_freeLanes, hs.get_freeLanes]
    cases hp : (c.get a).blade with
    | none => rw [hp] at hb; cases hb
    | some p => simp [Entry.laneClaim, hp]
  · unfold Census.takeLaneClaim Census.putLaneClaim at ho
    rw [Census.mark_get, hget, hs.get_freeLanes] at ho
    have hfree : ((c.get v).freeing a).owner k = some a := by split at ho <;> simpa using ho
    exact (Entry.owner_of_freeing hfree).2 rfl

theorem Census.Shaped.takeLaneClaim_other {c : Census} (hs : c.Shaped) (a : Addr) {b : Addr} (hb : b ≠ a) (u : Addr) (n : Nat) :
    (c.takeLaneClaim a u n).get b = (c.get b).freeing a := by
  unfold Census.takeLaneClaim Census.putLaneClaim
  rw [Census.mark_get, (hs.freeLanes a).get_upd, if_neg hb, hs.get_freeLanes]

/-! ## The contents -/

theorem addrOfCode_of_lt {b : Byte} (h : b.toNat < 32) : addrOfCode b = some (BitVec.ofNat 5 b.toNat) := if_pos h

theorem State.takeLaneClaim_of_claimable {a u : Addr} {b1 b2 : Byte} (hu : addrOfCode b1 = some u)
    (hb : (s.entry a).role = some .blade) (hc : s.cen.laneClaimable a u = true) :
    s.takeLaneClaim a false b1 b2 = s.updCen (fun c => c.takeLaneClaim a u (clampNat 1 4 b2.toNat)) := by
  rw [State.takeLaneClaim, hu]
  dsimp only
  rw [if_neg (by simp [hb]), if_pos hc]

theorem State.takeLaneRelease_of_addr {a u : Addr} {b : Byte} (hu : addrOfCode b = some u) :
    s.takeLaneRelease a b = s.updCen (fun c => c.takeLaneRelease a u) := by
  rw [State.takeLaneRelease, hu]

theorem State.dropQuery_cen (s : State) (u : Addr) : (s.dropQuery u).cen = s.cen := by
  unfold State.dropQuery
  split
  · rfl
  · split <;> split <;> rfl

theorem State.takeQuery_cen {u : Addr} {b : Byte} (hu : addrOfCode b = some u) :
    (s.takeQuery b).cen = s.cen.upd u (fun e => { e with quiet := some 640 }) := by
  rw [State.takeQuery, hu]
  dsimp only
  rw [State.requestIf_cen, State.dropQuery_cen]
  rfl

theorem State.takeQuery_inventory {u : Addr} {b : Byte} (hu : addrOfCode b = some u) (hown : u = s.addr)
    (hx : s.station.listening = true) : ((s.takeQuery b).slot .inventory).isSome = true := by
  rw [State.takeQuery, hu]
  dsimp only
  rw [State.requestIf, if_pos (by simpa using hown)]
  refine State.request_slot_isSome ?_ (.inventory 0)
  rw [State.station, State.life_of_fixed (State.dropQuery_fixed _ u)]
  exact hx

/-- What an INVENTORY segment makes of the sender's identity. -/
theorem State.takeInventory_identity (hs : s.cen.Shaped) (a : Addr) (b1 : Byte) (rest : List Byte) :
    ((s.takeInventory a false b1 rest).entry a).identity =
      if b1.toNat = 0 then some { moduleKind := byteAt rest 0, revision := byteAt rest 1, partName := nameOf (rest.drop 2),
                                  serial := none }
      else if b1.toNat = 1 then (s.entry a).identity.map (fun d => { d with serial := some (nameOf rest) })
      else (s.entry a).identity := by
  rw [State.takeInventory, State.entry, State.dropQuery_cen]
  unfold State.takeSegment
  split
  · rename_i h
    rw [if_pos h, if_neg Bool.false_ne_true]
    exact congrArg Entry.identity ((hs.get_upd a a _).trans (if_pos rfl))
  · rename_i h
    rw [if_neg (show ¬ b1.toNat = 0 from fun h0 => by rw [h] at h0; cases h0), if_pos h, if_neg Bool.false_ne_true]
    exact congrArg Entry.identity ((hs.get_upd a a _).trans (if_pos rfl))
  · rename_i h0 h1
    rw [if_neg h0, if_neg h1]
    rfl

theorem State.takeDepart_entry (hs : s.cen.Shaped) {a : Addr} {b : Byte} (hlo : 1 ≤ b.toNat) (hhi : b.toNat ≤ 3)
    (hx : (s.entry a).state ≠ .vacant) :
    (s.takeDepart a false b).cen.Shaped ∧ (s.takeDepart a false b).entry a = Entry.vacant := by
  have hvacant : (s.entry a).isVacant = false := by
    cases he : (s.entry a).state <;> simp [Entry.isVacant, he] at hx ⊢
  obtain ⟨r, hr⟩ : ∃ r, DepartReason.ofCode b.toNat = some r := by
    have hcases : b.toNat = 1 ∨ b.toNat = 2 ∨ b.toNat = 3 := by omega
    rcases hcases with h | h | h <;> rw [h] <;> exact ⟨_, rfl⟩
  have hcen : (s.takeDepart a false b).cen = s.cen.vacate a := by
    rw [State.takeDepart, hr]
    dsimp only
    rw [if_neg (by decide), if_neg (by simp [hvacant]), State.raiseIf_cen]
    rfl
  rw [State.entry, hcen]
  exact ⟨hs.vacate a, (hs.get_vacate a a).trans (if_pos rfl)⟩

section

variable {a : Addr} {p : Payload} {check : Half} (hs : s.shaped) (h : s.hears a p check)
include hs h

theorem State.hears.heard_offer (b : Addr) : ((s.heard a).entry b).offer = (s.entry b).offer := by
  rw [← RolePart.view_offer, h.heard_part hs, RolePart.view_offer]

omit hs h in
theorem State.contents_addr : ((s.heard a).takeContents s.cen a false p).addr = s.addr :=
  congrArg (fun l => l.straps.address)
    (State.life_of_fixed (((s.heard a).takeContents_fixed s.cen a false p).trans (s.newEvent.hear_fixed a)))

end

theorem Entry.uplink_of_offer {e : Entry} (h : 0 < e.offer) : e.uplink.isSome = true := by
  cases hu : e.uplink with
  | none => simp [Entry.offer, hu] at h
  | some p => rfl

theorem Entry.blade_of_isSome {e : Entry} (h : e.blade.isSome = true) : e.role = some .blade ∧ e.uplink = none := by
  cases hp : e.part <;> simp [Entry.blade, hp] at h
  exact ⟨by simp [Entry.role, hp], by simp [Entry.uplink, hp]⟩

/-- Settles O55: each frame's effect at the entries it names stands under every answer. -/
theorem departLaneAndIdentityFrames : Obligations.DepartLaneAndIdentityFrames := by
  intro a b1 b2 rest check s hs
  refine ⟨fun h hlo hhi hx => ?depart, fun h hb1 hblade hheld => ?claim, fun h hb1 => ?release, fun h => ?inventory,
    fun h hb1 => ?query⟩
  case depart =>
    obtain ⟨t, ht, hout⟩ := exec_of_hears (i := .departAccepted a b1 check) rfl h
    refine ⟨t, ht, hout.imp_right fun hans => ?_⟩
    rw [State.hearFrame_peer (s := s.newEvent) h.2.2.1, if_pos (show (Payload.depart b1).kind = .depart from rfl)] at hans
    obtain ⟨hshaped, hvacant⟩ := State.takeDepart_entry (s := s.newEvent) hs.cen hlo hhi hx
    exact hans.vacant hshaped a hvacant
  case claim =>
    intro u n hlive hoffer hoffer8
    obtain ⟨t, ht, hout⟩ := exec_of_peer (i := .laneClaimAccepted a b1 b2 check) hs h rfl nofun
    refine ⟨t, ht, hout.imp_right fun hans => ?_⟩
    have hhs := h.heard_shaped hs
    have hpart := h.heard_part hs a
    have hblade' : ((s.heard a).entry a).blade.isSome = true := by
      simpa only [Entry.blade, hpart] using hblade
    obtain ⟨hrole, hnotUplink⟩ := Entry.blade_of_isSome hblade
    have hua : u ≠ a := fun hua => by
      have hup := Entry.uplink_of_offer hoffer
      rw [hua, hnotUplink] at hup
      cases hup
    have hentry : (s.heard a).entry u = s.entry u := by rw [h.heard_entry hs, if_neg hua]
    have hclaimable : (s.heard a).cen.laneClaimable a u = true := by
      simp only [Census.laneClaimable, Census.available, Bool.and_eq_true, decide_eq_true_eq, Entry.isLive, beq_iff_eq]
      refine ⟨(h.heard_held hs a).symm ▸ hheld, ?_, ?_⟩
      · exact (congrArg Entry.state hentry).trans hlive
      · exact (congrArg Entry.offer hentry).symm ▸ hoffer
    have hcontents := State.takeLaneClaim_of_claimable (s := s.heard a) (b2 := b2) (addrOfCode_of_lt hb1)
      ((Entry.role_of_part hpart).trans hrole) hclaimable
    have hserved := hhs.takeLaneClaim_served hblade' u (clampNat 1 4 b2.toNat)
    have hn : min (clampNat 1 4 b2.toNat) ((s.heard a).cen.get u).offer = n := by
      rw [clampNat_eq _ (by decide)]
      exact congrArg (min _) (h.heard_offer hs u)
    rw [hn] at hserved
    have haddr := s.contents_addr (a := a) (p := .laneClaim b1 b2)
    have hother : ((s.heard a).takeLaneClaim a false b1 b2).entry u = (s.entry u).freeing a := by
      rw [← hentry, hcontents]
      exact hhs.takeLaneClaim_other a hua u _
    have hsameOffer : ((s.entry u).freeing a).offer = (s.entry u).offer := (s.entry u).freeing_offer a
    have hup : ((s.entry u).freeing a).role = some .uplink := by
      rw [Entry.role_uplink_iff]
      exact Entry.uplink_of_offer (hsameOffer.symm ▸ hoffer)
    have hcontentsServed : ((s.heard a).takeLaneClaim a false b1 b2).cen.Served a u n := by
      rw [hcontents]
      exact hserved
    rcases hans.answered.served hans.shaped hans.peer (u := u) (fun _ => (congrArg Entry.role hother).trans hup)
      ((congrArg Entry.offer hother).trans hsameOffer ▸ hoffer8) hcontentsServed with (⟨hwait, -⟩ | hdone) | ⟨hown, hne⟩
    · exact .inl hwait
    · exact .inr (.inl hdone)
    · refine .inr (.inr ⟨hown.trans haddr, ?_⟩)
      rw [← hsameOffer, ← hother]
      exact hne
  case release =>
    intro u
    obtain ⟨t, ht, hout⟩ := exec_of_peer (i := .laneReleaseAccepted a b1 check) hs h rfl nofun
    refine ⟨t, ht, hout.imp_right fun hans => ?_⟩
    have hcontents := State.takeLaneRelease_of_addr (s := s.heard a) (a := a) (addrOfCode_of_lt hb1)
    have haway : t.cen.Away a u := hans.away (by
      rw [show (s.heard a).takeContents s.cen a false (.laneRelease b1) = (s.heard a).takeLaneRelease a b1 from rfl, hcontents]
      exact (h.heard_shaped hs).takeLaneRelease_away a u)
    obtain ⟨hlanes, hclaim⟩ := haway
    exact ⟨(hans.shaped_after.lanesOf_eq_nil u a).mpr hlanes, hclaim⟩
  case inventory =>
    obtain ⟨t, ht, hout⟩ := exec_of_peer (i := .inventoryAccepted a b1 rest check) hs h rfl nofun
    refine ⟨t, ht, hout.imp_right fun hans => ?_⟩
    have hident := (congrArg Entry.identity hans.core).trans
      (State.takeInventory_identity (s := s.heard a) (h.heard_shaped hs) a b1 rest)
    have hheard : ((s.heard a).entry a).identity = (s.entry a).identity := by
      rw [h.heard_entry hs]
      split <;> rfl
    rw [hheard] at hident
    refine ⟨fun h0 => hident.trans (if_pos h0), fun h1 => ?_, fun h2 => ?_⟩
    · rw [if_neg (show ¬ b1.toNat = 0 by omega), if_pos h1] at hident
      exact hident
    · rw [if_neg (show ¬ b1.toNat = 0 by omega), if_neg (show ¬ b1.toNat = 1 by omega)] at hident
      exact hident
  case query =>
    intro u
    obtain ⟨t, ht, hout⟩ := exec_of_peer (i := .queryAccepted a b1 check) hs h rfl nofun
    refine ⟨t, ht, hout.imp_right fun hans => ⟨?_, fun hown hmute => ?_⟩⟩
    · have hcore := hans.answered.core hans.shaped u
      have hcen := State.takeQuery_cen (s := s.heard a) (addrOfCode_of_lt hb1)
      refine (congrArg Entry.quiet hcore).trans ?_
      have hget : ((s.heard a).takeQuery b1).entry u = { (s.heard a).entry u with quiet := some 640 } := by
        rw [State.entry, hcen]
        exact ((h.heard_shaped hs).get_upd u u _).trans (if_pos rfl)
      exact congrArg Entry.quiet hget
    · have hlife := State.life_of_fixed (s.newEvent.hear_fixed a)
      have hslot := State.takeQuery_inventory (s := s.heard a) (addrOfCode_of_lt hb1)
        (hown.trans (congrArg (fun l => l.straps.address) hlife).symm) (by
          rw [State.station, hlife]
          exact (StationState.hearing h.2.1).1.resolve_right hmute)
      rw [hans.answered.kept_slot rfl rfl]
      exact hslot

end Sys2Proof.Machine
end

section
/-! PROOFS. What an announced body makes of the census: the sender's entry (R33, R34), and its lanes where it is a blade
(R35). -/

namespace Sys2Proof.Machine

variable {s t : State}

/-! ## Faces -/

theorem Entry.dropClaimOn_face (e : Entry) (u : Addr) : (e.dropClaimOn u).part.face = e.part.face := by
  rcases e.dropClaimOn_cases u with ⟨h, -⟩ | ⟨h, -⟩ <;> rw [h]
  exact e.withoutLaneClaim_face

theorem RolePart.overwrite_face (old : RolePart) {new : RolePart} (hne : ∀ q, new ≠ .uplink q) :
    (old.overwrite new).face = new.face := by
  cases new with
  | uplink q => exact absurd rfl (hne q)
  | unknown | blade p | fan p | supply p => cases old <;> rfl

theorem RolePart.overwrite_uplink (old : RolePart) (q : UplinkPart) :
    ∃ p : UplinkPart, old.overwrite (.uplink q) = .uplink p ∧ p.crossbar = q.crossbar := by
  cases old <;> exact ⟨_, rfl, rfl⟩

theorem Entry.offering_uplink {e : Entry} {q : UplinkPart} (h : e.part = .uplink q) (k : Nat) :
    (e.offering k).part.face = .uplink { q with offer := k, table := [] } := by
  simp only [Entry.offering, Entry.updUplink, h, RolePart.face]

section
variable {c : Census} (hs : c.Shaped) (a : Addr)
include hs

theorem Census.Shaped.setHeld_face (x : Nat) (b : Addr) : ((c.setHeld a x).get b).part.face = (c.get b).part.face := by
  unfold Census.setHeld
  split
  · rw [hs.get_heldZero]
    split
    · exact (Entry.withoutLaneClaim_face _).trans (Entry.freeing_face _ _)
    · exact Entry.freeing_face _ _
  · rw [hs.get_upd]
    split
    · obtain ⟨o, ho⟩ := Entry.trimShed_eq ({ c.get b with held := x })
      rw [ho]
    · rfl

theorem Census.Shaped.setOffer_uplink {q : UplinkPart} (h : (c.get a).part = .uplink q) (k : Nat) :
    ((c.setOffer a k).get a).part.face = .uplink { q with offer := k, table := [] } := by
  rcases Census.setOffer_eq hs a k with ⟨c', heq, -, hget⟩ | ⟨heq, hk⟩ <;> rw [heq]
  · rw [Census.mark_get, hget, if_pos rfl, Entry.claimUnder_face, Entry.offering_uplink h]
  · rw [h, hk, Entry.offer, Entry.uplink, h]
    rfl

end

/-! ## The sender's entry, and the others -/

section
variable {c : Census} (hs : c.Shaped) (a : Addr) {body : AnnounceBody}
include hs

theorem Census.Shaped.announceEntry_core : ((c.announceEntry a body).get a).core =
    (((c.announceRole a body).get a).announced body).core := by
  have hsr := hs.announceRole a body
  obtain ⟨hsp, hget⟩ := hsr.announcePart a body
  have hself := hget a
  rw [if_pos rfl] at hself
  have hfields : (((c.announceRole a body).announceFields a body).get a).core =
      (((c.announceRole a body).announcePart a body).get a).core := by
    rw [Census.announceFields_eq]
    split
    · exact hsp.setOffer_core a a _
    · rfl
  have hsf := hsr.announceFields a body
  rw [← hself, ← hfields, ← hsf.setHeld_core a a body.held]
  unfold Census.announceEntry Census.announceLevels
  rw [(hsf.setHeld a _).get_upd, if_pos rfl]
  rfl

theorem Census.Shaped.announceEntry_face : ((c.announceEntry a body).get a).part.face = body.part.face := by
  have hsr := hs.announceRole a body
  obtain ⟨hsp, hget⟩ := hsr.announcePart a body
  have hself := hget a
  rw [if_pos rfl] at hself
  have hsf := hsr.announceFields a body
  have hfields : (((c.announceRole a body).announceFields a body).get a).part.face = body.part.face := by
    cases hp : body.part with
    | uplink q =>
      have hoffer : body.part.offer = some q.offer := by rw [hp]; rfl
      have heq : (c.announceRole a body).announceFields a body = ((c.announceRole a body).announcePart a body).setOffer a q.offer := by
        rw [Census.announceFields_eq, hoffer]
      obtain ⟨p, hover, hcross⟩ := ((c.announceRole a body).get a).part.overwrite_uplink q
      have hpart : (((c.announceRole a body).announcePart a body).get a).part = .uplink p := by
        rw [hself, ← hover, ← hp]
        rfl
      rw [heq, hsp.setOffer_uplink a hpart, RolePart.face, ← hcross]
    | unknown | blade p | fan p | supply p =>
      have hoffer : body.part.offer = none := by rw [hp]; rfl
      have heq : (c.announceRole a body).announceFields a body = (c.announceRole a body).announcePart a body := by
        rw [Census.announceFields_eq, hoffer]
      have hface := RolePart.overwrite_face ((c.announceRole a body).get a).part (new := body.part)
        (fun q hq => by rw [hp] at hq; cases hq)
      rw [heq, ← hp, ← hface]
      exact congrArg (fun e : Entry => e.part.face) hself
  unfold Census.announceEntry Census.announceLevels
  rw [(hsf.setHeld a _).get_upd, if_pos rfl]
  exact (hsf.setHeld_face a _ a).trans hfields

theorem Census.Shaped.announceEntry_claim : ((c.announceEntry a body).get a).claim = body.claim := by
  have hsf := (hs.announceRole a body).announceFields a body
  unfold Census.announceEntry Census.announceLevels
  rw [(hsf.setHeld a _).get_upd, if_pos rfl]

theorem Census.Shaped.free_offer (b : Addr) (hb : b ≠ a) : ((c.free a).get b).offer = (c.get b).offer := by
  rcases hs.get_free_other hb with h | h <;> rw [h] <;> simp

theorem Census.Shaped.free_face (b : Addr) (hb : b ≠ a) : ((c.free a).get b).part.face = (c.get b).part.face := by
  rcases hs.get_free_other hb with h | h <;> rw [h]
  · exact Entry.freeing_face _ _
  · exact (Entry.dropClaimOn_face _ _).trans (Entry.freeing_face _ _)

/-- Another station's entry keeps its role and its offer. -/
theorem Census.Shaped.announceEntry_other {b : Addr} (hb : b ≠ a) :
    ((c.announceEntry a body).get b).offer = (c.get b).offer ∧ ((c.announceEntry a body).get b).role = (c.get b).role := by
  have hrole : ((c.announceRole a body).get b).offer = (c.get b).offer ∧
      ((c.announceRole a body).get b).role = (c.get b).role := by
    unfold Census.announceRole
    split
    · rw [(hs.free a).get_upd, if_neg hb]
      exact ⟨hs.free_offer a b hb, Entry.role_of_face (hs.free_face a b hb)⟩
    · exact ⟨rfl, rfl⟩
  have hsr := hs.announceRole a body
  obtain ⟨hsp, hget⟩ := hsr.announcePart a body
  have hpart := hget b
  rw [if_neg hb] at hpart
  have hsf := hsr.announceFields a body
  have hfields : (((c.announceRole a body).announceFields a body).get b).offer = ((c.announceRole a body).get b).offer ∧
      (((c.announceRole a body).announceFields a body).get b).role = ((c.announceRole a body).get b).role := by
    rw [Census.announceFields_eq, ← hpart]
    split
    · exact ⟨by rw [hsp.setOffer_offer, if_neg hb], hsp.setOffer_role a b _⟩
    · exact ⟨rfl, rfl⟩
  unfold Census.announceEntry Census.announceLevels
  rw [(hsf.setHeld a _).get_upd, if_neg hb]
  exact ⟨(hsf.setHeld_lanes a _ b).1.trans (hfields.1.trans hrole.1),
    (Entry.role_of_face (hsf.setHeld_face a _ b)).trans (hfields.2.trans hrole.2)⟩

end

/-! ## A blade's lanes -/

theorem lanesOf_of_owner {e : Entry} {a : Addr} {b : Byte} (h : ∀ k, e.owner k = some a ↔ k ∈ lanesOfByte b) :
    e.lanesOf a = lanesOfByte b := by
  unfold Entry.lanesOf lanesOfByte
  refine List.filter_congr fun k hk => ?_
  rw [Bool.eq_iff_iff, beq_iff_eq]
  refine (h k).trans ?_
  rw [lanesOfByte, List.mem_filter]
  exact ⟨fun h => h.2, fun h => ⟨hk, h⟩⟩

theorem Census.announceLanes_of_blade (c : Census) (a : Addr) {body : AnnounceBody} {p : BladePart}
    (hp : body.part = .blade p) : c.announceLanes a body = (c.announceHold a body).announceLaneClaim a body := by
  rw [Census.announceLanes, hp]

section
variable {c : Census} (hs : c.Shaped) (a : Addr) {body : AnnounceBody}
include hs

theorem Census.Shaped.dropLaneClaim_unclaimed : ((c.dropLaneClaim a).get a).laneClaim = none ∧
    ∀ v k, ((c.dropLaneClaim a).get v).owner k = (c.get v).owner k := by
  refine ⟨by rw [hs.get_dropLaneClaim, if_pos rfl]; simp, fun v k => ?_⟩
  rw [hs.get_dropLaneClaim]
  split <;> simp

theorem Census.Shaped.freeLanes_laneless (v : Addr) (k : Nat) : ((c.freeLanes a).get v).owner k ≠ some a := by
  rw [hs.get_freeLanes]
  exact fun ho => (Entry.owner_of_freeing ho).2 rfl

theorem Census.Shaped.freeLanes_available (u : Addr) : (c.freeLanes a).available u = c.available u := by
  have hlive := congrArg Entry.isLive ((c.get u).freeing_core a)
  simp only [Census.available, hs.get_freeLanes, Entry.freeing_offer]
  exact congrArg (· && _) hlive

variable (hb : body.Sound) {p : BladePart} (hp : body.part = .blade p)
include hb hp

/-- An honoured holding gives the announced lanes and no others; the lane claim goes. -/
theorem Census.Shaped.announceLanes_honoured {u : Addr} {lanes : List Nat} (hhold : body.holding = some (u, lanes))
    (hhon : c.honours body.held u lanes = true) : ((c.announceLanes a body).get a).laneClaim = none ∧
      ((c.announceLanes a body).get u).lanesOf a = lanes ∧ ∀ v, v ≠ u → ((c.announceLanes a body).get v).lanesOf a = [] := by
  have hshaped := hs.announceLanes a hb
  have hheq : c.announceHold a body = c.honour a u lanes := by simp only [Census.announceHold, hhold, hhon, if_true]
  obtain ⟨b, rfl⟩ := hb.lanes u lanes hhold
  obtain ⟨hrelaned, hself, -⟩ := hs.honour (a := a) ((c.honours_iff _ u _).mp hhon).2.1 fun k hk => lanesOfByte_lt hk
  have hnone : body.laneClaim = none := hb.single (by rw [hhold]; rfl)
  have hdrop : (c.honour a u (lanesOfByte b)).announceLaneClaim a body = (c.honour a u (lanesOfByte b)).dropLaneClaim a := by
    simp only [Census.announceLaneClaim, hnone]
  obtain ⟨hclaim, howner⟩ := hrelaned.shaped.dropLaneClaim_unclaimed a
  rw [c.announceLanes_of_blade a hp, hheq, hdrop] at hshaped ⊢
  refine ⟨hclaim, lanesOf_of_owner fun k => ?_, fun v hv => (hshaped.lanesOf_eq_nil v a).mpr fun k ho => ?_⟩
  · rw [howner, hself]
    exact ⟨fun h => h.2, fun h => ⟨rfl, h⟩⟩
  · rw [howner, hself] at ho
    exact hv ho.1

omit hs hb in
theorem Census.announceLanes_refused (hhon : ∀ u lanes, body.holding = some (u, lanes) → c.honours body.held u lanes = false) :
    c.announceLanes a body = (c.freeLanes a).announceLaneClaim a body := by
  have hheq : c.announceHold a body = c.freeLanes a := by
    unfold Census.announceHold
    cases hh : body.holding with
    | none => rfl
    | some q => exact if_neg (by rw [hhon q.1 q.2 hh]; decide)
  rw [c.announceLanes_of_blade a hp, hheq]

omit hb in
/-- Without an honoured holding the station owns no lanes. -/
theorem Census.Shaped.announceLanes_laneless (hhon : ∀ u lanes, body.holding = some (u, lanes) → c.honours body.held u lanes = false)
    (v : Addr) (k : Nat) : ((c.announceLanes a body).get v).owner k ≠ some a := by
  have hsf := hs.freeLanes a
  have hfree := hs.freeLanes_laneless a v k
  rw [Census.announceLanes_refused a hp hhon]
  unfold Census.announceLaneClaim
  split
  · split
    · split
      · exact hfree
      · unfold Census.putLaneClaim
        rw [Census.mark_get, hsf.get_upd]
        split <;> simpa using hfree
    · rw [(hsf.dropLaneClaim_unclaimed a).2]
      exact hfree
  · rw [(hsf.dropLaneClaim_unclaimed a).2]
    exact hfree

omit hb in
/-- A lane claim that is not announced, or is on no available uplink, goes. -/
theorem Census.Shaped.announceLanes_unclaimed (hhon : ∀ u lanes, body.holding = some (u, lanes) → c.honours body.held u lanes = false)
    (hclaim : ∀ u n, body.laneClaim = some (u, n) → c.available u = false) :
    ((c.announceLanes a body).get a).laneClaim = none := by
  have hsf := hs.freeLanes a
  rw [Census.announceLanes_refused a hp hhon]
  unfold Census.announceLaneClaim
  split
  · rename_i u n hq
    rw [hs.freeLanes_available, hclaim u n hq, if_neg Bool.false_ne_true]
    exact (hsf.dropLaneClaim_unclaimed a).1
  · exact (hsf.dropLaneClaim_unclaimed a).1

/-- A lane claim on an available uplink waits there (R35). -/
theorem Census.Shaped.announceLanes_served {u : Addr} {n : Nat} (hq : body.laneClaim = some (u, n)) (hav : c.available u = true)
    (hblade : (c.get a).blade.isSome = true) : (c.announceLanes a body).Served a u (min n (c.get u).offer) := by
  have hhon : ∀ u lanes, body.holding = some (u, lanes) → c.honours body.held u lanes = false := fun v lanes hh => by
    have hnone := hb.single (by rw [hh]; rfl)
    rw [hq] at hnone
    cases hnone
  refine .inl ⟨?_, hs.announceLanes_laneless a hp hhon⟩
  have hsf := hs.freeLanes a
  have havf : (c.freeLanes a).available u = true := (hs.freeLanes_available a u).trans hav
  have hoffer : ((c.freeLanes a).get u).offer = (c.get u).offer := by rw [hs.get_freeLanes, Entry.freeing_offer]
  rw [Census.announceLanes_refused a hp hhon]
  unfold Census.announceLaneClaim
  rw [hq]
  dsimp only
  rw [if_pos havf]
  split
  · rename_i hsame
    rw [← hoffer]
    exact beq_iff_eq.mp hsame
  · unfold Census.putLaneClaim
    rw [Census.mark_get, hsf.get_upd, if_pos rfl, hoffer]
    have hbf : ((c.freeLanes a).get a).blade.isSome = true := by
      rw [hs.get_freeLanes]
      simpa using hblade
    cases hbl : ((c.freeLanes a).get a).blade with
    | none => rw [hbl] at hbf; cases hbf
    | some q => simp [Entry.laneClaim, hbl]

end

end Sys2Proof.Machine
end

section
/-! PROOFS. An ANNOUNCE from a peer overwrites its entry (R32 to R35), and its identity is asked for (R40). -/

namespace Sys2Proof.Machine

variable {s t : State}

/-! ## Lanes are no part of an entry's face -/

theorem Entry.offer_of_face {e e' : Entry} (h : e'.part.face = e.part.face) : e'.offer = e.offer := by
  cases hp : e.part <;> cases hp' : e'.part <;> simp [RolePart.face, hp, hp'] at h <;>
    simp [Entry.offer, Entry.uplink, hp, hp', h]

theorem Entry.updLaneClaim_face (e : Entry) (q : Option (Addr × Nat)) :
    (e.updBlade (fun p => { p with laneClaim := q })).part.face = e.part.face := by
  cases h : e.part <;> simp [Entry.updBlade, RolePart.face, h]

/-- The lanes of an ANNOUNCE change lane tables and lane claims alone. -/
theorem Census.Shaped.announceLaneClaim_plain {c : Census} (hs : c.Shaped) (a : Addr) (body : AnnounceBody) (b : Addr) :
    ((c.announceLaneClaim a body).get b).bare = (c.get b).bare ∧
      ((c.announceLaneClaim a body).get b).part.face = (c.get b).part.face := by
  have hdrop : ((c.dropLaneClaim a).get b).bare = (c.get b).bare ∧ ((c.dropLaneClaim a).get b).part.face = (c.get b).part.face := by
    rw [hs.get_dropLaneClaim]
    split
    · exact ⟨Entry.updBlade_bare _ _, Entry.withoutLaneClaim_face _⟩
    · exact ⟨rfl, rfl⟩
  unfold Census.announceLaneClaim
  split
  · split
    · split
      · exact ⟨rfl, rfl⟩
      · unfold Census.putLaneClaim
        rw [Census.mark_get, hs.get_upd]
        split
        · exact ⟨Entry.updBlade_bare _ _, Entry.updLaneClaim_face _ _⟩
        · exact ⟨rfl, rfl⟩
    · exact hdrop
  · exact hdrop

theorem Census.Shaped.announceLanes_plain {c : Census} (hs : c.Shaped) (a : Addr) {body : AnnounceBody} (hb : body.Sound)
    (b : Addr) : ((c.announceLanes a body).get b).bare = (c.get b).bare ∧
      ((c.announceLanes a body).get b).part.face = (c.get b).part.face := by
  unfold Census.announceLanes
  split
  · rcases c.announceHold_cases a hb with ⟨u, lanes, -, hhon, heq, hlt⟩ | ⟨-, heq⟩ <;> rw [heq]
    · have hrelaned := (hs.honour (a := a) ((c.honours_iff _ u lanes).mp hhon).2.1 hlt).1
      have hplain := hrelaned.shaped.announceLaneClaim_plain a body b
      exact ⟨hplain.1.trans (hrelaned.entries b).bare, hplain.2.trans (hrelaned.entries b).face⟩
    · have hplain := (hs.freeLanes a).announceLaneClaim_plain a body b
      rw [hs.get_freeLanes] at hplain
      exact ⟨hplain.1.trans (Entry.freeing_bare _ _), hplain.2.trans (Entry.freeing_face _ _)⟩
  all_goals exact ⟨rfl, rfl⟩

theorem Census.Served.congr {c c' : Census} (h : ∀ b, (c'.get b).part = (c.get b).part) {a u : Addr} {n : Nat}
    (hserved : c.Served a u n) : c'.Served a u n := by
  have hclaim : ∀ b, (c'.get b).laneClaim = (c.get b).laneClaim := fun b => by
    rw [← RolePart.view_laneClaim, h, RolePart.view_laneClaim]
  have howner : ∀ b k, (c'.get b).owner k = (c.get b).owner k := fun b k => by
    rw [← RolePart.view_owner, h, RolePart.view_owner]
  have hlanes := Census.lanesOf_congr (c := c) (c' := c') (a := a) fun v k => by rw [howner]
  exact hserved.imp (fun ⟨hwait, hnone⟩ => ⟨(hclaim a).trans hwait, fun v k => by rw [howner]; exact hnone v k⟩)
    fun ⟨hdone, hlen⟩ => ⟨(hclaim a).trans hdone, by rw [hlanes, hlen]⟩

/-! ## The census after a sound ANNOUNCE -/

/-- The census that an ANNOUNCE makes: role, fields and levels, then a blade's lanes. -/
def Census.announced (c : Census) (a : Addr) (body : AnnounceBody) : Census := (c.announceEntry a body).announceLanes a body

theorem Census.Shaped.announced {c : Census} (hs : c.Shaped) (a : Addr) {body : AnnounceBody} (hb : body.Sound) :
    (c.announced a body).Shaped := (hs.announceEntry a).announceLanes a hb

theorem State.resynchronise_entries (s : State) (a : Addr) : (s.resynchronise a).cen.entries = s.cen.entries := by
  unfold State.resynchronise
  split
  · split
    · split <;> rfl
    · rfl
  · rfl

theorem State.policyCompare_cen (s : State) (pre : Entry) (a : Addr) (body : AnnounceBody) :
    ∃ m, (s.policyCompare pre a body).cen = s.cen.upd a (fun e => { e with mismatch := m }) :=
  ⟨_, State.raiseIf_cen _ _ _⟩

/-- The entries after it: the announced census, and the sender's mismatch flag (R43). -/
theorem State.applyAnnounce_entries (hs : s.cen.Shaped) (pre : Census) (a : Addr) {body : AnnounceBody} (hb : body.Sound) :
    ∃ (c : Census) (u : State) (m : Bool), c.entries = s.cen.entries ∧ s.applyAnnounce pre a body = u.askIdentity a ∧
      u.station = s.station ∧ ∀ b, u.entry b =
        if b = a then { (c.announced a body).get b with mismatch := m } else (c.announced a body).get b := by
  obtain ⟨w, htold, heq⟩ := s.applyAnnounce_eq pre a body
  have hstation : ((w.policyCompare (pre.get a) a body).resynchronise a).station = s.station := by
    have hlife : (s.applyAnnounce pre a body).life = s.life := State.life_of_fixed (s.applyAnnounce_fixed pre a body)
    rw [heq, State.askIdentity, State.requestIf_life] at hlife
    exact congrArg Life.station hlife
  have hc : (if body.supplyExcess then s.anomaly else s).cen.entries = s.cen.entries := by split <;> rfl
  have hw : w.cen = (if body.supplyExcess then s.anomaly else s).cen.announced a body := htold.cen
  have hws : w.cen.Shaped := by rw [hw]; exact (hs.of_entries hc).announced a hb
  obtain ⟨m, hm⟩ := w.policyCompare_cen (pre.get a) a body
  refine ⟨_, _, m, hc, heq, hstation, fun b => ?_⟩
  rw [← hw, State.entry, Census.get_congr (State.resynchronise_entries _ a), hm]
  exact hws.get_upd a b _

/-! ## Asking for an identity (R40) -/

theorem State.askIdentity_slot {a : Addr} (hx : s.station = .joined) (hi : (s.entry a).identityComplete = false)
    (hq : (s.entry a).quiet = none) : ((s.askIdentity a).slot .query).isSome = true := by
  unfold State.askIdentity
  by_cases hh : s.holdsRequest (.query a) = true
  · rw [State.requestIf, if_neg (by simp [hh])]
    unfold State.holdsRequest at hh
    cases hslot : s.slot .query with
    | none =>
      rw [show s.slot (FrameReq.query a).slot = none from hslot] at hh
      cases hh
    | some f => rfl
  · rw [State.requestIf, if_pos (by simp [hx, hi, hq, hh])]
    exact State.request_slot_isSome (by rw [hx]; rfl) (.query a)

theorem Entry.identityComplete_of_none {e : Entry} (h : e.identity = none) : e.identityComplete = false := by
  simp [Entry.identityComplete, h]

theorem Entry.identityComplete_congr {e e' : Entry} (h : e'.identity = e.identity) :
    e'.identityComplete = e.identityComplete := by simp only [Entry.identityComplete, h]

/-- A change of role takes the identity; nothing else of an ANNOUNCE does, and none starts the quiet timer. -/
theorem Census.Shaped.announced_identity {c : Census} (hs : c.Shaped) (a : Addr) {body : AnnounceBody} (hb : body.Sound) :
    (((c.announced a body).get a).identity = none ∨ ((c.announced a body).get a).identity = (c.get a).identity) ∧
      ((c.announced a body).get a).quiet = (c.get a).quiet := by
  have hcore : ((c.announced a body).get a).core = (((c.announceRole a body).get a).announced body).core :=
    ((hs.announceEntry a).announceLanes_core a a hb).trans (hs.announceEntry_core a)
  have hident := congrArg Entry.identity hcore
  have hquiet := congrArg Entry.quiet hcore
  have hrole : (((c.announceRole a body).get a).identity = none ∨ ((c.announceRole a body).get a).identity = (c.get a).identity) ∧
      ((c.announceRole a body).get a).quiet = (c.get a).quiet := by
    unfold Census.announceRole
    split
    · rw [(hs.free a).get_upd, if_pos rfl]
      have hfree := congrArg Entry.quiet (hs.free_core a a)
      exact ⟨.inl rfl, hfree⟩
    · exact ⟨.inr rfl, rfl⟩
  exact ⟨hrole.1.imp (hident.trans ·) (hident.trans ·), hquiet.trans hrole.2⟩

theorem State.takeAnnounce_asks (hs : s.cen.Shaped) (pre : Census) {a : Addr} (bs : List Byte) (hx : s.station = .joined)
    (hi : (s.entry a).identityComplete = false) (hq : (s.entry a).quiet = none) :
    ((s.takeAnnounce pre a false bs).slot .query).isSome = true := by
  unfold State.takeAnnounce
  rw [if_neg Bool.false_ne_true]
  split
  · have hentry : ((s.anomaly).resynchronise a).entry a = s.entry a := by
      rw [State.entry, Census.get_congr (State.resynchronise_entries _ a)]
      rfl
    refine State.askIdentity_slot ?_ ?_ ?_
    · rw [State.station, State.life_of_fixed ((State.resynchronise_fixed _ a).trans s.anomaly_fixed)]
      exact hx
    · rw [hentry]; exact hi
    · rw [hentry]; exact hq
  · rename_i body hbody
    have hb := decodeAnnounce_sound hbody
    obtain ⟨c, u, m, hc, heq, hstation, hentry⟩ := State.applyAnnounce_entries hs pre a hb
    obtain ⟨hident, hquiet⟩ := (hs.of_entries hc).announced_identity a hb
    rw [Census.get_congr hc] at hident hquiet
    have hself := hentry a
    rw [if_pos rfl] at hself
    rw [heq]
    refine State.askIdentity_slot (hstation.trans hx) ?_ ?_
    · rw [hself]
      rcases hident with h | h
      · exact Entry.identityComplete_of_none h
      · exact (Entry.identityComplete_congr h).trans hi
    · rw [hself]
      exact hquiet.trans hq

end Sys2Proof.Machine
end

section
/-! PROOFS. The entry and the lanes of a peer after its ANNOUNCE and the answer to it (O56). -/

namespace Sys2Proof.Machine

variable {s t : State}

/-- An ANNOUNCE with sound fields has made `v` of the state `s`, by way of the census `c` that heard its sender, and the
answer has made `t` of that. -/
structure AnnounceTaken (s : State) (a : Addr) (body : AnnounceBody) (c : Census) (v t : State) : Prop where
  answered : PeerAnswered a v t
  addr : v.addr = s.addr
  sound : body.Sound
  shaped : c.Shaped
  parts : ∀ b, (c.get b).part = (s.entry b).part
  states : ∀ b, b ≠ a → (c.get b).state = (s.entry b).state
  after : ∃ m, ∀ b, v.entry b =
    if b = a then { (c.announced a body).get b with mismatch := m } else (c.announced a body).get b

namespace AnnounceTaken

variable {a : Addr} {body : AnnounceBody} {c : Census} {v : State} (h : AnnounceTaken s a body c v t)
include h

theorem entryShaped : (c.announceEntry a body).Shaped := h.shaped.announceEntry a

theorem part (b : Addr) : (v.entry b).part = ((c.announced a body).get b).part := by
  obtain ⟨m, hm⟩ := h.after
  rw [hm]
  split <;> rfl

theorem laneClaim (b : Addr) : (v.entry b).laneClaim = ((c.announced a body).get b).laneClaim := by
  rw [← RolePart.view_laneClaim, h.part, RolePart.view_laneClaim]

theorem lanesOf (b d : Addr) : (v.entry b).lanesOf d = ((c.announced a body).get b).lanesOf d := by
  refine Census.lanesOf_congr (c := c.announced a body) (c' := v.cen) (fun u k => ?_) b
  rw [← RolePart.view_owner, show (v.cen.get u).part = _ from h.part u, RolePart.view_owner]

/-- The sender's entry: station, policy and priority; face; held level and claim. -/
theorem self : (v.entry a).station = some body.station ∧ (v.entry a).policy = some body.policy ∧
    (v.entry a).priority = body.priority ∧ (v.entry a).part.face = body.part.face ∧ (v.entry a).held = body.held ∧
    (v.entry a).claim = body.claim := by
  obtain ⟨m, hm⟩ := h.after
  have hself := hm a
  rw [if_pos rfl] at hself
  have hcore := ((h.entryShaped.announceLanes_core a a h.sound).trans (h.shaped.announceEntry_core a))
  obtain ⟨hbare, hface⟩ := h.entryShaped.announceLanes_plain a h.sound a
  have hstation := congrArg Entry.station hcore
  have hpolicy := congrArg Entry.policy hcore
  have hpriority := congrArg Entry.priority hcore
  rw [hself]
  exact ⟨hstation, hpolicy, hpriority, hface.trans (h.shaped.announceEntry_face a),
    (Entry.held_of_bare hbare).trans (h.shaped.announceEntry_held a),
    (Entry.claim_of_bare hbare).trans (h.shaped.announceEntry_claim a)⟩

theorem face : (t.entry a).part.face = body.part.face := h.answered.face.trans h.self.2.2.2.1

/-- Another station's entry: offer and role, at the lanes of the ANNOUNCE and after them. -/
theorem other {u : Addr} (hu : u ≠ a) : ((c.announceEntry a body).get u).offer = (s.entry u).offer ∧
    ((c.announceEntry a body).get u).uplink.isSome = (s.entry u).uplink.isSome ∧
    (v.entry u).offer = (s.entry u).offer ∧ (v.entry u).role = (s.entry u).role := by
  obtain ⟨hoffer, hrole⟩ := h.shaped.announceEntry_other a (body := body) hu
  have hoffer' : (c.get u).offer = (s.entry u).offer := by rw [← RolePart.view_offer, h.parts, RolePart.view_offer]
  have hrole' := hrole.trans (Entry.role_of_part (h.parts u))
  have hface := (h.entryShaped.announceLanes_plain a h.sound u).2
  have hpart := h.part u
  refine ⟨hoffer.trans hoffer', ?_, ?_, ?_⟩
  · rw [Bool.eq_iff_iff, ← Entry.role_uplink_iff, ← Entry.role_uplink_iff, hrole']
  · rw [← hoffer', ← hoffer, ← Entry.offer_of_face hface]
    exact Entry.offer_of_face (congrArg RolePart.face hpart)
  · rw [← hrole', ← Entry.role_of_face hface]
    exact Entry.role_of_part hpart

theorem available {u : Addr} (hu : u ≠ a) : (c.announceEntry a body).available u = true ↔
    (s.entry u).state = .live ∧ 0 < (s.entry u).offer := by
  have hstate : ((c.announceEntry a body).get u).state = (s.entry u).state :=
    (congrArg Prod.fst (h.shaped.announceEntry_pulse a u body)).trans (h.states u hu)
  rw [Census.available, (h.other hu).1]
  simp [Entry.isLive, hstate]

/-- A lane claim or lanes on an uplink end in the claim's service, unless that is the own uplink with another offer. -/
theorem escape {u : Addr} (hu : u ≠ a) {q : Prop} (hq : q ∨ (u = v.addr ∧ (t.entry u).offer ≠ (v.entry u).offer)) :
    q ∨ (u = s.addr ∧ (t.entry u).offer ≠ (s.entry u).offer) := by
  rw [h.addr, (h.other hu).2.2.1] at hq
  exact hq

section

variable {p : BladePart} (hp : body.part = .blade p)
include hp

theorem notHonoured {u : Addr} {lanes : List Nat}
    (hno : body.held = 0 ∨ (s.entry u).uplink.isSome = false ∨ ∃ k ∈ lanes, (s.entry u).offer ≤ k) :
    (c.announceEntry a body).honours body.held u lanes = false := by
  rw [Bool.eq_false_iff, ne_eq, Census.honours_iff]
  rintro ⟨hheld, hup, hlanes⟩
  by_cases hu : u = a
  · have hface := h.shaped.announceEntry_face a (body := body)
    rw [hp] at hface
    rw [hu] at hup
    cases hpart : ((c.announceEntry a body).get a).part <;> simp [Entry.uplink, hpart] at hup
    simp [RolePart.face, hpart] at hface
  · obtain ⟨hoffer, hup', -⟩ := h.other hu
    rcases hno with h0 | hnone | ⟨k, hk, hle⟩
    · omega
    · rw [hup', hnone] at hup; cases hup
    · have := hlanes k hk; omega

theorem honoured {u : Addr} {lanes : List Nat} (hhold : body.holding = some (u, lanes)) (hheld : 0 < body.held) (hu : u ≠ a)
    (hup : (s.entry u).uplink.isSome = true) (hlanes : ∀ k ∈ lanes, k < (s.entry u).offer) :
    ((t.entry a).laneClaim = none ∧ (t.entry u).lanesOf a = lanes ∧ ∀ w, w ≠ u → (t.entry w).lanesOf a = []) ∨
      (u = s.addr ∧ (t.entry u).offer ≠ (s.entry u).offer) := by
  obtain ⟨hoffer, hup', -, hrole⟩ := h.other hu
  have hhon : (c.announceEntry a body).honours body.held u lanes = true := by
    rw [Census.honours_iff, hup', hoffer]
    exact ⟨hheld, hup, hlanes⟩
  obtain ⟨hclaim, hgiven, hnone⟩ := h.entryShaped.announceLanes_honoured a h.sound hp hhold hhon
  have hclaim' : (v.entry a).laneClaim = none := (h.laneClaim a).trans hclaim
  have hrole' : u = v.addr → (v.entry u).role = some .uplink := fun _ => hrole.trans ((Entry.role_uplink_iff _).mpr hup)
  refine h.escape hu ((h.answered.answered.unclaimedSame h.answered.shaped h.answered.peer hrole' hclaim').imp_left
    fun hsame => ⟨h.answered.answered.unclaimed h.answered.shaped h.answered.peer hclaim', ?_, fun w hw => ?_⟩)
  · exact hsame.trans ((h.lanesOf u a).trans hgiven)
  · exact h.answered.answered.unclaimedNil h.answered.shaped h.answered.peer hclaim' ((h.lanesOf w a).trans (hnone w hw))

theorem laneless (hhon : ∀ u lanes, body.holding = some (u, lanes) → (c.announceEntry a body).honours body.held u lanes = false)
    (w : Addr) : (v.entry w).lanesOf a = [] := by
  rw [h.lanesOf]
  exact ((h.shaped.announced a h.sound).lanesOf_eq_nil w a).mpr (h.entryShaped.announceLanes_laneless a hp hhon w)

theorem unclaimed (hhon : ∀ u lanes, body.holding = some (u, lanes) → (c.announceEntry a body).honours body.held u lanes = false)
    (hclaim : ∀ u n, body.laneClaim = some (u, n) → (c.announceEntry a body).available u = false) :
    (t.entry a).laneClaim = none ∧ ∀ w, (t.entry w).lanesOf a = [] := by
  have hnone : (v.entry a).laneClaim = none := (h.laneClaim a).trans (h.entryShaped.announceLanes_unclaimed a hp hhon hclaim)
  exact ⟨h.answered.answered.unclaimed h.answered.shaped h.answered.peer hnone, fun w =>
    h.answered.answered.unclaimedNil h.answered.shaped h.answered.peer hnone (h.laneless hp hhon w)⟩

/-- A lane claim stands beside no holding (R32). -/
theorem noHolding {u : Addr} {n : Nat} (hq : body.laneClaim = some (u, n)) (w : Addr) (lanes : List Nat)
    (hhold : body.holding = some (w, lanes)) : (c.announceEntry a body).honours body.held w lanes = false := by
  have hnone := h.sound.single (by rw [hhold]; rfl)
  rw [hq] at hnone
  cases hnone

theorem served {u : Addr} {n : Nat} (hq : body.laneClaim = some (u, n)) (hu : u ≠ a) (hlive : (s.entry u).state = .live)
    (hpos : 0 < (s.entry u).offer) (hle : (s.entry u).offer ≤ 8) :
    (t.entry a).laneClaim = some (u, min n (s.entry u).offer) ∨
      ((t.entry a).laneClaim = none ∧ ((t.entry u).lanesOf a).length = min n (s.entry u).offer) ∨
      (u = s.addr ∧ (t.entry u).offer ≠ (s.entry u).offer) := by
  obtain ⟨hoffer, -, hoffer', hrole⟩ := h.other hu
  have hblade : ((c.announceEntry a body).get a).blade.isSome = true := by
    have hface := h.shaped.announceEntry_face a (body := body)
    rw [hp] at hface
    cases hpart : ((c.announceEntry a body).get a).part <;> simp [RolePart.face, hpart] at hface
    simp [Entry.blade, hpart]
  have hserved := h.entryShaped.announceLanes_served a h.sound hp hq ((h.available hu).mpr ⟨hlive, hpos⟩) hblade
  rw [hoffer] at hserved
  have hserved' : v.cen.Served a u (min n (s.entry u).offer) := hserved.congr h.part
  have hup : (v.entry u).role = some .uplink := hrole.trans ((Entry.role_uplink_iff _).mpr (Entry.uplink_of_offer hpos))
  rcases h.escape hu (h.answered.answered.served h.answered.shaped h.answered.peer (fun _ => hup)
    (hoffer'.symm ▸ hle) hserved') with (⟨hwait, -⟩ | hdone) | hown
  · exact .inl hwait
  · exact .inr (.inl hdone)
  · exact .inr (.inr hown)

end

end AnnounceTaken

/-- The sound ANNOUNCE of a peer is taken. -/
theorem State.hears.announceTaken {a : Addr} {payload : List Byte} {check : Half} {body : AnnounceBody} (hs : s.shaped)
    (h : s.hears a (.announce payload) check) (hbody : decodeAnnounce payload = some body)
    (hans : PeerAnswered a ((s.heard a).takeContents s.cen a false (.announce payload)) t) :
    ∃ c, AnnounceTaken s a body c ((s.heard a).takeContents s.cen a false (.announce payload)) t := by
  have hb := decodeAnnounce_sound hbody
  obtain ⟨c, u, m, hc, heq, -, hentry⟩ := State.applyAnnounce_entries (s := s.heard a) (h.heard_shaped hs) s.cen a hb
  have hcontents : (s.heard a).takeContents s.cen a false (.announce payload) = u.askIdentity a := by
    show (s.heard a).takeAnnounce s.cen a false payload = _
    rw [State.takeAnnounce, if_neg Bool.false_ne_true, hbody]
    exact heq
  refine ⟨c, hans, s.contents_addr, hb, (h.heard_shaped hs).of_entries hc, fun b => ?_, fun b hba => ?_, m, fun b => ?_⟩
  · rw [Census.get_congr hc]
    exact h.heard_part hs b
  · rw [Census.get_congr hc, show (s.heard a).cen.get b = (s.heard a).entry b from rfl, h.heard_entry hs, if_neg hba]
  · rw [hcontents, State.askIdentity, State.entry, State.requestIf_cen]
    exact hentry b

theorem RolePart.role_of_face {p q : RolePart} (h : p.face = q.face) : p.role = q.role := by
  cases p <;> cases q <;> simp [RolePart.face] at h <;> rfl

theorem Entry.role_eq (e : Entry) : e.role = e.part.role := by
  cases h : e.part <;> simp [Entry.role, RolePart.role, h]

/-- A payload with a code fault leaves the sender's entry as it was heard, with an anomaly. -/
theorem State.takeAnnounce_of_fault (a : Addr) {bs : List Byte} (hbody : decodeAnnounce bs = none) (pre : Census) :
    (s.takeAnnounce pre a false bs).cen.entries = s.cen.entries ∧
      (s.takeAnnounce pre a false bs).cen.anomalies = s.anomaly.cen.anomalies := by
  have hresync : ∀ u : State, (u.resynchronise a).cen.anomalies = u.cen.anomalies := fun u => by
    unfold State.resynchronise
    split
    · split
      · split <;> rfl
      · rfl
    · rfl
  rw [State.takeAnnounce, if_neg Bool.false_ne_true, hbody]
  dsimp only
  rw [State.askIdentity, State.requestIf_cen]
  exact ⟨State.resynchronise_entries _ a, hresync _⟩

/-- Settles O56: the sender's entry and lanes are those of the ANNOUNCE, and no answer writes them but to serve a claim. -/
theorem announceOverwritesTheEntry : Obligations.AnnounceOverwritesTheEntry := by
  intro a payload check s hs h
  obtain ⟨t, ht, hout⟩ := exec_of_peer (i := .announceAccepted a payload check) hs h rfl nofun
  refine ⟨t, ht, hout.imp_right fun hans => ⟨fun body hbody => ?sound, fun hbody => ?fault, fun hx hi hq => ?asks⟩⟩
  case sound =>
    obtain ⟨c, htaken⟩ := h.announceTaken hs hbody hans
    generalize (s.heard a).takeContents s.cen a false (.announce payload) = v at hans htaken
    obtain ⟨hstation, hpolicy, hpriority, -, hheld, hclaim⟩ := htaken.self
    have hface := htaken.face
    have hcore := hans.core
    refine ⟨(congrArg Entry.station hcore).trans hstation, (congrArg Entry.policy hcore).trans hpolicy,
      (congrArg Entry.priority hcore).trans hpriority, ?role, ?unclaimed, ?claimed, ?supply, ?fan, ?uplink, ?lanes, ?blade⟩
    case role => rw [Entry.role_eq, RolePart.role_of_face hface]
    case unclaimed =>
      intro hnone
      obtain ⟨hheld', hclaim'⟩ := hans.admitted.of_unclaimed (hclaim.trans hnone)
      exact ⟨hheld'.trans hheld, hclaim'⟩
    case claimed =>
      intro x hx
      refine (hans.admitted.of_claimed (hclaim.trans hx)).imp_left fun ⟨hheld', hclaim'⟩ => ⟨hheld'.trans hheld, hclaim'⟩
    case supply =>
      intro p hp
      rw [hp] at hface
      exact RolePart.eq_supply_of_face hface
    case fan =>
      intro p hp
      rw [hp] at hface
      exact RolePart.eq_fan_of_face hface
    case uplink =>
      intro p hp
      rw [hp] at hface
      cases hq : (t.entry a).part <;> simp [RolePart.face, hq] at hface
      obtain ⟨hoffer, hcross⟩ := hface
      simp [Entry.offer, Entry.uplink, hq, hoffer, hcross]
    case lanes =>
      intro p hp
      refine ⟨fun u lanes hhold hheld hu hup hlanes => htaken.honoured hp hhold hheld hu hup hlanes,
        fun hno hnone => ?_, fun u n hq hu hlive hpos hle => htaken.served hp hq hu hlive hpos hle,
        fun u n hq hzero hnone => ?_, fun u n hq hno hu => ?_⟩
      · refine htaken.unclaimed hp (fun u lanes hhold => ?_) fun u n hq => by rw [hnone] at hq; cases hq
        rcases hno with hno | ⟨w, ls, hhold', hno⟩
        · rw [hno] at hhold; cases hhold
        · rw [hhold] at hhold'
          cases hhold'
          exact htaken.notHonoured hp hno
      · exact hans.answered.powerlessNil hans.shaped hans.peer ⟨hheld.trans hzero, hclaim.trans hnone⟩
          (htaken.laneless hp (htaken.noHolding hp hq))
      · refine htaken.unclaimed hp (htaken.noHolding hp hq) fun w m hq' => ?_
        rw [hq] at hq'
        cases hq'
        rw [Bool.eq_false_iff, ne_eq, htaken.available hu]
        rintro ⟨hlive, hpos⟩
        rcases hno with hno | hno
        · exact hno hlive
        · omega
    case blade =>
      intro p hp
      rw [hp] at hface
      cases hq : (t.entry a).part with
      | blade q =>
        rw [hq] at hface
        have hsame := RolePart.blade.inj hface
        have hzone := congrArg BladePart.zone hsame
        have hdemand := congrArg BladePart.demand hsame
        have hfull := congrArg BladePart.full hsame
        have hreduced := congrArg BladePart.reduced hsame
        exact ⟨q, rfl, hzone, hdemand, hfull, hreduced⟩
      | unknown | fan q | supply q | uplink q => simp [RolePart.face, hq] at hface
  case fault =>
    obtain ⟨hentries, hanomalies⟩ := State.takeAnnounce_of_fault (s := s.heard a) a hbody s.cen
    have hentry : (((s.heard a).takeContents s.cen a false (.announce payload)).entry a) = (s.heard a).entry a :=
      Census.get_congr hentries a
    have hheard := h.heard_entry hs a
    rw [if_pos rfl] at hheard
    have hcore := hans.core
    rw [hentry, hheard] at hcore
    have hstation := congrArg Entry.station hcore
    have hpolicy := congrArg Entry.policy hcore
    have hpriority := congrArg Entry.priority hcore
    refine ⟨?_, hstation, hpolicy, hpriority, ?_⟩
    · rw [hans.anomalies, ← h.heard_anomalies hs]
      exact hanomalies
    · rw [hans.answered.entryRole hans.shaped, hentry, hheard]
      rfl
  case asks =>
    rw [hans.answered.kept_slot rfl rfl]
    have hheard := h.heard_entry hs a
    rw [if_pos rfl] at hheard
    refine State.takeAnnounce_asks (h.heard_shaped hs) s.cen payload ?_ ?_ ?_
    · rw [State.station, State.life_of_fixed (s.newEvent.hear_fixed a)]
      exact hx
    · rw [hheard]; exact hi
    · rw [hheard]; exact hq

end Sys2Proof.Machine
end

section
/-! PROOFS. The passages between station states that an answer may bring (R54 to R56, R64, R66), as a run of small moves;
the timers of the census at their ends (R28, R29, R37, R40). -/

namespace Sys2Proof.Machine

variable {s t u : State}

/-! ## The states in which the role blocks answer an entry -/

/-- MUTE, before the local write and the answer of the role blocks. -/
def State.muted (s : State) (cause : MuteCause) : State :=
  (((s.muteBus cause).updLife Life.mute).updCen (fun c => { c with announceTimer := none })).updLmp
    (fun l => { l with waiting := none })

theorem State.enterMute_eq (s : State) (cause : MuteCause) :
    s.enterMute cause = (s.muted cause).muteFault.evalRoles s.cen true .both s := rfl

/-- LISTEN, before the queue is rid of a DEPART and the role blocks answer. -/
def State.listenBegun (s : State) : State :=
  let t := (s.enterState .listen).updLife (fun l => { l with listenTimer := some listenMs })
  let t := (t.updCen (fun c => c.listen s.addr)).updLmp (fun l => { l with waiting := none, forcedIdle := false })
  { t with client := { t.client with lastSent := 0 } }

/-- LISTEN, before the test of the fault score. -/
def State.listened (s : State) : State :=
  s.listenBegun.disposeDepart.evalRoles s.listenBegun.cen false .none s.listenBegun

theorem State.enterListen_eq_listened (s : State) :
    s.enterListen = if s.listened.pbc.faultScore == Config.faultMax then s.listened.enterMute .faultScore else s.listened := rfl

/-- PARKED, before the role blocks answer. -/
def State.parkBegun (s : State) : State :=
  (((s.updLife Life.park).enterState .parked).ownStation none).updCen
    (fun c => { c.stopTimers with deficit := false, overdraw := false })

theorem State.becomeParked_eq (s : State) :
    s.becomeParked = s.parkBegun.evalRoles s.parkBegun.cen false .none s.parkBegun := rfl

/-! ## Passages -/

/-- A run of answers of the role blocks, steps of a leaving, and entries to PARKED, LISTEN and MUTE. -/
inductive Passage : State → State → Prop
  | trans {s t u : State} : Passage s t → Passage t u → Passage s u
  | roles (s : State) (pre : Census) (force : Bool) (points : Points) (before : State) :
    Passage s (s.evalRoles pre force points before)
  | onward {s t : State} : Onward s t → Passage s t
  | stayParked (s : State) (b : Bool) : Passage s (s.updLife (fun l => { l with stayParked := b }))
  | clearQueue (s : State) : Passage s s.clearQueue
  | parkBegun (s : State) : Passage s s.parkBegun
  | listenBegun (s : State) : Passage s s.listenBegun
  | disposeDepart (s : State) : Passage s s.disposeDepart
  | muted (s : State) (cause : MuteCause) : Passage s (s.muted cause)
  | muteFault (s : State) : Passage s s.muteFault

namespace Passage

theorem refl (s : State) : Passage s s := onward (.refl s)

theorem enterMute (s : State) (cause : MuteCause) : Passage s (s.enterMute cause) := by
  rw [s.enterMute_eq]
  exact ((muted s cause).trans (muteFault _)).trans (roles _ _ _ _ _)

theorem enterListen (s : State) : Passage s s.enterListen := by
  rw [s.enterListen_eq_listened]
  have hlistened : Passage s s.listened := ((listenBegun s).trans (disposeDepart _)).trans (roles _ _ _ _ _)
  split
  · exact hlistened.trans (enterMute _ _)
  · exact hlistened

theorem testJoin (s : State) : Passage s s.testJoin := by
  unfold State.testJoin
  split
  · exact enterListen s
  · exact refl s

theorem becomeParked (s : State) : Passage s s.becomeParked := by
  rw [s.becomeParked_eq]
  exact (parkBegun s).trans (roles _ _ _ _ _)

theorem completeDeparture (s : State) (reason : DepartReason) : Passage s (s.completeDeparture reason) :=
  (((stayParked s _).trans (clearQueue _)).trans (becomeParked _)).trans (testJoin _)

theorem advanceLeaving (s : State) : Passage s s.advanceLeaving := by
  rcases s.advanceLeaving_cases with ⟨l, -, -, -, he⟩ | h
  · rw [he]
    exact completeDeparture s _
  · exact onward h

theorem react (s : State) (pre : Census) (points : Points) (before : State) : Passage s (s.react pre points before) :=
  (roles s pre false points before).trans (advanceLeaving _)

end Passage

/-! ## A quiet timer that has stopped stays so -/

/-- The sizes of the census, and an entry whose quiet timer is stopped. -/
def State.Unquiet (s : State) (a : Addr) : Prop := s.cen.Shaped ∧ (s.entry a).quiet = none

theorem Answer.unquiet {o w : Bool} (h : Answer o w s t) {a : Addr} (hq : s.Unquiet a) : t.Unquiet a := by
  have hquiet := congrArg Entry.quiet (h.core hq.1 a)
  exact ⟨h.shapedCen hq.1, hquiet.trans hq.2⟩

theorem State.disposeDepart_cen (s : State) : s.disposeDepart.cen = s.cen := by
  unfold State.disposeDepart
  split
  · rfl
  · split <;> rfl

theorem Census.stopTimers_entries {c : Census} (hs : c.Shaped) (a : Addr) :
    c.stopTimers.get a = { c.get a with silence := none, staleHold := none, quiet := none } :=
  Census.get_updAll _ hs.sized a

theorem Passage.unquiet (h : Passage s t) {a : Addr} (hq : s.Unquiet a) : t.Unquiet a := by
  induction h with
  | trans _ _ ih ih' => exact ih' (ih hq)
  | roles s pre force points before => exact (Answer.evalRoles s pre force points before).unquiet hq
  | onward h => exact ⟨h.cen ▸ hq.1, by rw [State.entry, h.cen]; exact hq.2⟩
  | stayParked | clearQueue => exact hq
  | parkBegun s =>
    have hstation : (s.cen.upd s.addr (fun e => { e with station := none })).Shaped :=
      hq.1.upd fun e he => Entry.tableOk_of_part rfl he
    have hstopped : (s.cen.upd s.addr (fun e => { e with station := none })).stopTimers.Shaped :=
      (hstation.updAll (f := fun e => { e with silence := none, staleHold := none, quiet := none })
        fun e he => Entry.tableOk_of_part rfl he).of_entries rfl
    refine ⟨hstopped.of_entries rfl, ?_⟩
    exact congrArg Entry.quiet (Census.stopTimers_entries hstation a)
  | listenBegun s =>
    refine ⟨Census.Shaped.listen _ _, (congrArg Entry.quiet (Census.get_listen s.cen s.addr a)).trans ?_⟩
    split
    · rename_i ha
      have hself := hq.2
      rw [ha] at hself
      have hkept : ∀ e : Entry, e.listenSelf.quiet = e.quiet := fun e => by
        cases e with | mk => rename_i part _ _ _ _ _; cases part <;> rfl
      exact (hkept _).trans hself
    · rfl
  | disposeDepart s => exact ⟨by rw [s.disposeDepart_cen]; exact hq.1, by rw [State.entry, s.disposeDepart_cen]; exact hq.2⟩
  | muted s cause => exact ⟨hq.1.of_entries rfl, hq.2⟩
  | muteFault s =>
    unfold State.muteFault
    split
    · exact (Answer.localZero (o := true) (w := true) s).unquiet hq
    · exact hq

/-! ## The ends of the timers -/

theorem exec_silenceExpiry (a : Addr) (s : State) : exec (.silenceExpiry a) s =
    .next (if (s.entry a).isLive && (s.entry a).silence.running then (s.newEvent.silenceExpires a).react s.cen .both s else s) := rfl
theorem exec_staleHoldExpiry (a : Addr) (s : State) : exec (.staleHoldExpiry a) s =
    .next (if (s.entry a).isStale && (s.entry a).staleHold.running then (s.newEvent.staleHoldExpires a).react s.cen .both s else s) := rfl
theorem exec_queryQuietExpiry (a : Addr) (s : State) : exec (.queryQuietExpiry a) s =
    .next (if (s.entry a).quiet.running then (s.newEvent.quietExpires a).react s.cen .both s else s) := rfl
theorem exec_announceTimerExpiry (s : State) : exec .announceTimerExpiry s =
    .next (if s.cen.announceTimer.running then s.newEvent.announceExpires.react s.cen .both s else s) := rfl

/-- What an event has made of the state is answered, by its follow-up and by the role blocks. -/
theorem State.react_after (h : Answer false true s t) (pre : Census) (points : Points) (before : State) :
    leftLeaving s (t.react pre points before) ∨ Answered s (t.react pre points before) := by
  rcases t.react_answered pre points before with ⟨hx, ht⟩ | hans
  · exact .inl ⟨h.station.symm.trans hx, ht⟩
  · exact .inr (Answered.after h hans)

theorem Entry.fallSilent_pulse (e : Entry) : e.fallSilent.pulse =
    (.stale, none, if e.role = some .blade ∨ e.role = some .supply then some 30000 else none) := by
  cases h : e.part <;> simp [Entry.fallSilent, Entry.pulse, Entry.blade, Entry.supply, Entry.role, h, staleHoldMs]

/-- The next round of announcements: the timer runs anew, and an ANNOUNCE is requested (R37). -/
def State.announceRound (s : State) : State :=
  (s.updCen (fun c => { c with announceTimer := some announceRoundMs })).request .announce

theorem State.announceRound_station (s : State) : s.announceRound.station = s.station :=
  congrArg Life.station (State.request_life _ _)

theorem State.announceRound_timer (s : State) : s.announceRound.cen.announceTimer = some 640 :=
  congrArg Census.announceTimer (State.request_cen _ _)

theorem State.announceRound_slot (h : s.station.listening = true) : (s.announceRound.slot .announce).isSome = true :=
  State.request_slot_isSome (s := s.updCen (fun c => { c with announceTimer := some announceRoundMs })) h .announce

theorem State.announceExpires_react (s : State) (pre : Census) (points : Points) (before : State) :
    leftLeaving s (s.announceExpires.react pre points before) ∨
      ((s.announceExpires.react pre points before).cen.announceTimer = some 640 ∧
        (s.station.listening = true → ((s.announceExpires.react pre points before).slot .announce).isSome = true)) := by
  rw [show s.announceExpires = s.announceRound.followUp s.cen .plain from rfl]
  rcases State.react_after (Answer.followUp s.announceRound s.cen .plain) pre points before with ⟨hx, ht⟩ | hans
  · exact .inl ⟨s.announceRound_station.symm.trans hx, ht⟩
  · refine .inr ⟨hans.clock.1.trans s.announceRound_timer, fun hx => ?_⟩
    have hkept := hans.kept_slot (i := .announce) rfl rfl
    exact (congrArg Option.isSome hkept).trans (State.announceRound_slot hx)

/-- Settles O57: each expiry writes its entry, and no answer writes the timers of an entry. -/
theorem censusTimersAtTheirEnds : Obligations.CensusTimersAtTheirEnds := by
  intro a s hs
  refine ⟨fun hlive hsilence => ?silence, fun h => ?silenceStill, fun hstale hhold => ?hold, fun h => ?holdStill,
    fun hquiet => ?quiet, fun h => ?quietStill, fun htimer => ?announce, fun h => ?announceStill⟩
  case silence =>
    refine ⟨_, (exec_silenceExpiry a s).trans (congrArg _ (if_pos (by
      simp [Entry.isLive, hlive, (Timer.running_iff _).mpr hsilence]))), ?_⟩
    refine (State.react_after (s := s.newEvent.updEntry a Entry.fallSilent)
      ((Answer.raiseIf _ _ _).trans (Answer.followUp _ _ _)) _ _ _).imp_right fun hans => ?_
    have hentry : (s.cen.upd a Entry.fallSilent).get a = (s.entry a).fallSilent := (hs.cen.get_upd a a _).trans (if_pos rfl)
    have hshaped : (s.cen.upd a Entry.fallSilent).Shaped := hs.cen.upd fun e he => Entry.tableOk_of_part rfl he
    have hpulse := (Entry.pulse_of_core (hans.core hshaped a)).trans ((congrArg Entry.pulse hentry).trans
      (s.entry a).fallSilent_pulse)
    simp only [Entry.pulse, Prod.mk.injEq] at hpulse
    exact hpulse
  case silenceStill =>
    rw [exec_silenceExpiry, if_neg]
    rw [Bool.and_eq_true, Timer.running_iff, Entry.isLive, beq_iff_eq]
    exact not_and_of_not_or_not (h.imp_right fun hnone hne => hne hnone)
  case hold =>
    refine ⟨_, (exec_staleHoldExpiry a s).trans (congrArg _ (if_pos (by
      simp [Entry.isStale, hstale, (Timer.running_iff _).mpr hhold]))), ?_⟩
    refine (State.react_after (s := s.newEvent.updCen (fun c => c.vacate a))
      ((Answer.raiseIf _ _ _).trans (Answer.followUp _ _ _)) _ _ _).imp_right fun hans => ?_
    exact hans.vacant (hs.cen.vacate a) a ((hs.cen.get_vacate a a).trans (if_pos rfl))
  case holdStill =>
    rw [exec_staleHoldExpiry, if_neg]
    rw [Bool.and_eq_true, Timer.running_iff, Entry.isStale, beq_iff_eq]
    exact not_and_of_not_or_not (h.imp_right fun hnone hne => hne hnone)
  case quiet =>
    refine ⟨_, (exec_queryQuietExpiry a s).trans (congrArg _ (if_pos ((Timer.running_iff _).mpr hquiet))), ?_⟩
    have hshaped : (s.cen.upd a (fun e => { e with quiet := none })).Shaped := hs.cen.upd fun e he => Entry.tableOk_of_part rfl he
    have hfirst : (s.newEvent.updEntry a (fun e => { e with quiet := none })).Unquiet a :=
      ⟨hshaped, congrArg Entry.quiet ((hs.cen.get_upd a a _).trans (if_pos rfl))⟩
    have hfollow : (s.newEvent.quietExpires a).Unquiet a :=
      (Answer.followUp (o := true) (w := true) _ _ _).unquiet hfirst
    exact ((Passage.react (s.newEvent.quietExpires a) s.cen .both s).unquiet hfollow).2
  case quietStill => rw [exec_queryQuietExpiry, h]; rfl
  case announce =>
    refine ⟨_, (exec_announceTimerExpiry s).trans (congrArg _ (if_pos ((Timer.running_iff _).mpr htimer))), ?_⟩
    exact s.newEvent.announceExpires_react s.cen .both s
  case announceStill => rw [exec_announceTimerExpiry, h]; rfl

end Sys2Proof.Machine
end

section
/-! PROOFS. The bus state under passages, entry to MUTE, and the end of the own frame, of a vetoed one and of one that bears
the own address (R10, R16, R17, R21). -/

namespace Sys2Proof.Machine

variable {s t : State}

/-! ## Entry to MUTE (R10, R17, R66) -/

theorem State.muteFault_answer (s : State) : Answer true true s s.muteFault := by
  unfold State.muteFault
  split
  · exact .localZero s
  · exact .refl s

theorem State.enterMute_answer (s : State) (cause : MuteCause) : Answer true true (s.muted cause) (s.enterMute cause) := by
  rw [s.enterMute_eq]
  exact (State.muteFault_answer _).trans (.evalRoles _ _ _ _ _)

theorem StationState.mute_answers (i : SlotId) : StationState.mute.answers i = false := by cases i <;> rfl

theorem State.enterMute_slot (s : State) (cause : MuteCause) (i : SlotId) : (s.enterMute cause).slot i = none := by
  rw [(s.enterMute_answer cause).kept_slot (StationState.mute_answers i)]
  exact TxQueue.get_empty i

theorem State.enterMute_life (s : State) (cause : MuteCause) : (s.enterMute cause).life = s.life.mute :=
  (s.enterMute_answer cause).life

theorem State.enterMute_bus (s : State) (cause : MuteCause) : (s.enterMute cause).pbc.muteFlag = true ∧
    (s.enterMute cause).pbc.muteCause = some cause ∧ (s.enterMute cause).pbc.onLine = none ∧
    (s.enterMute cause).pbc.faultScore = s.pbc.faultScore :=
  have h := s.enterMute_answer cause
  ⟨h.muteFlag, h.muteCause, h.onLine, h.faultScore⟩

theorem State.enterMute_timer (s : State) (cause : MuteCause) : (s.enterMute cause).cen.announceTimer = none :=
  (s.enterMute_answer cause).clock.1

/-! ## The bus state -/

/-- The fault score, the receive counter of vetoes, and an idle line. -/
def Pbc.Idle (p : Pbc) (score vetoes : Nat) : Prop := p.onLine = none ∧ p.faultScore = score ∧ p.vetoes = vetoes

theorem Pbc.idle_of_fixed {p q : Nat} (h : t.fixed = s.fixed) (hs : s.pbc.Idle p q) : t.pbc.Idle p q := by
  have honLine := congrArg (fun f : Fixed => f.bus.onLine) h
  have hscore := congrArg (fun f : Fixed => f.bus.faultScore) h
  have hvetoes := congrArg (fun f : Fixed => f.bus.vetoes) h
  exact ⟨honLine.trans hs.1, hscore.trans hs.2.1, hvetoes.trans hs.2.2⟩

theorem Passage.idle (h : Passage s t) {p q : Nat} (hs : s.pbc.Idle p q) : t.pbc.Idle p q := by
  induction h with
  | trans _ _ ih ih' => exact ih' (ih hs)
  | roles s pre force points before => exact Pbc.idle_of_fixed (s.evalRoles_fixed _ _ _ _) hs
  | onward h =>
    have hbus := h.bus
    have honLine := congrArg Pbc.onLine hbus
    have hscore := congrArg Pbc.faultScore hbus
    have hvetoes := congrArg Pbc.vetoes hbus
    exact ⟨honLine.trans hs.1, hscore.trans hs.2.1, hvetoes.trans hs.2.2⟩
  | stayParked | clearQueue | parkBegun | listenBegun => exact hs
  | disposeDepart s =>
    unfold State.disposeDepart
    split
    · exact hs
    · split <;> exact hs
  | muted => exact ⟨rfl, hs.2⟩
  | muteFault s => exact Pbc.idle_of_fixed s.muteFault_fixed hs

/-! ## The own frame -/

theorem State.ownAttempt_of_own {o : OnLine} (ho : s.pbc.onLine = some o) {frame : FrameRead} (hf : frame.sender = s.addr)
    {p : Option Payload} (hp : ∀ q, p = some q → q.kind = o.payload.kind) : s.ownAttempt frame p = some o := by
  unfold State.ownAttempt
  rw [ho]
  cases p with
  | none => simp [Option.filter, hf]
  | some q => simp [Option.filter, hf, hp q rfl]

theorem State.endFrame_of_own {o : OnLine} (hsynced : s.pbc.synced = true) (hx : s.station ≠ .start) (hx' : s.station ≠ .setup)
    (ho : s.pbc.onLine = some o) {frame : FrameRead} (hf : frame.sender = s.addr) {p : Option Payload}
    (hp : ∀ q, p = some q → q.kind = o.payload.kind) (vetoed : Bool) : s.endFrame frame p vetoed = s.endOwn o vetoed := by
  have hline : (s.pbc.synced && s.station.followsLine) = true := by
    rw [Bool.and_eq_true]
    exact ⟨hsynced, (StationState.followsLine_iff _).mpr ⟨hx, hx'⟩⟩
  rw [State.endFrame, if_pos hline, State.ownAttempt_of_own ho hf hp]

theorem State.endFrame_of_idle (hsynced : s.pbc.synced = true) (hx : s.station.followsLine = true) (ho : s.pbc.onLine = none)
    (frame : FrameRead) (p : Option Payload) (vetoed : Bool) : s.endFrame frame p vetoed = s.endOther frame p vetoed := by
  have hline : (s.pbc.synced && s.station.followsLine) = true := by
    rw [Bool.and_eq_true]
    exact ⟨hsynced, hx⟩
  rw [State.endFrame, if_pos hline, State.ownAttempt, ho]
  rfl

/-- The state in which an own attempt has just ended. -/
abbrev State.attemptEnded (s : State) (failed : Bool) : State :=
  (s.newEvent.updPbc (fun p => { p with onLine := none })).countFrame false failed

theorem State.accept_of_own {o : OnLine} (hsynced : s.pbc.synced = true) (hx : s.station ≠ .start) (hx' : s.station ≠ .setup)
    (ho : s.pbc.onLine = some o) {p : Payload} (hkind : p.kind = o.payload.kind) (hbit : o.bitError = false) (check : Half) :
    s.accept s.addr p check = (s.attemptEnded false).ownAccepted o := by
  rw [State.accept, State.endFrame_of_own (s := s.newEvent) hsynced hx hx' ho rfl (fun q hq => by cases hq; exact hkind)]
  unfold State.endOwn
  simp only [hbit, Bool.or_self, Bool.false_eq_true, if_false]

theorem State.countFrame_vetoed (s : State) : (s.countFrame false true).pbc =
    { s.pbc with vetoes := if s.station.counting then satInc Config.counterMax s.pbc.vetoes else s.pbc.vetoes } := by
  unfold State.countFrame
  split <;> rfl

theorem State.settleAccepted_idle {n v : Nat} (hs : s.pbc.onLine = none ∧ s.pbc.faultScore = n ∧ s.pbc.vetoes = v) (i : SlotId) :
    (s.settleAccepted i).pbc.Idle (n - 1) v := by
  obtain ⟨ho, hn, hv⟩ := hs
  unfold State.settleAccepted
  dsimp only
  split
  · exact ⟨ho, congrArg (· - 1) hn, hv⟩
  · exact ⟨ho, congrArg (· - 1) hn, hv⟩

theorem State.removeDepart_idle {n v : Nat} (hs : s.pbc.Idle n v) (failed : Bool) : (s.removeDepart failed).pbc.Idle n v := by
  unfold State.removeDepart
  split
  · rw [State.raiseIf_pbc]; exact hs
  · exact hs

theorem State.recordSent_pbc (s : State) (p : Payload) : (s.recordSent p).pbc = s.pbc := by
  unfold State.recordSent
  split <;> rfl

theorem State.ownAccepted_idle {n v : Nat} (hs : s.pbc.Idle n v) (o : OnLine) : (s.ownAccepted o).pbc.Idle (n - 1) v := by
  unfold State.ownAccepted
  dsimp only
  refine (Passage.react _ _ _ _).idle (Pbc.idle_of_fixed (State.applyFrame_fixed _ _ _ _) ?_)
  rw [State.recordSent_pbc]
  exact State.removeDepart_idle (State.settleAccepted_idle hs _) _

theorem State.failSlot_fixed (s : State) (i : SlotId) : (s.failSlot i).fixed = s.fixed := by
  unfold State.failSlot
  split
  · rfl
  · dsimp only
    split
    · unfold State.afterDrop
      split
      · rw [State.followUp_fixed, State.updCen_fixed, State.raise_fixed, State.setSlot_fixed]
      · rw [State.raise_fixed, State.setSlot_fixed]
    · exact State.setSlot_fixed _ _ _

/-- The slot of a failed attempt, where the departure of a leaving is not at stake (R16). -/
theorem State.failSlot_slot {i : SlotId} {f : QueuedFrame} (hi : i ≠ .depart) (hf : s.slot i = some f) :
    (s.failSlot i).slot i = f.failed.1 := by
  unfold State.failSlot
  rw [hf]
  dsimp only
  split
  · rw [State.afterDrop, if_neg (by simp [hi])]
    exact s.setSlot_slot_self i _
  · exact s.setSlot_slot_self i _

theorem State.removeDepart_slot (s : State) (failed : Bool) {i : SlotId} (hi : i ≠ .depart) :
    (s.removeDepart failed).slot i = s.slot i := by
  unfold State.removeDepart
  split
  · rw [State.slot, State.raiseIf_pbc]
    exact s.setSlot_slot_other none hi
  · rfl

/-- The fault score of a failed attempt (R16). -/
abbrev State.scored (s : State) : State := s.updPbc (fun p => { p with faultScore := min Config.faultMax (p.faultScore + 4) })

theorem State.settleFailed_of_limit (hx : s.station.listening = true) (hn : 60 ≤ s.pbc.faultScore) (i : SlotId) :
    s.settleFailed i = s.scored.enterMute .faultScore := by
  have hlimit : (s.scored.pbc.faultScore == Config.faultMax) = true := by
    simp only [State.scored, State.updPbc_pbc, Config.faultMax, beq_iff_eq]
    omega
  unfold State.settleFailed
  rw [if_pos (by rw [hlimit, hx]; rfl)]

theorem State.settleFailed_of_below (h : s.station.listening = false ∨ s.pbc.faultScore < 60) (i : SlotId) :
    s.settleFailed i = (s.scored.removeDepart true).failSlot i := by
  unfold State.settleFailed
  refine if_neg ?_
  rw [Bool.and_eq_true, beq_iff_eq]
  rintro ⟨hlimit, hx⟩
  rcases h with h | h
  · rw [h] at hx; cases hx
  · simp only [State.updPbc_pbc, Config.faultMax] at hlimit
    omega

theorem State.settleFailed_idle {n v : Nat} (hs : s.pbc.Idle n v) (i : SlotId) :
    (s.settleFailed i).pbc.Idle (min 64 (n + 4)) v := by
  have hscored : s.scored.pbc.Idle (min 64 (n + 4)) v := ⟨hs.1, congrArg (fun m => min 64 (m + 4)) hs.2.1, hs.2.2⟩
  by_cases h : s.station.listening = true ∧ 60 ≤ s.pbc.faultScore
  · rw [State.settleFailed_of_limit h.1 h.2]
    exact (Passage.enterMute _ _).idle hscored
  · rw [State.settleFailed_of_below (by
      rcases Bool.eq_false_or_eq_true s.station.listening with hx | hx
      · exact .inr (Nat.lt_of_not_le fun hn => h ⟨hx, hn⟩)
      · exact .inl hx)]
    exact Pbc.idle_of_fixed (State.failSlot_fixed _ i) (State.removeDepart_idle hscored true)

theorem State.ownFailed_idle {n v : Nat} (hs : s.pbc.Idle n v) (o : OnLine) : (s.ownFailed o).pbc.Idle (min 64 (n + 4)) v := by
  unfold State.ownFailed
  dsimp only
  split
  · exact State.settleFailed_idle hs _
  · exact (Passage.react _ _ _ _).idle (State.settleFailed_idle hs _)

theorem exec_frameVetoed (frame : FrameRead) (s : State) :
    exec (.frameVetoed frame) s = .next (s.newEvent.endFrame frame none true) := rfl

theorem QueuedFrame.failed_of_plain {f : QueuedFrame} (hf : f.followOn = none) :
    (f.attempts < 2 → f.failed.1 = some { f with attempts := f.attempts + 1 }) ∧ (f.attempts = 2 → f.failed.1 = none) := by
  unfold QueuedFrame.failed
  rw [hf]
  dsimp only
  exact ⟨fun h => by rw [if_neg (by omega)], fun h => by rw [if_pos (by omega)]⟩

/-- A failed attempt below the limit: the slot as it stands after it, unless the leaving has come to its end. -/
theorem State.ownFailed_slot {o : OnLine} {f : QueuedFrame}
    (hi : o.slot = .announce ∨ o.slot = .inventory ∨ o.slot = .query) (hf : s.slot o.slot = some f)
    (hx : s.station.listening = true) (hn : s.pbc.faultScore < 60) :
    leftLeaving s (s.ownFailed o) ∨ (s.ownFailed o).slot o.slot = f.failed.1 := by
  have hdepart : o.slot ≠ .depart := by rcases hi with h | h | h <;> rw [h] <;> decide
  have hsettled := State.settleFailed_of_below (.inr hn) o.slot
  have hlife : (s.settleFailed o.slot).life = s.life := by
    rw [hsettled, State.life_of_fixed (State.failSlot_fixed _ _), Keeps.removeDepart_life _ _]
    rfl
  have hslot : (s.settleFailed o.slot).slot o.slot = f.failed.1 := by
    rw [hsettled]
    refine State.failSlot_slot hdepart ?_
    rw [State.removeDepart_slot _ _ hdepart]
    exact hf
  unfold State.ownFailed
  dsimp only
  rw [if_neg (by rw [State.station, hlife, beq_iff_eq]; exact fun hm => by rw [State.station, hm] at hx; cases hx)]
  rcases (s.settleFailed o.slot).react_answered s.cen (s.failurePoints o.slot) s with ⟨hleaving, hleft⟩ | hans
  · exact .inl ⟨(congrArg Life.station hlife).symm.trans hleaving, hleft⟩
  · refine .inr ((hans.kept_slot ?_ ?_).trans hslot) <;> rcases hi with h | h | h <;> rw [h] <;> rfl

/-- Settles O50: an accepted attempt lowers the fault score, a failed one raises it, and no passage that follows writes
either or puts a frame on the line. -/
theorem ownAttemptIsSettled : Obligations.OwnAttemptIsSettled := by
  intro s o hsynced hstart hsetup ho
  refine ⟨fun i p check hi hkind hbit => ?accepted, fun frame hsender => ?failed⟩
  case accepted =>
    refine ⟨_, exec_of_acceptedFrame hi s, ?_⟩
    rw [State.accept_of_own hsynced hstart hsetup ho hkind hbit check]
    have hidle : (s.attemptEnded false).pbc.Idle s.pbc.faultScore s.pbc.vetoes := by
      rw [State.attemptEnded, State.countFrame_nothing]
      exact ⟨rfl, rfl, rfl⟩
    obtain ⟨honLine, hscore, -⟩ := State.ownAccepted_idle hidle o
    exact ⟨honLine, hscore⟩
  case failed =>
    have hend : s.newEvent.endFrame frame none true = (s.attemptEnded true).ownFailed o := by
      rw [State.endFrame_of_own (s := s.newEvent) hsynced hstart hsetup ho hsender (fun q hq => by cases hq)]
      rfl
    have hpbc := State.countFrame_vetoed (s.newEvent.updPbc (fun p => { p with onLine := none }))
    have hlife : (s.attemptEnded true).life = s.life := Keeps.countFrame_life _ _ _
    have hidle : (s.attemptEnded true).pbc.Idle s.pbc.faultScore
        (if s.station.counting then satInc Config.counterMax s.pbc.vetoes else s.pbc.vetoes) := by
      rw [Pbc.Idle, hpbc]
      exact ⟨rfl, rfl, rfl⟩
    have hscore : (s.attemptEnded true).pbc.faultScore = s.pbc.faultScore := hidle.2.1
    have hslots : ∀ i, (s.attemptEnded true).slot i = s.slot i := fun i => by rw [State.slot, hpbc]; rfl
    obtain ⟨honLine, hscored, hvetoes⟩ := State.ownFailed_idle hidle o
    refine ⟨_, (exec_frameVetoed frame s).trans (congrArg _ hend), honLine, hscored, fun hcounting => ?_, fun hx hn => ?_,
      fun f hi hf hfollow hx hn => ?_⟩
    · rw [hvetoes, if_pos hcounting]
      rfl
    · have hlisten : (s.attemptEnded true).station.listening = true := by rw [State.station, hlife]; exact hx
      have hmute : (s.attemptEnded true).ownFailed o = (s.attemptEnded true).scored.enterMute .faultScore := by
        unfold State.ownFailed
        rw [State.settleFailed_of_limit hlisten (hscore.symm ▸ hn), if_pos (by rw [State.enterMute_station]; rfl)]
      rw [hmute]
      obtain ⟨hflag, hcause, -⟩ := State.enterMute_bus (s.attemptEnded true).scored .faultScore
      exact ⟨State.enterMute_station _ _, hflag, hcause, State.enterMute_slot _ _⟩
    · have hstation : (s.attemptEnded true).station = s.station := congrArg Life.station hlife
      obtain ⟨hless, hequal⟩ := QueuedFrame.failed_of_plain hfollow
      refine (State.ownFailed_slot hi ((hslots _).trans hf) (hstation ▸ hx) (hscore.symm ▸ hn)).imp (fun h => ?_)
        fun h => ⟨fun ha => h.trans (hless ha), fun ha => h.trans (hequal ha)⟩
      exact ⟨hstation.symm.trans h.1, h.2⟩

/-! ## Frames of no own attempt -/

theorem State.endListening_of_clash {frame : FrameRead} (h : frame.sender = s.addr) (p : Option Payload) (vetoed : Bool) :
    s.endListening frame p vetoed = (s.countFrame (!frame.checkPasses) true).enterMute .addressClash := by
  unfold State.endListening
  rw [h]
  simp

theorem State.endOther_of_listening (h : s.station.listening = true) (frame : FrameRead) (p : Option Payload) (vetoed : Bool) :
    s.endOther frame p vetoed = s.endListening frame p vetoed := by
  unfold State.endOther
  split
  · rfl
  · rfl
  · rfl
  all_goals
    rename_i hx
    rw [hx] at h
    cases h

theorem State.endOther_of_veto (hx : s.station.counting = true) {frame : FrameRead} (h : frame.sender ≠ s.addr ∨ s.station = .mute) :
    s.endOther frame none true = s.countFrame (!frame.checkPasses) true := by
  by_cases hm : s.station = .mute
  · unfold State.endOther State.endMuted
    rw [hm]
    simp
  · have hlisten : s.station.listening = true := by
      simpa [StationState.counting, hm] using hx
    have hclash : (frame.sender == s.addr) = false := by simpa using h.resolve_right hm
    rw [State.endOther_of_listening hlisten, State.endListening, hclash]
    simp

/-- Settles O51: a vetoed frame is counted and no more, and the own address in another station's frame leads to MUTE. -/
theorem vetoedFramesAndAddressClash : Obligations.VetoedFramesAndAddressClash := by
  intro s frame hsynced ho
  refine ⟨fun hcounting h => ?counted, fun hx i hi hsender => ?clash⟩
  case counted =>
    have hfollows : s.station.followsLine = true := by
      cases hy : s.station <;> simp [StationState.counting, StationState.listening, hy] at hcounting <;> rfl
    refine ⟨_, (exec_frameVetoed frame s).trans (congrArg _ ((State.endFrame_of_idle (s := s.newEvent) hsynced hfollows ho _ _ _).trans
      (State.endOther_of_veto (s := s.newEvent) hcounting h))), ?_⟩
    rw [State.countFrame, if_pos (show s.newEvent.station.counting = true from hcounting)]
    refine ⟨rfl, rfl, ?_⟩
    cases frame.checkPasses with
    | true => rfl
    | false =>
      simp [satInc, Config.counterMax]
      congr
  case clash =>
    have hfollows : s.station.followsLine = true := by
      cases hy : s.station <;> simp [StationState.listening, hy] at hx <;> rfl
    have hend : ∃ (f : FrameRead) (p : Option Payload) (vetoed : Bool), f.sender = s.addr ∧
        exec i s = .next (s.newEvent.endFrame f p vetoed) := by
      rcases hi with rfl | ⟨p, check, hi⟩
      · exact ⟨frame, none, true, hsender rfl, rfl⟩
      · exact ⟨frameOf s.addr p check, some p, false, rfl, exec_of_acceptedFrame hi s⟩
    obtain ⟨f, p, vetoed, hf, hexec⟩ := hend
    have hmute : s.newEvent.endFrame f p vetoed = (s.newEvent.countFrame (!f.checkPasses) true).enterMute .addressClash := by
      rw [State.endFrame_of_idle (s := s.newEvent) hsynced hfollows ho, State.endOther_of_listening (s := s.newEvent) hx,
        State.endListening_of_clash (s := s.newEvent) hf]
    rw [hmute] at hexec
    obtain ⟨hflag, hcause, -, hscore⟩ := State.enterMute_bus (s.newEvent.countFrame (!f.checkPasses) true) .addressClash
    have hlife := State.enterMute_life (s.newEvent.countFrame (!f.checkPasses) true) .addressClash
    refine ⟨_, hexec, State.enterMute_station _ _, hflag, hcause, hscore.trans ?_, State.enterMute_slot _ _, ?_, ?_, ?_,
      State.enterMute_timer _ _⟩
    · unfold State.countFrame
      split <;> rfl
    · rw [hlife]; rfl
    · rw [hlife]; rfl
    · rw [hlife]; rfl

end Sys2Proof.Machine
end

section
/-! PROOFS. What an evaluation of a blade does to its Rail Sequencer: a rule over the moves that write it, and the states
of the sequencer that stand, or stay OFF, through every passage (R95, R97, R101, R104 to R111). -/

namespace Sys2Proof.Machine

variable {s t u : State}

/-! ## Moves that leave the sequencer, the held level and the overtemperature stop -/

/-- The two states have the same sequencer, held level, overtemperature stop, and what no answer writes. -/
structure SameRails (s t : State) : Prop where
  fixed : t.fixed = s.fixed
  rsq : t.rsq = s.rsq
  overtemp : t.client.overtemp = s.client.overtemp
  held : t.self.held = s.self.held

namespace SameRails

theorem refl (s : State) : SameRails s s := ⟨rfl, rfl, rfl, rfl⟩

theorem trans (h : SameRails s t) (h' : SameRails t u) : SameRails s u :=
  ⟨h'.fixed.trans h.fixed, h'.rsq.trans h.rsq, h'.overtemp.trans h.overtemp, h'.held.trans h.held⟩

theorem ofIf {p : Prop} [Decidable p] (ht : SameRails s t) (hu : SameRails s u) : SameRails s (if p then t else u) := by
  split <;> assumption

theorem onlyIf {p : Prop} [Decidable p] (h : SameRails s t) : SameRails s (if p then t else s) := ofIf h (refl s)

theorem life (h : SameRails s t) : t.life = s.life := congrArg Fixed.life h.fixed
theorem station (h : SameRails s t) : t.station = s.station := congrArg Life.station h.life
theorem role (h : SameRails s t) : t.role = s.role := congrArg (fun l => l.straps.role) h.life

theorem raise (s : State) (e : Event) : SameRails s (s.raise e) := ⟨s.raise_fixed e, rfl, rfl, rfl⟩

theorem raiseIf (s : State) (b : Bool) (e : Event) : SameRails s (s.raiseIf b e) := onlyIf (raise s e)

theorem request (s : State) (r : FrameReq) : SameRails s (s.request r) where
  fixed := s.request_fixed r
  rsq := s.request_rsq r
  overtemp := by rw [s.request_client]
  held := by rw [s.request_eq r]; rfl

theorem trimSlot (s : State) (wanted : Option FrameReq) (i : SlotId) : SameRails s (s.trimSlot wanted i) where
  fixed := s.trimSlot_fixed wanted i
  rsq := by rw [s.trimSlot_eq]
  overtemp := by rw [s.trimSlot_eq]
  held := by rw [s.trimSlot_eq]; rfl

theorem client (s : State) {c : Client} (h : c.overtemp = s.client.overtemp) : SameRails s { s with client := c } :=
  ⟨rfl, rfl, h, rfl⟩

theorem syncSlots (s : State) (wanted : Option FrameReq) (slots : List SlotId) : SameRails s (s.syncSlots wanted slots) := by
  have htrim : SameRails s (slots.foldl (fun t i => t.trimSlot wanted i) s) := by
    induction slots generalizing s with
    | nil => exact refl s
    | cons i rest ih => exact (trimSlot s wanted i).trans (ih _)
  unfold State.syncSlots
  dsimp only
  split
  · exact htrim
  · exact ofIf htrim (htrim.trans (request _ _))

theorem evalAirflow (s : State) : SameRails s s.evalAirflow := by
  unfold State.evalAirflow
  exact ofIf (refl s) ((client s (c := { s.client with zoneAirflow := s.cen.zoneAirflow s.cfg.zone }) rfl).trans (raiseIf _ _ _))

theorem evalCapped (s : State) : SameRails s s.evalCapped := by
  have hclear : SameRails s { s with client := { s.client with capped := false } } := client s rfl
  unfold State.evalCapped
  split
  · exact hclear
  · exact ofIf ((client s (c := { s.client with capped := true }) rfl).trans (raiseIf _ _ _)) hclear

theorem evalPowerClient (s : State) : SameRails s s.evalPowerClient := onlyIf (syncSlots s _ _)

theorem evalLaneClient (s : State) : SameRails s s.evalLaneClient := by
  have hreport : ∀ t : State, SameRails t t.reportUnavailable := fun t =>
    onlyIf ((client t (c := { t.client with unavailableReported := true }) rfl).trans (raise _ _))
  have hclear : ∀ wanted, SameRails s (s.clearReported wanted) := fun wanted => onlyIf (client s rfl)
  exact onlyIf (((hclear _).trans (syncSlots _ _ _)).trans (hreport _))

end SameRails

theorem Census.get_upd_held (c : Census) (a b : Addr) {f : Entry → Entry} (hf : ∀ e, (f e).held = e.held) :
    ((c.upd a f).get b).held = (c.get b).held := by
  unfold Census.get Census.upd
  rw [List.getD_eq_getElem?_getD, List.getD_eq_getElem?_getD, List.getElem?_set]
  split
  · rename_i hab
    rw [hab]
    split
    · rename_i hlt
      simp only [Option.getD_some, Census.get, hab, hf, List.getD_eq_getElem?_getD]
    · rename_i hlt
      rw [List.getElem?_eq_none (Nat.le_of_not_lt hlt)]
  · rfl

theorem SameRails.writeDemand (s : State) : SameRails s s.writeDemand where
  fixed := s.writeDemand_fixed
  rsq := rfl
  overtemp := rfl
  held := s.cen.get_upd_held s.addr s.addr fun e => e.updBlade_held _

theorem SameRails.testHeat (s : State) : SameRails s s.testHeat := onlyIf (request s _)

/-! ## The rule -/

/-- What every move of an evaluation keeps, but the end of an overtemperature stop and the local write at OFF. -/
structure RailsKept (P : State → Prop) : Prop where
  same : ∀ s t, SameRails s t → P s → P t
  held : ∀ s, P s → P s.followHeld.heldZeroRails
  stop : ∀ (s : State) r, s.station.acting = true → P s → P (s.stopRails r)

/-- What every move of an evaluation keeps, up to the start of R101. -/
structure BladeKept (before : State) (P : State → Prop) : Prop extends RailsKept P where
  cleared : ∀ s, P s → P s.endOvertemp
  zero : ∀ s : State, s.zeroDue before = true → P s → P (State.localZero { s with rsq := { s.rsq with clearOnOff := false } })

section
variable {before : State} {P Q : State → Prop}

theorem RailsKept.compose (h : RailsKept P) (force : Bool) (hs : P s) : P (s.compose force) := by
  have hsame : SameRails s { s.evalCapped with client := { s.evalCapped.client with target := s.evalCapped.target } } :=
    (SameRails.evalCapped s).trans (.client _ rfl)
  have htarget := h.same _ _ hsame hs
  unfold State.compose
  split
  · rename_i hacting
    dsimp only
    split
    · unfold State.stopAtZero
      split
      · exact htarget
      · exact h.stop _ _ ((congrArg StationState.acting hsame.station).trans hacting) (h.same _ _ (.client _ rfl) htarget)
    · exact htarget
  · exact hs

/-- The limits of an evaluation, where the end of an overtemperature stop leads from `P` to `Q`. -/
theorem RailsKept.bladeLimits (h : RailsKept P) (hQ : RailsKept Q) (hend : ∀ s, P s → Q s.endOvertemp) (force : Bool)
    (hs : P s.followHeld.heldZeroRails) : Q (s.bladeLimits force) :=
  hQ.compose false (hend _ (h.compose force (h.same _ _ (.evalAirflow _) hs)))

theorem BladeKept.limits (h : BladeKept before P) (force : Bool) (hs : P s) : P (s.bladeLimits force) :=
  h.bladeLimits h.toRailsKept h.cleared force (h.held s hs)

theorem BladeKept.bladeZero (h : BladeKept before P) (hs : P s) : P (s.bladeZero before) := by
  unfold State.bladeZero
  split
  · rename_i hdue
    exact h.limits false (h.zero s hdue hs)
  · exact hs

theorem State.bladeRequests_rule (hQ : ∀ s t, SameRails s t → Q s → Q t) (hstart : ∀ s, P s → Q s ∧ Q s.startRails)
    (points : Points) (before : State) (hs : P s) : Q (s.bladeRequests points before) := by
  obtain ⟨hstill, hstarted⟩ := hstart s hs
  unfold State.bladeRequests
  dsimp only
  refine hQ _ _ ((SameRails.onlyIf (.evalLaneClient _)).trans ((SameRails.writeDemand _).trans (.testHeat _))) ?_
  split
  · exact hQ _ _ (.evalPowerClient _) hstarted
  · exact hstill

theorem BladeKept.evalBlade_of_limits (h : BladeKept before P) (hQ : ∀ s t, SameRails s t → Q s → Q t)
    (hstart : ∀ s, P s → Q s ∧ Q s.startRails) {force : Bool} (points : Points)
    (hrun : s.role = .blade ∧ s.station.running = true) (hs : P (s.bladeLimits force)) : Q (s.evalBlade force points before) := by
  rw [State.evalBlade, if_pos (by rw [Bool.and_eq_true, State.isBlade_iff]; exact hrun)]
  exact State.bladeRequests_rule hQ hstart _ before (h.bladeZero hs)

theorem State.evalBlade_of_idle (h : ¬ (s.role = .blade ∧ s.station.running = true)) (force : Bool) (points : Points)
    (before : State) : s.evalBlade force points before = s :=
  if_neg (by rw [Bool.and_eq_true, State.isBlade_iff]; exact h)

/-- The rule: `P` up to the start of R101, `Q` from there on. -/
theorem BladeKept.evalBlade (h : BladeKept before P) (hQ : ∀ s t, SameRails s t → Q s → Q t)
    (hstart : ∀ s, P s → Q s ∧ Q s.startRails) (force : Bool) (points : Points) (hs : P s) :
    Q (s.evalBlade force points before) := by
  by_cases hrun : s.role = .blade ∧ s.station.running = true
  · exact h.evalBlade_of_limits hQ hstart points hrun (h.limits force hs)
  · rw [State.evalBlade_of_idle hrun]
    exact (hstart s hs).1

end

/-! ## The role blocks -/

theorem State.evalRoles_of_blade (h : s.role = .blade) (pre : Census) (force : Bool) (points : Points) (before : State) :
    s.evalRoles pre force points before = s.evalBlade force points before := by
  have hrole : (s.evalBlade force points before).role = .blade :=
    (Answer.evalBlade (o := true) s force points before).role.trans h
  unfold State.evalRoles
  generalize s.evalBlade force points before = t at hrole
  have hdrive : t.settleDrive = t := if_neg (by rw [State.isFan_iff, hrole]; decide)
  have huplink : t.evalUplink pre = t := if_neg (by rw [Bool.and_eq_true, State.isUplink_iff, hrole]; simp)
  rw [hdrive, huplink, State.evalEssential, State.essential, hrole]

theorem State.evalRoles_of_other (h : s.role ≠ .blade) (pre : Census) (force : Bool) (points : Points) (before : State) :
    Answer true false s (s.evalRoles pre force points before) := by
  have hblade : s.evalBlade force points before = s :=
    if_neg (by rw [Bool.and_eq_true, State.isBlade_iff]; exact fun hb => h hb.1)
  rw [State.evalRoles, hblade]
  exact ((Answer.settleDrive s).trans (.evalUplink _ pre)).trans (.evalEssential _)

/-! ## A sequencer that stands -/

/-- The states which only a timer, a power-good return, a command or a held level of 0 ends. -/
def RailState.halting : RailState → Bool
  | .stopWait | .stopping _ | .fault => true
  | .off | .stagger | .ramp _ | .on => false

/-- The sequencer stands in `x` with these timers, and with a grace that no stop cuts; a blade has a held level above 0, and
its overtemperature stop is `b`. -/
structure State.Standing (x : RailState) (g d : Timer) (b : Bool) (s : State) : Prop where
  state : s.rsq.state = x
  grace : s.rsq.grace = g
  stepOff : s.rsq.stepOff = d
  short : ∀ r, g.getD 0 ≤ s.graceOf r
  blade : s.role = .blade → 0 < s.self.held ∧ s.client.overtemp = b

theorem State.graceOf_congr (h : t.cfg = s.cfg) (r : StopReason) : t.graceOf r = s.graceOf r := by
  unfold State.graceOf
  rw [h]

section
variable {x : RailState} {g d : Timer} {b : Bool}

theorem State.Standing.same (h : s.Standing x g d b) (hst : SameRails s t) : t.Standing x g d b where
  state := (congrArg Rsq.state hst.rsq).trans h.state
  grace := (congrArg Rsq.grace hst.rsq).trans h.grace
  stepOff := (congrArg Rsq.stepOff hst.rsq).trans h.stepOff
  short r := (State.graceOf_congr (congrArg Life.config hst.life) r).symm ▸ h.short r
  blade hr := by
    rw [hst.held, hst.overtemp]
    exact h.blade (hst.role.symm.trans hr)

theorem State.Standing.stopRails (h : s.Standing x g d b) (hx : x.halting = true) (r : StopReason) :
    (s.stopRails r).Standing x g d b := by
  unfold State.stopRails
  split
  · exact h
  · exact h
  · exact h
  · rename_i hy; rw [h.state.symm.trans hy] at hx; cases hx
  · rename_i hy; rw [h.state.symm.trans hy] at hx; cases hx
  · rename_i hy; rw [h.state.symm.trans hy] at hx; cases hx
  · unfold State.cutGrace
    dsimp only
    rw [if_neg (by rw [h.grace]; exact Nat.not_lt.mpr (h.short r))]
    exact ⟨h.state, h.grace, h.stepOff, h.short, h.blade⟩

theorem RailState.halting_ne_off (hx : x.halting = true) : x ≠ .off := by
  rintro rfl
  cases hx

/-- A standing sequencer of a blade goes through an evaluation. -/
theorem State.Standing.bladeKept (before : State) (hx : x.halting = true) : BladeKept before (fun s => s.Standing x g d b ∧ s.role = .blade) where
  same s t hst h := ⟨h.1.same hst, hst.role.trans h.2⟩
  held s h := by
    obtain ⟨hs, hr⟩ := h
    have hheld : (s.followHeld.self.held == 0) = false := by
      rw [beq_eq_false_iff_ne]
      exact Nat.ne_of_gt (hs.blade hr).1
    rw [State.heldZeroRails, hheld]
    exact ⟨⟨hs.state, hs.grace, hs.stepOff, hs.short, hs.blade⟩, hr⟩
  stop s r _ h := ⟨h.1.stopRails hx r, (congrArg (fun l => l.straps.role) (State.life_of_fixed (s.stopRails_fixed r))).trans h.2⟩
  cleared s h := by
    have hoff : (s.rsq.state == .off) = false := by
      rw [beq_eq_false_iff_ne, h.1.state]
      exact RailState.halting_ne_off hx
    rw [State.endOvertemp, hoff, Bool.and_false, Bool.false_and]
    exact h
  zero s hdue h := by
    rw [State.zeroDue, Bool.and_eq_true, beq_iff_eq, h.1.state] at hdue
    exact absurd hdue.1 (RailState.halting_ne_off hx)

theorem State.startRails_of_ne_off (h : s.rsq.state ≠ .off) : s.startRails = s := by
  have hoff : (s.rsq.state == .off) = false := beq_eq_false_iff_ne.mpr h
  rw [State.startRails, State.mayStart, hoff]
  rfl

theorem State.Standing.evalRoles (h : s.Standing x g d b) (hx : x.halting = true) (pre : Census) (force : Bool)
    (points : Points) (before : State) : (s.evalRoles pre force points before).Standing x g d b := by
  by_cases hr : s.role = .blade
  · rw [State.evalRoles_of_blade hr]
    refine (State.Standing.bladeKept before hx).evalBlade (Q := fun t => t.Standing x g d b) (fun _ _ hst h => h.same hst)
      (fun t ht => ⟨ht.1, ?_⟩) force points ⟨h, hr⟩
    rw [State.startRails_of_ne_off (ht.1.state ▸ RailState.halting_ne_off hx)]
    exact ht.1
  · have hans := State.evalRoles_of_other hr pre force points before
    have hrsq := hans.rsq rfl
    exact ⟨hrsq ▸ h.state, hrsq ▸ h.grace, hrsq ▸ h.stepOff,
      fun r => (State.graceOf_congr (congrArg Life.config hans.life) r).symm ▸ h.short r,
      fun hb => absurd (hans.role.symm.trans hb) hr⟩

theorem State.Standing.onward (h : s.Standing x g d b) (hst : Onward s t) : t.Standing x g d b where
  state := (congrArg Rsq.state hst.rsq).trans h.state
  grace := (congrArg Rsq.grace hst.rsq).trans h.grace
  stepOff := (congrArg Rsq.stepOff hst.rsq).trans h.stepOff
  short r := by
    have hcfg := congrArg Life.config hst.life
    exact (State.graceOf_congr (s := s) (t := t) hcfg r).symm ▸ h.short r
  blade hr := by
    rw [State.self, hst.cen, (Course.onward hst).addr, hst.client]
    exact h.blade ((Course.onward hst).role.symm.trans hr)

end

end Sys2Proof.Machine
end

section
/-! PROOFS. The Rail Sequencer through the passages between station states: where it stands, where it stays OFF, and the
overtemperature stop (R101, R104 to R111). -/

namespace Sys2Proof.Machine

variable {s t u : State}

/-! ## What every passage keeps -/

/-- What the host and the timers have set in the client, the inputs, the channels and the response. -/
def State.settings (s : State) : (HostTarget × Timer × Nat) × Lnu × Msu × Option Response × BootImage :=
  ((s.client.hostTarget, s.client.criticalTimer, s.client.lanesWanted), s.lnu, s.msu, s.lpt.response, s.cfg)

theorem Answer.settings {o w : Bool} (h : Answer o w s t) : t.settings = s.settings := by
  have hlnu := congrArg Fixed.lnu h.fixed
  have hmsu := congrArg Fixed.msu h.fixed
  have hresponse := congrArg Fixed.response h.fixed
  have hcfg := congrArg (fun f : Fixed => f.life.config) h.fixed
  simp only [State.fixed] at hlnu hmsu hresponse hcfg
  simp only [State.settings, h.hostTarget, h.criticalTimer, h.lanesWanted, hlnu, hmsu, hresponse, State.cfg, hcfg]

theorem Onward.settings (h : Onward s t) : t.settings = s.settings := by
  have hcfg := congrArg Life.config h.life
  simp only [Life.stepless] at hcfg
  simp only [State.settings, h.client, h.lnu, h.msu, h.lpt, State.cfg, hcfg]

theorem State.raise_settings (s : State) (e : Event) : (s.raise e).settings = s.settings := by
  simp only [State.settings, State.raise_lpt, Lpt.push_response]
  rfl

theorem State.disposeDepart_settings (s : State) : s.disposeDepart.settings = s.settings := by
  unfold State.disposeDepart
  split
  · rfl
  · split
    · exact State.raise_settings _ _
    · rfl

theorem State.muteFault_life (s : State) : s.muteFault.life = s.life := (State.muteFault_answer s).life

theorem Passage.settings (h : Passage s t) : t.settings = s.settings := by
  induction h with
  | trans _ _ ih ih' => exact ih'.trans ih
  | roles s pre force points before => exact (Answer.evalRoles s pre force points before).settings
  | onward h => exact h.settings
  | stayParked | clearQueue => rfl
  | parkBegun s => exact State.raise_settings (s.updLife fun l => { l.park with station := .parked }) _
  | listenBegun s => exact State.raise_settings (s.updLife fun l => { l with station := .listen }) _
  | disposeDepart s => exact s.disposeDepart_settings
  | muted s cause => exact State.raise_settings (s.updLife Life.mute) _
  | muteFault s => exact s.muteFault_answer.settings

theorem Passage.straps (h : Passage s t) : t.life.straps = s.life.straps := by
  induction h with
  | trans _ _ ih ih' => exact ih'.trans ih
  | roles s pre force points before => rw [(Answer.evalRoles s pre force points before).life]
  | onward h => exact (Course.onward h).straps
  | stayParked | clearQueue | parkBegun | listenBegun | muted => rfl
  | disposeDepart s =>
    unfold State.disposeDepart
    split
    · rfl
    · split <;> rfl
  | muteFault s => rw [s.muteFault_life]

theorem Passage.role (h : Passage s t) : t.role = s.role := congrArg Straps.role h.straps
theorem Passage.addr (h : Passage s t) : t.addr = s.addr := congrArg Straps.address h.straps

/-! ## Where the sequencer stands -/

theorem Census.get_updAll_held (c : Census) (b : Addr) {f : Entry → Entry} (hf : ∀ e, (f e).held = e.held) :
    ((c.updAll f).get b).held = (c.get b).held := by
  unfold Census.get Census.updAll
  rw [List.getD_eq_getElem?_getD, List.getD_eq_getElem?_getD, List.getElem?_map]
  cases c.entries[b.toNat]? with
  | none => rfl
  | some e => exact hf e

theorem State.parkBegun_held (s : State) : s.parkBegun.self.held = s.self.held := by
  have hself : s.parkBegun.self = (s.cen.upd s.addr (fun e => { e with station := none })).stopTimers.get s.addr := rfl
  rw [hself]
  exact (Census.get_updAll_held _ s.addr (f := fun e => { e with silence := none, staleHold := none, quiet := none })
    fun _ => rfl).trans (s.cen.get_upd_held s.addr s.addr fun _ => rfl)

theorem Entry.listenSelf_held (e : Entry) : e.listenSelf.held = e.held := by
  cases e with | mk => rename_i part _ _ _ _ _; cases part <;> rfl

theorem State.listenBegun_held (s : State) : s.listenBegun.self.held = s.self.held := by
  have hself : s.listenBegun.self = (s.cen.listen s.addr).get s.addr := rfl
  rw [hself, Census.get_listen, if_pos rfl]
  exact Entry.listenSelf_held _

section
variable {x : RailState} {g d : Timer} {b : Bool}

theorem Passage.standing (h : Passage s t) (hx : x.halting = true) (hfault : x ≠ .fault) (hs : s.Standing x g d b) :
    t.Standing x g d b := by
  induction h with
  | trans _ _ ih ih' => exact ih' (ih hs)
  | roles s pre force points before => exact hs.evalRoles hx pre force points before
  | onward h => exact hs.onward h
  | stayParked | clearQueue | muted => exact ⟨hs.state, hs.grace, hs.stepOff, hs.short, hs.blade⟩
  | parkBegun s =>
    refine ⟨hs.state, hs.grace, hs.stepOff, hs.short, fun hr => ?_⟩
    rw [s.parkBegun_held]
    exact hs.blade hr
  | listenBegun s =>
    refine ⟨hs.state, hs.grace, hs.stepOff, hs.short, fun hr => ?_⟩
    rw [s.listenBegun_held]
    exact hs.blade hr
  | disposeDepart s =>
    unfold State.disposeDepart
    split
    · exact ⟨hs.state, hs.grace, hs.stepOff, hs.short, hs.blade⟩
    · split
      · exact ⟨hs.state, hs.grace, hs.stepOff, hs.short, hs.blade⟩
      · exact hs
  | muteFault s =>
    have hon : s.rsq.state.isOff = false := by
      rw [hs.state]
      cases x with
      | stopWait | stopping => rfl
      | fault => exact absurd rfl hfault
      | off | stagger | ramp | on => cases hx
    rw [State.muteFault, hon, Bool.and_false]
    exact hs

end

/-! ## Where it stays OFF -/

/-- The sequencer is OFF, and no start of R101 may follow: the station is not in JOINED, or holds nothing and no local write
is due. -/
def State.Resting (s : State) : Prop :=
  s.rsq.state = .off ∧ (s.station ≠ .joined ∨ (s.self.held = 0 ∧ s.rsq.clearOnOff = false))

theorem State.stopRails_of_off (h : s.rsq.state = .off) (r : StopReason) : s.stopRails r = s := by
  unfold State.stopRails
  rw [h]

theorem State.heldZero_of_off (h : s.rsq.state = .off) : s.followHeld.heldZeroRails = s.followHeld :=
  if_neg (by rw [show s.followHeld.rsq.state = .off from h]; simp)

theorem State.localZero_rsq (s : State) : s.localZero.rsq = s.rsq := (Answer.localZero (o := true) (w := false) s).rsq rfl

theorem State.localZero_station (s : State) : s.localZero.station = s.station :=
  (Answer.localZero (o := true) (w := false) s).station

theorem State.endOvertemp_cases (s : State) : s.endOvertemp = s ∨
    s.endOvertemp = State.raise { s with client := { s.client with overtemp := false } } .overtempCleared := by
  unfold State.endOvertemp
  split
  · exact .inr rfl
  · exact .inl rfl

theorem State.Resting.bladeKept (before : State) : BladeKept before State.Resting where
  same s t hst h := ⟨(congrArg Rsq.state hst.rsq).trans h.1, by rw [hst.station, hst.held, hst.rsq]; exact h.2⟩
  held s h := by
    rw [State.heldZero_of_off h.1]
    exact h
  stop s r _ h := by
    rw [State.stopRails_of_off h.1]
    exact h
  cleared s h := by
    rcases s.endOvertemp_cases with he | he <;> rw [he]
    · exact h
    · exact h
  zero s hdue h := by
    obtain ⟨hoff, hwhere⟩ := h
    refine ⟨by rw [State.localZero_rsq]; exact hoff, .inl ?_⟩
    rw [State.localZero_station]
    intro hjoined
    obtain ⟨-, hclear⟩ := hwhere.resolve_left (fun hne => hne hjoined)
    have hjoined' : s.station = .joined := hjoined
    simp [State.zeroDue, hjoined', hclear] at hdue

theorem State.Resting.not_mayStart (h : s.Resting) : s.startRails = s := by
  refine if_neg ?_
  rcases h.2 with hx | ⟨hheld, -⟩
  · simp [State.mayStart, hx]
  · simp [State.mayStart, hheld]

theorem State.Resting.evalRoles (h : s.Resting) (pre : Census) (force : Bool) (points : Points) (before : State) :
    (s.evalRoles pre force points before).rsq.state = .off := by
  by_cases hr : s.role = .blade
  · rw [State.evalRoles_of_blade hr]
    exact (State.Resting.bladeKept before).evalBlade (Q := fun t => t.rsq.state = .off)
      (fun _ _ hst h => (congrArg Rsq.state hst.rsq).trans h) (fun t ht => ⟨ht.1, by rw [ht.not_mayStart]; exact ht.1⟩)
      force points h
  · rw [(State.evalRoles_of_other hr pre force points before).rsq rfl]
    exact h.1

/-- An OFF sequencer in a state other than JOINED. -/
def State.OffAway (s : State) : Prop := s.rsq.state = .off ∧ s.station ≠ .joined

theorem Passage.offAway (h : Passage s t) (hs : s.OffAway) : t.OffAway := by
  induction h with
  | trans _ _ ih ih' => exact ih' (ih hs)
  | roles s pre force points before =>
    refine ⟨State.Resting.evalRoles ⟨hs.1, .inl hs.2⟩ pre force points before, ?_⟩
    rw [(Answer.evalRoles s pre force points before).station]
    exact hs.2
  | onward h => exact ⟨(congrArg Rsq.state h.rsq).trans hs.1, by rw [(Course.onward h).station]; exact hs.2⟩
  | stayParked | clearQueue => exact hs
  | parkBegun | listenBegun | muted => exact ⟨hs.1, nofun⟩
  | disposeDepart s =>
    unfold State.disposeDepart
    split
    · exact hs
    · split <;> exact hs
  | muteFault s =>
    unfold State.muteFault
    split
    · exact ⟨by rw [State.localZero_rsq]; exact hs.1, by rw [State.localZero_station]; exact hs.2⟩
    · exact hs

/-- What a start of R101 may have made of an OFF sequencer. -/
def State.OffOrStarted (s : State) : Prop := s.rsq.state = .off ∨ s.rsq.state = .stagger ∨ s.rsq.state = .ramp 0

theorem State.off_bladeKept (before : State) : BladeKept before (fun s => s.rsq.state = .off) where
  same s t hst h := (congrArg Rsq.state hst.rsq).trans h
  held s h := by
    rw [State.heldZero_of_off h]
    exact h
  stop s r _ h := by
    rw [State.stopRails_of_off h]
    exact h
  cleared s h := by rcases s.endOvertemp_cases with he | he <;> rw [he] <;> exact h
  zero s _ h := by
    rw [State.localZero_rsq]
    exact h

theorem State.startRails_of_off (h : s.rsq.state = .off) : s.startRails.OffOrStarted := by
  unfold State.startRails
  split
  · unfold State.enterStagger
    split
    · exact .inr (.inr rfl)
    · exact .inr (.inl rfl)
  · exact .inl h

theorem State.evalRoles_of_off (h : s.rsq.state = .off) (pre : Census) (force : Bool) (points : Points) (before : State) :
    (s.evalRoles pre force points before).OffOrStarted := by
  by_cases hr : s.role = .blade
  · rw [State.evalRoles_of_blade hr]
    refine (State.off_bladeKept before).evalBlade (Q := State.OffOrStarted) (fun _ _ hst ht => ?_)
      (fun t ht => ⟨.inl ht, State.startRails_of_off ht⟩) force points h
    unfold State.OffOrStarted
    rw [hst.rsq]
    exact ht
  · unfold State.OffOrStarted
    rw [(State.evalRoles_of_other hr pre force points before).rsq rfl]
    exact .inl h

/-- An OFF sequencer through an answer: only in JOINED does a start of R101 lead on. -/
theorem State.react_of_off (h : s.rsq.state = .off) (pre : Census) (points : Points) (before : State) :
    (s.react pre points before).rsq.state = .off ∨ (s.station = .joined ∧ (s.react pre points before).OffOrStarted) := by
  by_cases hx : s.station = .joined
  · refine .inr ⟨hx, ?_⟩
    have hstation := (Answer.evalRoles s pre false points before).station
    rw [State.react, State.advanceLeaving_of_station (by rw [hstation, hx]; decide)]
    exact State.evalRoles_of_off h pre false points before
  · exact .inl ((Passage.react s pre points before).offAway ⟨h, hx⟩).1

/-! ## STOP_READY, the grace and the step-off delays (R106, R107) -/

theorem exec_graceExpiry (s : State) : exec .graceExpiry s =
    .next (if s.rsq.state == .stopWait && s.rsq.grace.running then s.enterStopping 2 else s) := rfl
theorem exec_stepOffDelayExpiry (s : State) : exec .stepOffDelayExpiry s =
    .next (if s.rsq.stepOff.running then s.endStepOff else s) := rfl

theorem State.enterStopping_standing (s : State) (k : Nat) (hheld : s.role = .blade → 0 < s.self.held) :
    (s.enterStopping k).Standing (.stopping k) none (some (s.cfg.stepOffDelay k)) s.client.overtemp :=
  ⟨rfl, rfl, rfl, fun _ => Nat.zero_le _, fun hr => ⟨hheld hr, rfl⟩⟩

theorem State.endStepOff_of_stopping {k : Nat} (h : s.rsq.state = .stopping k) :
    s.endStepOff = (s.newEvent.stepDown k).react s.cen .none s := by
  unfold State.endStepOff
  rw [h]

theorem State.railsOff_state (s : State) : s.railsOff.rsq.state = .off := by
  rw [State.railsOff, State.raiseIf_rsq]
  rfl

theorem State.railsOff_station (s : State) : s.railsOff.station = s.station :=
  congrArg Life.station (State.life_of_fixed s.railsOff_fixed)

/-- Settles O31: a STOPPING stands through every passage but for its own delay, and an OFF sequencer stays so outside JOINED. -/
theorem stopsTakeTheRailsDown : Obligations.StopsTakeTheRailsDown := by
  intro s
  refine ⟨fun hport hr hstate => ?ready, fun hstate hgrace => ?grace, fun h => ?graceStill, fun k hstate hoff => ?step,
    fun h => ?stepStill⟩
  case ready =>
    rw [exec_stopReady, State.command_of_taken _ _ _ hport (by simp [State.isBlade, hr, hstate])]
    rfl
  case grace =>
    rw [exec_graceExpiry, if_pos (by simp [hstate, (Timer.running_iff _).mpr hgrace])]
    rfl
  case graceStill =>
    rw [exec_graceExpiry, if_neg]
    rw [Bool.and_eq_true, beq_iff_eq, Timer.running_iff]
    exact not_and_of_not_or_not (h.imp_right fun hnone hne => hne hnone)
  case step =>
    refine ⟨_, (exec_stepOffDelayExpiry s).trans (congrArg _ ((if_pos ((Timer.running_iff _).mpr hoff)).trans
      (State.endStepOff_of_stopping hstate))), fun hk hheld => ?_, fun hk => ?_⟩
    · have hdown : s.newEvent.stepDown k = s.newEvent.enterStopping (k - 1) := if_neg (by simp; omega)
      rw [hdown]
      have hstands := (Passage.react _ s.cen .none s).standing (x := .stopping (k - 1)) rfl nofun
        (s.newEvent.enterStopping_standing (k - 1) fun _ => hheld)
      exact ⟨hstands.state, hstands.stepOff⟩
    · have hdown : s.newEvent.stepDown k = s.newEvent.railsOff := if_pos (by rw [hk]; rfl)
      rw [hdown]
      rcases State.react_of_off s.newEvent.railsOff_state s.cen .none s with h | ⟨hx, h | h⟩
      · exact .inl h
      · exact .inl h
      · exact .inr ⟨s.newEvent.railsOff_station.symm.trans hx, h⟩
  case stepStill => rw [exec_stepOffDelayExpiry, h]; rfl

end Sys2Proof.Machine
end

section
/-! PROOFS. The FAULT of a lost power-good return, the overtemperature stop and SET_POWER (R96, R103, R108, R109). -/

namespace Sys2Proof.Machine

variable {s t u : State}

/-! ## FAULT (R101, R108) -/

theorem State.enterFault_standing (hheld : s.role = .blade → 0 < s.self.held) :
    s.enterFault.Standing .fault none none s.client.overtemp :=
  ⟨rfl, rfl, rfl, fun _ => Nat.zero_le _, fun hr => ⟨hheld hr, rfl⟩⟩

/-- A FAULT at a held level of 0 is left at once. -/
theorem State.enterFault_resting (hheld : s.self.held = 0) : s.enterFault.followHeld.heldZeroRails.Resting := by
  have hzero : s.enterFault.followHeld.heldZeroRails = s.enterFault.followHeld.railsOff :=
    if_pos (by rw [show s.enterFault.followHeld.self.held = 0 from hheld]; rfl)
  rw [hzero, State.railsOff, State.raiseIf, if_neg (by exact Bool.false_ne_true)]
  exact ⟨rfl, .inr ⟨hheld, rfl⟩⟩

/-- What an evaluation makes of a FAULT. -/
structure State.AfterFault (s t : State) : Prop where
  still : t.rsq.state = .fault ∨ t.rsq.state = .off
  fault : 0 < s.self.held → t.rsq.state = .fault
  off : s.self.held = 0 → s.role = .blade → s.station.running = true → t.rsq.state = .off

theorem State.enterFault_evalRoles (s : State) (pre : Census) (points : Points) (before : State) :
    s.AfterFault (s.enterFault.evalRoles pre false points before) := by
  by_cases hheld : s.role = .blade → 0 < s.self.held
  · have hstate := ((State.enterFault_standing hheld).evalRoles rfl pre false points before).state
    exact ⟨.inl hstate, fun _ => hstate, fun hz hr => absurd (hheld hr) (by omega)⟩
  · rw [Classical.not_imp, Nat.not_lt, Nat.le_zero] at hheld
    obtain ⟨hr, hz⟩ := hheld
    rw [State.evalRoles_of_blade (s := s.enterFault) hr]
    by_cases hrun : s.station.running = true
    · have hoff := (State.Resting.bladeKept before).evalBlade_of_limits (Q := fun t => t.rsq.state = .off)
        (fun _ _ hst h => (congrArg Rsq.state hst.rsq).trans h) (fun t ht => ⟨ht.1, by rw [ht.not_mayStart]; exact ht.1⟩)
        points (s := s.enterFault) ⟨hr, hrun⟩ ((State.Resting.bladeKept before).bladeLimits
          (State.Resting.bladeKept before).toRailsKept (State.Resting.bladeKept before).cleared false (State.enterFault_resting hz))
      exact ⟨.inr hoff, fun h => absurd hz (by omega), fun _ _ _ => hoff⟩
    · rw [State.evalBlade_of_idle (s := s.enterFault) fun h => hrun h.2]
      exact ⟨.inl rfl, fun _ => rfl, fun _ _ h => absurd h hrun⟩

/-- The outcome of a FAULT. -/
theorem State.enterFault_react (s : State) (pre : Census) (points : Points) (before : State) :
    leftLeaving s (s.enterFault.react pre points before) ∨
      ((s.enterFault.react pre points before).client.hostTarget = .off ∧
        s.AfterFault (s.enterFault.react pre points before)) := by
  refine (s.enterFault.react_outcome pre points before).imp_right fun hon => ?_
  have hafter := s.enterFault_evalRoles pre points before
  have htarget := (Answer.evalRoles s.enterFault pre false points before).hostTarget
  refine ⟨(congrArg Client.hostTarget hon.client).trans htarget, ?_, ?_, ?_⟩
  all_goals rw [hon.rsq]
  · exact hafter.still
  · exact hafter.fault
  · exact hafter.off

theorem State.AfterFault.enable (h : s.AfterFault t) (j : Nat) : t.rsq.enable j = false := by
  rcases h.still with h | h <;> rw [Rsq.enable, h] <;> rfl

theorem exec_pgTimeoutExpiry (s : State) : exec .pgTimeoutExpiry s =
    .next (if s.rsq.pgTimeout.running then s.endPgTimeout else s) := rfl
theorem exec_pgLoss (k : Nat) (s : State) : exec (.pgLoss k) s = .next (if s.isBlade && decide (k < 3) then
    if s.pgWatched k then (s.newEvent.debounce (k + 2) pgSamples false).pgLostTaken k
    else s.newEvent.debounce (k + 2) pgSamples false
  else s) := rfl

theorem State.endPgTimeout_of_ramp {k : Nat} (h : s.rsq.state = .ramp k) :
    s.endPgTimeout = ((s.newEvent.raise (.sequenceFault k)).enterFault).react s.cen .none s := by
  unfold State.endPgTimeout
  rw [h]

theorem RailState.watches_iff (x : RailState) (k : Nat) :
    x.watches k = true ↔ (∃ j, x = .ramp j ∧ k < j) ∨ x = .on ∨ x = .stopWait := by
  cases x <;> simp [RailState.watches]

theorem State.pgWatched_iff (s : State) (k : Nat) : s.pgWatched k = true ↔ s.pgGood k = true ∧
    ((∃ j, s.rsq.state = .ramp j ∧ k < j) ∨ s.rsq.state = .on ∨ s.rsq.state = .stopWait) ∧ s.station ≠ .start := by
  rw [State.pgWatched, Bool.and_eq_true, Bool.and_eq_true, RailState.watches_iff, bne_iff_ne, and_assoc]

theorem State.input_of_settings (h : t.settings = s.settings) (k : Nat) : t.input k = s.input k := by
  have hlnu := congrArg (fun q => q.2.1) h
  simp only [State.settings] at hlnu
  rw [State.input, State.input, hlnu]

/-- Settles O30: the FAULT stands through an answer, but at a held level of 0. -/
theorem lostPowerGoodEntersFault : Obligations.LostPowerGoodEntersFault := by
  intro s
  refine ⟨fun k hstate htimer => ?timeout, fun h => ?still, fun k hk hs hr hgood hstart hwatch => ?lost,
    fun k hk hs hr hstate => ?unwatched⟩
  case timeout =>
    refine ⟨_, (exec_pgTimeoutExpiry s).trans (congrArg _ ((if_pos ((Timer.running_iff _).mpr htimer)).trans
      (State.endPgTimeout_of_ramp hstate))), ?_⟩
    refine ((s.newEvent.raise (.sequenceFault k)).enterFault_react s.cen .none s).imp_right fun ⟨htarget, h⟩ => ?_
    exact ⟨htarget, h.enable, h.fault, h.off⟩
  case still => rw [exec_pgTimeoutExpiry, h]; rfl
  case lost =>
    have hpin : k + 2 < s.newEvent.lnu.inputs.length := hs.input_lt (by omega)
    refine ⟨_, (exec_pgLoss k s).trans (congrArg _ ((if_pos (by simp [State.isBlade, hr, hk])).trans
      (if_pos ((s.pgWatched_iff k).mpr ⟨hgood, hwatch, hstart⟩)))), ?_, ?_⟩
    · have hinput := State.input_of_settings (Passage.react
        ((s.newEvent.debounce (k + 2) pgSamples false).raise (.pgLost k)).enterFault s.cen .none s).settings (k + 2)
      exact (congrArg Input.state hinput).trans (State.debounce_state (s := s.newEvent) false (by decide) hpin)
    · refine (((s.newEvent.debounce (k + 2) pgSamples false).raise (.pgLost k)).enterFault_react s.cen .none s).imp_right
        fun ⟨htarget, h⟩ => ⟨htarget, h.enable, h.fault, fun hz hsetup => ?_⟩
      exact h.off hz hr (StationState.running_of_ne hstart hsetup)
  case unwatched =>
    have hpin : k + 2 < s.newEvent.lnu.inputs.length := hs.input_lt (by omega)
    have hunwatched : ¬ s.pgWatched k = true := by
      rw [State.pgWatched_iff]
      rintro ⟨-, hwatch, -⟩
      rcases hstate with h | h | h | ⟨j, h⟩ <;> rw [h] at hwatch <;> simp at hwatch
    refine ⟨_, (exec_pgLoss k s).trans (congrArg _ ((if_pos (by simp [State.isBlade, hr, hk])).trans (if_neg hunwatched))),
      State.debounce_state (s := s.newEvent) false (by decide) hpin, rfl, rfl, rfl, rfl⟩

/-! ## SET_POWER (R96) -/

theorem hostTargetOf_off (level : Byte) (h : level.toNat = 0) : hostTargetOf level = .off := by
  unfold hostTargetOf
  rw [h]
  rfl

theorem hostTargetOf_reduced (level : Byte) (h : level.toNat = 1) : hostTargetOf level = .reduced := by
  unfold hostTargetOf
  rw [h]
  rfl

theorem hostTargetOf_full (level : Byte) (h : 2 ≤ level.toNat) : hostTargetOf level = .full := by
  unfold hostTargetOf
  split
  · omega
  · omega
  · rfl

/-- The host target is set. -/
def State.aimed (s : State) (target : HostTarget) : State := { s.newEvent with client := { s.client with hostTarget := target } }

/-- A SET_POWER before it is answered. -/
def State.powerSet (s : State) (target : HostTarget) : State :=
  if target == .off then (s.aimed target).stopRailsNow else s.aimed target

theorem State.takeSetPower_eq (s : State) (target : HostTarget) :
    s.takeSetPower target = (s.powerSet target).react s.cen .none s := rfl

theorem State.takeDown_client (s : State) : s.takeDown.client = s.client := by
  unfold State.takeDown
  split
  · exact State.raiseIf_client _ _ _
  · rfl

theorem State.stopRailsNow_client (s : State) : s.stopRailsNow.client = s.client := by
  unfold State.stopRailsNow
  split <;> first | rfl | exact s.takeDown_client

theorem State.powerSet_hostTarget (s : State) (target : HostTarget) : (s.powerSet target).client.hostTarget = target := by
  unfold State.powerSet
  split
  · rw [State.stopRailsNow_client]
    rfl
  · rfl

theorem State.takeSetPower_hostTarget (s : State) (target : HostTarget) : (s.takeSetPower target).client.hostTarget = target := by
  rw [s.takeSetPower_eq]
  have hkept := congrArg (fun q => q.1.1) (Passage.react (s.powerSet target) s.cen .none s).settings
  exact hkept.trans (s.powerSet_hostTarget target)

theorem State.stopRailsNow_of_rails {k : Nat}
    (h : s.rsq.state = .ramp k ∨ (k = 2 ∧ (s.rsq.state = .on ∨ s.rsq.state = .stopWait))) :
    s.stopRailsNow = s.enterStopping k := by
  unfold State.stopRailsNow
  rcases h with h | ⟨rfl, h⟩
  · rw [← State.takeDown_ramp h, h]
  · rw [← State.takeDown_all h]
    rcases h with h | h <;> rw [h]

/-- SET_POWER(OFF) with k + 1 rails asserted. -/
theorem State.takeSetPower_off {k : Nat} (hstate : s.rsq.state = .ramp k ∨ (k = 2 ∧ (s.rsq.state = .on ∨ s.rsq.state = .stopWait)))
    (hheld : 0 < s.self.held) : (s.takeSetPower .off).rsq.state = .stopping k ∧ (s.takeSetPower .off).rsq.grace = none := by
  have hdown : s.powerSet .off = (s.aimed .off).enterStopping k :=
    (if_pos rfl).trans (State.stopRailsNow_of_rails (s := s.aimed .off) hstate)
  rw [s.takeSetPower_eq, hdown]
  have hstands := (Passage.react _ s.cen .none s).standing (x := .stopping k) rfl nofun
    (State.enterStopping_standing (s := s.aimed .off) k fun _ => hheld)
  exact ⟨hstands.state, hstands.grace⟩

/-- Settles O19: the target is set before the answer, which leaves it; OFF has the rails in STOPPING, which stands. -/
theorem setPowerTakesTheHostTarget : Obligations.SetPowerTakesTheHostTarget := by
  intro level s hstoring hr hx
  have hport : s.portFree := ⟨by rcases hx with h | h | h <;> rw [h] <;> decide, hstoring⟩
  have hacting := (StationState.acting_iff _).mpr hx
  have hexec : exec (.setPower level) s = .next ((s.takeSetPower (hostTargetOf level)).respond .ok []) := by
    rw [exec_setPower, State.command_of_taken _ _ _ hport (by rw [hacting, (s.isBlade_iff).mpr hr]; rfl)]
    rfl
  have htarget := s.takeSetPower_hostTarget (hostTargetOf level)
  have hrails : ∀ k, level.toNat = 0 → 0 < s.self.held →
      (s.rsq.state = .ramp k ∨ (k = 2 ∧ (s.rsq.state = .on ∨ s.rsq.state = .stopWait))) →
      (s.takeSetPower (hostTargetOf level)).rsq.state = .stopping k ∧ (s.takeSetPower (hostTargetOf level)).rsq.grace = none := by
    intro k h hheld hstate
    rw [hostTargetOf_off level h]
    exact State.takeSetPower_off hstate hheld
  generalize s.takeSetPower (hostTargetOf level) = t at hexec htarget hrails
  refine ⟨_, hexec, rfl, fun h => htarget.trans (hostTargetOf_off level h), fun h => htarget.trans (hostTargetOf_reduced level h),
    fun h => htarget.trans (hostTargetOf_full level h), fun h hheld => ⟨fun hstate => hrails 2 h hheld (.inr ⟨rfl, hstate⟩),
      fun k hstate => (hrails k h hheld (.inl hstate)).1⟩⟩

end Sys2Proof.Machine
end

section
/-! PROOFS. The overtemperature stop: it comes into force, and ends where the sequencer is OFF and no demand channel is
CRITICAL (R109). -/

namespace Sys2Proof.Machine

variable {s t u : State}

/-! ## The client under the moves of the sequencer -/

theorem State.raiseIf_overtemp (s : State) (b : Bool) (e : Event) : (s.raiseIf b e).client.overtemp = s.client.overtemp := by
  rw [State.raiseIf_client]

theorem State.stopRails_client (s : State) (r : StopReason) : (s.stopRails r).client = s.client := by
  unfold State.stopRails
  split
  · rfl
  · rfl
  · rfl
  · exact s.takeDown_client
  · exact s.takeDown_client
  · rfl
  · unfold State.cutGrace
    dsimp only
    split <;> rfl

theorem State.armClear_client (s : State) : s.armClear.client = s.client := by
  unfold State.armClear
  split <;> rfl

theorem State.heldZeroRails_client (s : State) : s.heldZeroRails.client = s.client := by
  unfold State.heldZeroRails
  split
  · exact State.raiseIf_client _ _ _
  · rfl

theorem State.startRails_client (s : State) : s.startRails.client = s.client := by
  unfold State.startRails
  split
  · unfold State.enterStagger
    split <;> rfl
  · rfl

theorem State.lanesLost_client (s : State) (pre : Census) (k : Follow) : (s.lanesLost pre k).client = s.client := by
  unfold State.lanesLost
  split
  · rfl
  · exact State.raiseIf_client _ _ _

theorem State.walkPower_client (s : State) (pre : Census) : (s.walkPower pre).client = s.client := by
  unfold State.walkPower
  dsimp only
  split
  · rfl
  · split
    · rfl
    · exact State.raiseIf_client _ _ _

theorem State.shed_client (s : State) : s.shed.client = s.client := by
  have htold : s.shedTold.client = s.client := by
    unfold State.shedTold
    dsimp only
    split
    · exact State.raiseIf_client _ _ _
    · rfl
  rw [s.shed_eq, ← htold]
  unfold State.deficitTold
  split
  · split <;> rfl
  · split <;> rfl

theorem State.walkLanes_overtemp (s : State) : s.walkLanes.client.overtemp = s.client.overtemp := by
  unfold State.walkLanes
  dsimp only
  split
  · rfl
  · split
    · rfl
    · exact State.raiseIf_overtemp _ _ _

theorem State.overdrawCheck_client (s : State) : s.overdrawCheck.client = s.client := by
  unfold State.overdrawCheck
  dsimp only
  split
  · rfl
  · split <;> rfl

theorem State.followUp_overtemp (s : State) (pre : Census) (k : Follow) :
    (s.followUp pre k).client.overtemp = s.client.overtemp := by
  unfold State.followUp
  dsimp only
  rw [show ∀ t : State, t.recordTally.client = t.client from fun _ => rfl]
  have hclaims : ((s.lanesLost pre k).walkPower pre).client = s.client := by
    rw [State.walkPower_client, State.lanesLost_client]
  split <;> split <;>
    simp only [State.overdrawCheck_client, State.walkLanes_overtemp, State.shed_client, hclaims]

theorem State.localZero_overtemp (s : State) : s.localZero.client.overtemp = s.client.overtemp :=
  State.followUp_overtemp _ _ _

/-! ## In force just while a channel is CRITICAL (R109) -/

theorem State.criticalDemand_of_fixed (h : t.fixed = s.fixed) : t.criticalDemand = s.criticalDemand := by
  have hlife : t.life = s.life := congrArg Fixed.life h
  have hmsu : t.msu = s.msu := congrArg Fixed.msu h
  simp only [State.criticalDemand, State.cfg, State.channel, hlife, hmsu]

theorem State.criticalDemand_of_settings (h : t.settings = s.settings) : t.criticalDemand = s.criticalDemand := by
  simp only [State.settings, Prod.mk.injEq] at h
  obtain ⟨-, -, hmsu, -, hcfg⟩ := h
  simp only [State.criticalDemand, State.channel, hcfg, hmsu]

/-- `n` demand channels are CRITICAL, and the overtemperature stop lasts just while one is. -/
def State.Calm (n : Nat) (s : State) : Prop := s.criticalDemand = n ∧ s.client.overtemp = decide (0 < n)

/-- An overtemperature stop at OFF. -/
def State.Heated (n : Nat) (s : State) : Prop := s.rsq.state = .off ∧ s.criticalDemand = n ∧ s.client.overtemp = true

theorem State.Calm.of_fixed {n : Nat} (h : s.Calm n) (hfixed : t.fixed = s.fixed)
    (hclient : t.client.overtemp = s.client.overtemp) : t.Calm n :=
  ⟨(State.criticalDemand_of_fixed hfixed).trans h.1, hclient.trans h.2⟩

theorem State.Calm.endOvertemp {n : Nat} (h : s.Calm n) : s.endOvertemp.Calm n := by
  have hstill : s.endOvertemp = s := by
    refine if_neg ?_
    rw [h.1, h.2]
    cases n <;> simp
  rw [hstill]
  exact h

theorem State.Calm.bladeKept (before : State) (n : Nat) : BladeKept before (State.Calm n) where
  same s t hst h := h.of_fixed hst.fixed hst.overtemp
  held s h := h.of_fixed (by rw [State.heldZeroRails_fixed, State.followHeld_fixed]) (by rw [State.heldZeroRails_client]; rfl)
  stop s r _ h := h.of_fixed (s.stopRails_fixed r) (by rw [State.stopRails_client])
  cleared s h := h.endOvertemp
  zero s _ h := h.of_fixed (State.localZero_fixed _) (State.localZero_overtemp _)

theorem State.Heated.railsKept (n : Nat) : RailsKept (State.Heated n) where
  same s t hst h := ⟨(congrArg Rsq.state hst.rsq).trans h.1, (State.criticalDemand_of_fixed hst.fixed).trans h.2.1,
    hst.overtemp.trans h.2.2⟩
  held s h := by
    rw [State.heldZero_of_off h.1]
    exact h
  stop s r _ h := by
    rw [State.stopRails_of_off h.1]
    exact h

theorem State.Heated.endOvertemp {n : Nat} (h : s.Heated n) : s.endOvertemp.Calm n := by
  obtain ⟨hoff, hn, hovertemp⟩ := h
  cases n with
  | zero =>
    have hended : s.endOvertemp = State.raise { s with client := { s.client with overtemp := false } } .overtempCleared :=
      if_pos (by simp [hoff, hn, hovertemp])
    rw [hended]
    exact ⟨hn, rfl⟩
  | succ n => exact State.Calm.endOvertemp ⟨hn, hovertemp.trans (by simp)⟩

theorem State.Calm.startRails {n : Nat} (h : s.Calm n) : s.startRails.Calm n :=
  h.of_fixed s.startRails_fixed (by rw [State.startRails_client])

theorem Passage.calm {n : Nat} (h : Passage s t) (hs : s.role = .blade ∧ s.Calm n) : t.role = .blade ∧ t.Calm n := by
  have hsettings : ∀ {u v : State}, Passage u v → u.Calm n → v.client.overtemp = u.client.overtemp → v.Calm n :=
    fun huv hu hv => ⟨(State.criticalDemand_of_settings huv.settings).trans hu.1, hv.trans hu.2⟩
  induction h with
  | trans _ _ ih ih' => exact ih' (ih hs)
  | roles s pre force points before =>
    refine ⟨(Answer.evalRoles s pre force points before).role.trans hs.1, ?_⟩
    rw [State.evalRoles_of_blade hs.1]
    exact (State.Calm.bladeKept before n).evalBlade (fun _ _ hst h => h.of_fixed hst.fixed hst.overtemp)
      (fun t ht => ⟨ht, ht.startRails⟩) force points hs.2
  | onward h => exact ⟨(Course.onward h).role.trans hs.1, hsettings (.onward h) hs.2 (by rw [h.client])⟩
  | stayParked s b => exact ⟨hs.1, hsettings (.stayParked s b) hs.2 rfl⟩
  | clearQueue s => exact ⟨hs.1, hsettings (.clearQueue s) hs.2 rfl⟩
  | parkBegun s => exact ⟨hs.1, hsettings (.parkBegun s) hs.2 rfl⟩
  | listenBegun s => exact ⟨hs.1, hsettings (.listenBegun s) hs.2 rfl⟩
  | muted s cause => exact ⟨hs.1, hsettings (.muted s cause) hs.2 rfl⟩
  | disposeDepart s =>
    have hkept : s.disposeDepart.role = s.role ∧ s.disposeDepart.client.overtemp = s.client.overtemp := by
      unfold State.disposeDepart
      split
      · exact ⟨rfl, rfl⟩
      · split <;> exact ⟨rfl, rfl⟩
    exact ⟨hkept.1.trans hs.1, hsettings (.disposeDepart s) hs.2 hkept.2⟩
  | muteFault s =>
    refine ⟨s.muteFault_answer.role.trans hs.1, hsettings (.muteFault s) hs.2 ?_⟩
    unfold State.muteFault
    split
    · exact s.localZero_overtemp
    · rfl

/-- An overtemperature stop at OFF, after an answer. -/
theorem State.Heated.react {n : Nat} (h : s.Heated n) (hr : s.role = .blade) (hrun : s.station.running = true) (pre : Census)
    (points : Points) (before : State) : (s.react pre points before).Calm n := by
  have hlimits : (s.bladeLimits false).Calm n := (State.Heated.railsKept n).bladeLimits (State.Calm.bladeKept before n).toRailsKept
    (fun _ h => h.endOvertemp) false ((State.Heated.railsKept n).held s h)
  have hroles : (s.evalRoles pre false points before).Calm n := by
    rw [State.evalRoles_of_blade hr]
    exact (State.Calm.bladeKept before n).evalBlade_of_limits (fun _ _ hst h => h.of_fixed hst.fixed hst.overtemp)
      (fun t ht => ⟨ht, ht.startRails⟩) points ⟨hr, hrun⟩ hlimits
  exact ((Passage.advanceLeaving _).calm ⟨(Answer.evalRoles s pre false points before).role.trans hr, hroles⟩).2

/-! ## The persistence timer ends -/

theorem exec_criticalPersistenceExpiry (s : State) : exec .criticalPersistenceExpiry s =
    .next (if s.client.criticalTimer.running then (s.newEvent.overtempBegins.overtempStops).react s.cen .none s else s) := rfl

theorem State.overtempStops_client (s : State) : s.overtempStops.client = s.client := by
  unfold State.overtempStops
  dsimp only
  split
  · exact s.stopRails_client _
  · rw [State.armClear_client, s.stopRails_client]

theorem State.overtempStops_fixed (s : State) : s.overtempStops.fixed = s.fixed := by
  unfold State.overtempStops
  dsimp only
  split
  · exact s.stopRails_fixed _
  · rw [State.armClear_fixed, s.stopRails_fixed]

theorem State.overtempStops_role (s : State) : s.overtempStops.role = s.role :=
  congrArg (fun f : Fixed => f.life.straps.role) s.overtempStops_fixed

theorem State.overtempStops_of_off (h : s.rsq.state = .off) : s.overtempStops = s := by
  unfold State.overtempStops
  rw [State.stopRails_of_off h]
  have harmed : s.armClear = s := if_pos (by rw [h]; rfl)
  dsimp only
  rw [harmed, ite_self]

theorem State.enterStopWait_standing (h : 0 < s.self.held) : (s.enterStopWait .overtemp).Standing .stopWait
    (some (min s.cfg.graceMs 5000)) none s.client.overtemp := by
  refine ⟨rfl, rfl, rfl, fun r => ?_, fun _ => ⟨h, rfl⟩⟩
  have hgrace : (s.enterStopWait .overtemp).graceOf r = s.graceOf r := State.graceOf_congr rfl r
  rw [hgrace]
  cases r <;> simp only [State.graceOf, overtempGraceMs, muteGraceMs, Option.getD_some] <;> omega

theorem State.overtempStops_of_on (h : s.rsq.state = .on) (hheld : 0 < s.self.held) : s.overtempStops.Standing .stopWait
    (some (min s.cfg.graceMs 5000)) none s.client.overtemp := by
  have hstop : s.stopRails .overtemp = s.enterStopWait .overtemp := by
    unfold State.stopRails
    rw [h]
  have hstands := State.enterStopWait_standing hheld
  unfold State.overtempStops
  rw [hstop]
  dsimp only
  split
  · exact hstands
  · exact ⟨hstands.state, hstands.grace, hstands.stepOff, hstands.short, hstands.blade⟩

/-- Settles O32: from ON the STOP_WAIT and its grace stand; at OFF the stop is tested at once. -/
theorem criticalPersistenceStops : Obligations.CriticalPersistenceStops := by
  intro s
  refine ⟨fun htimer hr hstart hsetup => ?expires, fun h => ?still⟩
  case expires =>
    refine ⟨_, (exec_criticalPersistenceExpiry s).trans (congrArg _ (if_pos ((Timer.running_iff _).mpr htimer))), ?_,
      fun hon hheld => ?_, fun hoff => ?_⟩
    · have hkept := congrArg (fun q => q.1.2.1)
        (Passage.react s.newEvent.overtempBegins.overtempStops s.cen .none s).settings
      exact hkept.trans (congrArg Client.criticalTimer s.newEvent.overtempBegins.overtempStops_client)
    · have hbegun := State.overtempStops_of_on (s := s.newEvent.overtempBegins) hon hheld
      have hstands := (Passage.react _ s.cen .none s).standing (x := .stopWait) rfl nofun hbegun
      have hrole := (Passage.react s.newEvent.overtempBegins.overtempStops s.cen .none s).role.trans
        (s.newEvent.overtempBegins.overtempStops_role.trans hr)
      exact ⟨(hstands.blade hrole).2, hstands.state, hstands.grace⟩
    · have hheated : s.newEvent.overtempBegins.Heated s.criticalDemand := ⟨hoff, rfl, rfl⟩
      rw [State.overtempStops_of_off (s := s.newEvent.overtempBegins) hoff]
      exact (hheated.react hr (StationState.running_of_ne hstart hsetup) s.cen .none s).2
  case still => rw [exec_criticalPersistenceExpiry, h]; rfl

end Sys2Proof.Machine
end

section
/-! PROOFS. The Lane Map Port: the end of a shift, the map on the wires, and the lanes of a map (R176, R178, R179). -/

namespace Sys2Proof.Machine

variable {s t u : State}

/-! ## What the ends of shifts leave -/

theorem Passage.portRecord (h : Passage s t) : t.lmp.record = s.lmp.record := by
  induction h with
  | trans _ _ ih ih' => exact ih'.trans ih
  | roles s pre force points before => exact (Answer.evalRoles s pre force points before).portRecord
  | onward h => exact h.record
  | stayParked | clearQueue | parkBegun | listenBegun | muted => rfl
  | disposeDepart s =>
    unfold State.disposeDepart
    split
    · rfl
    · split <;> rfl
  | muteFault s => exact s.muteFault_answer.portRecord

theorem Lmp.takeWaiting_record (l : Lmp) : l.takeWaiting.record = l.record := by
  unfold Lmp.takeWaiting
  split <;> rfl

theorem State.shiftWaiting_record (s : State) : s.shiftWaiting.lmp.record = s.lmp.record := by
  unfold State.shiftWaiting
  split
  · exact s.lmp.takeWaiting_record
  · rfl

theorem State.settleShift_record (s : State) (readback : LaneMap) : (s.settleShift readback).lmp.record =
    (s.lmp.inFlight, true, if s.lmp.differs readback then .fault else s.lmp.crossbar) := by
  unfold State.settleShift
  dsimp only
  split
  · exact (Answer.evalUplink (w := true) (s.updLmp Lmp.commit).crossbarFails s.cen).portRecord
  · rfl

theorem Lmp.differs_iff (l : Lmp) (readback : LaneMap) :
    l.differs readback = true ↔ l.trusted = true ∧ l.crossbar = .ok ∧ l.committed ≠ some readback := by
  rw [Lmp.differs, Bool.and_eq_true, Bool.and_eq_true, beq_iff_eq, bne_iff_ne, and_assoc]

theorem exec_shiftEnd (mapDi : List Bool) (s : State) : exec (.shiftEnd mapDi) s = .next (if s.lmp.inFlight.isSome then
    (s.newEvent.settleShift (mapRead mapDi)).shiftWaiting.advanceLeaving else s) := rfl

theorem State.shiftEnd_record (s : State) (readback : LaneMap) :
    ((s.newEvent.settleShift readback).shiftWaiting.advanceLeaving).lmp.record =
      (s.lmp.inFlight, true, if s.lmp.differs readback then .fault else s.lmp.crossbar) :=
  ((Passage.advanceLeaving _).portRecord.trans (State.shiftWaiting_record _)).trans (s.newEvent.settleShift_record readback)

/-! ## The map on the wires -/

theorem mapDo_length (m : LaneMap) : (mapDo m).length = 48 := by rw [mapDo, bitsMsb, List.length_map, List.length_range]

theorem mapRead_mapDo (m : LaneMap) : mapRead (mapDo m) = m := by
  rw [mapRead, mapDo, foldl_bitsMsb]
  exact BitVec.eq_of_toNat_eq (by rw [BitVec.toNat_ofNat, Nat.mod_eq_of_lt m.isLt])

theorem shiftUs_eq (m : LaneMap) : shiftUs m = 500 := by
  have hbits : ∀ bits : List Bool, ((bits.map ShiftPart.bit).map ShiftPart.us).sum = 10 * bits.length := by
    intro bits
    induction bits with
    | nil => rfl
    | cons b bits ih => simp only [List.map_cons, List.sum_cons, List.length_cons, ih, ShiftPart.us]; omega
  rw [shiftUs, shiftParts, List.map_append, List.sum_append, hbits, mapDo_length]
  rfl

/-! ## The lanes of a map -/

/-- The number whose base-64 digits are the first n values of f. -/
def packed (f : Nat → Nat) (n : Nat) : Nat := ((List.range n).map (fun k => f k * 2 ^ (6 * k))).sum

theorem packed_succ (f : Nat → Nat) (n : Nat) : packed f (n + 1) = 2 ^ (6 * n) * f n + packed f n := by
  rw [packed, List.range_succ, List.map_append, List.sum_append, List.map_singleton, List.sum_singleton, packed,
    Nat.mul_comm (f n), Nat.add_comm]

theorem packed_lt {f : Nat → Nat} (hf : ∀ k, f k < 64) (n : Nat) : packed f n < 2 ^ (6 * n) := by
  induction n with
  | zero => exact Nat.one_pos
  | succ n ih =>
    have hpow : (2 : Nat) ^ (6 * (n + 1)) = 2 ^ (6 * n) * 64 := by rw [Nat.mul_succ, Nat.pow_add]
    have hdigit : 2 ^ (6 * n) * (f n + 1) ≤ 2 ^ (6 * n) * 64 := Nat.mul_le_mul_left _ (hf n)
    rw [packed_succ, hpow]
    rw [Nat.mul_succ] at hdigit
    omega

theorem packed_testBit {f : Nat → Nat} (hf : ∀ k, f k < 64) {n k j : Nat} (hk : k < n) (hj : j < 6) :
    (packed f n).testBit (6 * k + j) = (f k).testBit j := by
  induction n with
  | zero => omega
  | succ n ih =>
    rw [packed_succ, Nat.testBit_two_pow_mul_add _ (packed_lt hf n)]
    split
    · exact ih (by omega)
    · have hkn : k = n := by omega
      rw [hkn, Nat.add_sub_cancel_left]

theorem laneBits_lt (owner : Option Addr) : laneBits owner < 64 := by
  cases owner with
  | none => exact Nat.succ_pos 63
  | some a =>
    have ha := a.isLt
    simp only [laneBits]
    omega

theorem laneMapOf_getLsbD (table : List (Option Addr)) {k j : Nat} (hk : k < 8) (hj : j < 6) :
    (laneMapOf table).getLsbD (6 * k + j) = (laneBits (table.getD k none)).testBit j := by
  have hmap : laneMapOf table = BitVec.ofNat 48 (packed (fun k => laneBits (table.getD k none)) 8) := rfl
  rw [hmap, BitVec.getLsbD_ofNat, packed_testBit (fun k => laneBits_lt _) hk hj]
  simp only [Bool.and_eq_right_iff_imp, decide_eq_true_eq]
  omega

theorem laneBits_owned (a : Addr) : (laneBits (some a)).testBit 5 = true ∧ ∀ j, j < 5 → (laneBits (some a)).testBit j = a.getLsbD j := by
  have hsplit : laneBits (some a) = 2 ^ 5 * 1 + a.toNat := rfl
  rw [hsplit]
  refine ⟨?_, fun j hj => ?_⟩
  · rw [Nat.testBit_two_pow_mul_add _ a.isLt]
    rfl
  · rw [Nat.testBit_two_pow_mul_add _ a.isLt, if_pos hj]
    rfl

/-- Settles O48: what the end of a shift records stands through what follows it; the wires carry the map bit by bit. -/
theorem shiftEndCommitsTheMap : Obligations.ShiftEndCommitsTheMap := by
  refine ⟨fun mapDi s => ⟨fun m hm => ?committed, fun h => ?still⟩, fun m => ?wires, fun table k hk => ?lanes⟩
  case committed =>
    have hrecord := s.shiftEnd_record (mapRead mapDi)
    simp only [Lmp.record, Prod.mk.injEq, hm] at hrecord
    obtain ⟨hcommitted, htrusted, hcrossbar⟩ := hrecord
    refine ⟨_, (exec_shiftEnd mapDi s).trans (congrArg _ (if_pos (by rw [hm]; rfl))), hcommitted, htrusted,
      fun ht hok hne => ?_, fun h => ?_⟩
    · rw [hcrossbar, if_pos ((s.lmp.differs_iff _).mpr ⟨ht, hok, hne⟩)]
    · rw [hcrossbar, if_neg]
      rw [s.lmp.differs_iff]
      rintro ⟨ht, hok, hne⟩
      rcases h with h | h | h
      · rw [h] at ht; cases ht
      · rw [h] at hok; cases hok
      · exact hne h
  case still =>
    rw [exec_shiftEnd, h]
    rfl
  case wires =>
    refine ⟨mapDo_length m, fun j hj => ?_, mapRead_mapDo m, rfl, shiftUs_eq m⟩
    rw [mapDo, bitsMsb, List.getElem?_map, List.getElem?_range hj]
    rfl
  case lanes =>
    refine ⟨fun a ha => ?_, fun hfree j hj => ?_⟩
    · obtain ⟨henable, hbits⟩ := laneBits_owned a
      refine ⟨?_, fun j hj => ?_⟩
      · rw [laneMapOf_getLsbD table hk (by decide), ha, henable]
      · rw [laneMapOf_getLsbD table hk (by omega), ha, hbits j hj]
    · rw [laneMapOf_getLsbD table hk hj, hfree, laneBits, Nat.zero_testBit]

end Sys2Proof.Machine
end

section
/-! PROOFS. The leaving sequence, step by step, and its end at the own DEPART (R59 to R64). -/

namespace Sys2Proof.Machine

variable {s t u : State}

/-! ## A request of a leaving, as the queue then holds it -/

theorem State.request_slot_of_none (hx : s.station.listening = true) {r : FrameReq} (hf : s.slot r.slot = none) :
    (s.request r).slot r.slot = some (s.fresh r) := by
  unfold State.request State.enqueue
  rw [if_pos hx, hf]
  exact s.setSlot_slot_self _ _

theorem State.request_slot_of_some (hx : s.station.listening = true) {r : FrameReq} {f : QueuedFrame}
    (hf : s.slot r.slot = some f) : (s.request r).slot r.slot = some (f.requested (s.pbc.sending r.slot) r) := by
  unfold State.request State.enqueue
  rw [if_pos hx, hf]
  exact s.setSlot_slot_self _ _

theorem State.request_holds {r : FrameReq} (hx : s.station = .leaving) (hs : s.slotted) (hr : r.slot ≠ .inventory) :
    (s.request r).holdsRequest r = true := by
  have hlisten : s.station.listening = true := by rw [hx]; rfl
  unfold State.holdsRequest
  cases hf : s.slot r.slot with
  | none =>
    rw [State.request_slot_of_none hlisten hf]
    simp [State.fresh]
  | some f =>
    have hother : (f.contents == .inventory 0) = false := by
      rw [beq_eq_false_iff_ne]
      intro hc
      exact hr ((hs _ f hf).1.symm.trans (congrArg FrameReq.slot hc))
    rw [State.request_slot_of_some hlisten hf, QueuedFrame.requested, hother]
    cases s.pbc.sending r.slot <;> simp

/-! ## What a leaving comes to -/

/-- The leaving `l` has come to `step`, with its frame in the queue. -/
def State.At (l : Leaving) (step : LeaveStep) (r : FrameReq) (u : State) : Prop :=
  u.life.leaving = some { l with step := step } ∧ u.holdsRequest r = true

/-- POWER_RELEASE(0) first, where `frees`, and the departure otherwise. -/
def State.Releases (frees : Prop) [Decidable frees] (l : Leaving) (u : State) : Prop :=
  if frees then u.At l .powerRelease (.powerRelease 0) else u.At l .departure (.depart l.reason)

/-- A leaving in progress, with every frame in its slot. -/
structure State.Underway (s : State) (l : Leaving) : Prop where
  station : s.station = .leaving
  leaving : s.life.leaving = some l
  slotted : s.slotted

namespace State.Underway

variable {l : Leaving}

theorem stepWith (h : s.Underway l) (step : LeaveStep) {r : FrameReq} (hr : r.slot ≠ .inventory) :
    ((s.setStep step).request r).At l step r := by
  refine ⟨?_, State.request_holds (s := s.setStep step) h.station h.slotted hr⟩
  rw [State.request_life, State.setStep, State.updLife_life, h.leaving]
  rfl

theorem beginDeparture (h : s.Underway l) : s.beginDeparture.At l .departure (.depart l.reason) := by
  unfold State.beginDeparture
  rw [h.leaving]
  exact h.stepWith .departure (r := .depart l.reason) nofun

theorem beginRelease (h : s.Underway l) : s.beginRelease.Releases (0 < s.self.held ∨ s.self.claim ≠ none) l := by
  unfold State.beginRelease State.Releases
  by_cases hfrees : 0 < s.self.held ∨ s.self.claim ≠ none
  · rw [if_pos hfrees, if_pos (by simpa [Option.isSome_iff_ne_none] using hfrees)]
    exact h.stepWith .powerRelease (r := .powerRelease 0) nofun
  · rw [if_neg hfrees, if_neg (by simpa [Option.isSome_iff_ne_none] using hfrees)]
    exact h.beginDeparture

theorem afterIdleMap (h : s.Underway l) : (s.lmp.isIdle = true →
      s.afterIdleMap.Releases (0 < s.self.held ∨ s.self.claim ≠ none) l ∧ s.afterIdleMap.lmp.xbarEn = false) ∧
    (s.lmp.isIdle = false → s.afterIdleMap.life.leaving = some { l with step := .idleMap } ∧ s.afterIdleMap.lmp = s.lmp) := by
  unfold State.afterIdleMap
  refine ⟨fun hidle => ?_, fun hidle => ?_⟩
  · rw [if_pos hidle]
    have hdark : (s.setXbar false).Underway l := ⟨h.station, h.leaving, h.slotted⟩
    refine ⟨hdark.beginRelease, ?_⟩
    unfold State.beginRelease
    split
    · rw [State.request_lmp]
      rfl
    · unfold State.beginDeparture
      split
      · rw [State.request_lmp]
        rfl
      · rfl
  · rw [if_neg (by rw [hidle]; exact Bool.false_ne_true), State.setStep, State.updLife_life, h.leaving]
    exact ⟨rfl, rfl⟩

/-! ## The step that a leaving stands in -/

variable (h : s.Underway l)
include h

theorem advance_railsOff (hl : l.step = .railsOff) :
    s.advanceLeaving = if s.rsq.state.isOff then s.beginLaneRelease else s := by
  simp only [State.advanceLeaving, h.station, h.leaving, hl]

theorem advance_laneRelease (hl : l.step = .laneRelease) :
    s.advanceLeaving = if (s.slot .laneRelease).isNone then s.beginRelease else s := by
  simp only [State.advanceLeaving, h.station, h.leaving, hl]

theorem advance_capacityAlert (hl : l.step = .capacityAlert) :
    s.advanceLeaving = if (s.slot .capacityDrop).isNone then s.darkenSupply.beginDeparture else s := by
  simp only [State.advanceLeaving, h.station, h.leaving, hl]

theorem advance_lanesAlert (hl : l.step = .lanesAlert) :
    s.advanceLeaving = if (s.slot .lanesDrop).isNone then s.forceIdle.afterIdleMap else s := by
  simp only [State.advanceLeaving, h.station, h.leaving, hl]

theorem advance_idleMap (hl : l.step = .idleMap) : s.advanceLeaving = if s.lmp.isIdle then s.afterIdleMap else s := by
  simp only [State.advanceLeaving, h.station, h.leaving, hl]

theorem advance_powerRelease (hl : l.step = .powerRelease) :
    s.advanceLeaving = if (s.slot .powerRelease).isNone then s.beginDeparture else s := by
  simp only [State.advanceLeaving, h.station, h.leaving, hl]

theorem advance_departure (hl : l.step = .departure) :
    s.advanceLeaving = if (s.slot .depart).isNone then s.completeDeparture l.reason else s := by
  simp only [State.advanceLeaving, h.station, h.leaving, hl]

end State.Underway

/-! ## A blade, a supply and an uplink (R60 to R63) -/

section
variable {l : Leaving} (h : s.Underway l)
include h

theorem State.Underway.beginLaneRelease : (∀ u, s.lanesOn = some u → s.beginLaneRelease.At l .laneRelease (.laneRelease u)) ∧
    (s.lanesOn = none → s.beginLaneRelease.Releases (0 < s.self.held ∨ s.self.claim ≠ none) l) := by
  unfold State.beginLaneRelease
  refine ⟨fun u hu => ?_, fun hnone => ?_⟩
  · rw [hu]
    exact h.stepWith .laneRelease (r := .laneRelease u) nofun
  · rw [hnone]
    exact h.beginRelease

theorem State.Underway.darken : s.darkenSupply.beginDeparture.At l .departure (.depart l.reason) ∧
    s.darkenSupply.beginDeparture.spm.outEn = false ∧ s.darkenSupply.beginDeparture.spm.activity = .inactive := by
  have hdark : s.darkenSupply.Underway l := ⟨h.station, h.leaving, h.slotted⟩
  have hspm : s.darkenSupply.beginDeparture.spm = s.darkenSupply.spm := by
    unfold State.beginDeparture
    split
    · rw [State.request_spm]
      rfl
    · rfl
  rw [hspm]
  exact ⟨hdark.beginDeparture, rfl, rfl⟩

theorem State.Underway.forced : s.forceIdle.Underway l := ⟨h.station, h.leaving, h.slotted⟩

/-- The forced all-idle map meets the shift state (R63, R178). -/
theorem State.Underway.forceIdle : s.forceIdle.afterIdleMap.lmp.forcedIdle = true ∧
    (s.lmp.inFlight = none → s.lmp.committed = some idleMap →
      s.forceIdle.afterIdleMap.Releases (0 < s.self.held ∨ s.self.claim ≠ none) l ∧ s.forceIdle.afterIdleMap.lmp.xbarEn = false) ∧
    (s.lmp.inFlight = none → s.lmp.committed ≠ some idleMap →
      s.forceIdle.afterIdleMap.life.leaving = some { l with step := .idleMap } ∧ s.forceIdle.afterIdleMap.lmp.inFlight = some idleMap) ∧
    (∀ m, s.lmp.inFlight = some m → s.forceIdle.afterIdleMap.life.leaving = some { l with step := .idleMap } ∧
      s.forceIdle.afterIdleMap.lmp.inFlight = some m ∧ s.forceIdle.afterIdleMap.lmp.waiting = some idleMap) := by
  obtain ⟨hidle, hbusy⟩ := h.forced.afterIdleMap
  have hgiven : s.forceIdle.lmp = Lmp.give { s.lmp with forcedIdle := true } idleMap := rfl
  have hforced : s.forceIdle.afterIdleMap.lmp.forcedIdle = true := by
    have hgive : s.forceIdle.lmp.forcedIdle = true := by
      rw [hgiven, Lmp.give]
      split
      · rfl
      · split <;> rfl
    unfold State.afterIdleMap
    split
    · unfold State.beginRelease
      split
      · rw [State.request_lmp]
        exact hgive
      · unfold State.beginDeparture
        split
        · rw [State.request_lmp]
          exact hgive
        · exact hgive
    · exact hgive
  refine ⟨hforced, fun hnone hdone => ?_, fun hnone hnew => ?_, fun m hm => ?_⟩
  · refine hidle ?_
    rw [hgiven]
    simp [Lmp.give, Lmp.isIdle, hnone, hdone]
  · have hlmp : s.forceIdle.lmp = { s.lmp with forcedIdle := true, inFlight := some idleMap } := by
      rw [hgiven]
      simp [Lmp.give, hnone, hnew]
    obtain ⟨hstep, hkept⟩ := hbusy (by rw [hlmp]; simp [Lmp.isIdle])
    exact ⟨hstep, by rw [hkept, hlmp]⟩
  · have hlmp : s.forceIdle.lmp = { s.lmp with forcedIdle := true, waiting := some idleMap } := by
      rw [hgiven]
      simp [Lmp.give, hm]
    obtain ⟨hstep, hkept⟩ := hbusy (by rw [hlmp]; simp [Lmp.isIdle, hm])
    exact ⟨hstep, by rw [hkept, hlmp, hm], by rw [hkept, hlmp]⟩

end

/-! ## The end of a leaving (R64) -/

theorem State.listened_life (s : State) : s.listened.life = { s.life with station := .listen, listenTimer := some listenMs } := by
  rw [State.listened, State.life_of_fixed (State.evalRoles_fixed _ _ _ _ _), State.disposeDepart_life]
  rfl

theorem State.enterListen_stays (h : s.life.leaving = none) :
    s.enterListen.life.leaving = none ∧ s.enterListen.life.stayParked = s.life.stayParked := by
  rw [s.enterListen_eq_listened]
  split
  · rw [State.enterMute_life, State.listened_life]
    exact ⟨rfl, rfl⟩
  · rw [State.listened_life]
    exact ⟨h, rfl⟩

/-- The leaving has ended in PARKED or beyond it, and the stay-parked flag is `stay`. -/
def State.Ended (stay : Bool) (u : State) : Prop :=
  u.passedIntoParked ∧ u.life.leaving = none ∧ u.life.stayParked = stay ∧ (u.life.stayParked = true → u.station = .parked)

theorem State.completeDeparture_ended (s : State) (reason : DepartReason) :
    (s.completeDeparture reason).Ended (s.life.stayParked || reason == .host) := by
  refine ⟨s.completeDeparture_passed reason, ?_⟩
  unfold State.completeDeparture State.park
  generalize hw : State.becomeParked _ = w
  have hlife : w.life.station = .parked ∧ w.life.leaving = none ∧ w.life.stayParked = (s.life.stayParked || reason == .host) := by
    rw [← hw, State.becomeParked_life]
    exact ⟨rfl, rfl, rfl⟩
  obtain ⟨hstation, hleaving, hstay⟩ := hlife
  unfold State.testJoin
  split
  · rename_i hjoin
    obtain ⟨hgone, hkept⟩ := State.enterListen_stays hleaving
    refine ⟨hgone, hkept.trans hstay, fun h => ?_⟩
    have hfree : w.life.stayParked = false := by
      simp only [Bool.and_eq_true, State.joinCondition, Bool.not_eq_true'] at hjoin
      exact hjoin.2.2
    rw [hkept, hfree] at h
    cases h
  · exact ⟨hleaving, hstay, fun _ => hstation⟩

/-- A departure whose DEPART has left its slot ends with the next answer. -/
theorem State.react_ended {l : Leaving} (hx : s.station = .leaving) (hleaving : s.life.leaving = some l)
    (hl : l.step = .departure) (hslot : s.slot .depart = none) (pre : Census) (points : Points) (before : State) :
    (s.react pre points before).Ended (s.life.stayParked || l.reason == .host) := by
  have hans := Answer.evalRoles s pre false points before
  have hkept : (s.evalRoles pre false points before).slot .depart = none := (hans.kept_slot (by rw [hx]; rfl)).trans hslot
  unfold State.react State.advanceLeaving
  rw [hans.station, hx, hans.life, hleaving]
  simp only [hl, hkept, Option.isNone_none, if_true]
  rw [← hans.life]
  exact State.completeDeparture_ended _ _

/-! ## The own DEPART is accepted -/

theorem State.hearFrame_ownDepart_pbc (s : State) (reason : Byte) :
    (s.hearFrame s.addr true (.depart reason)).pbc = s.pbc ∧ (s.hearFrame s.addr true (.depart reason)).life = s.life := by
  rw [show s.hearFrame s.addr true (.depart reason) = s.takeDepart s.addr true reason from rfl]
  unfold State.takeDepart
  generalize DepartReason.ofCode reason.toNat = code
  cases code with
  | none => exact ⟨rfl, rfl⟩
  | some r =>
    dsimp only
    rw [if_pos rfl]
    exact ⟨State.updCen_pbc _ _, State.updCen_life _ _⟩

theorem State.ownAccepted_ended {l : Leaving} (h : s.Underway l) (hl : l.step = .departure) {f : QueuedFrame}
    (hf : s.slot .depart = some f) (hfollow : f.followOn = none) (reason : Byte) :
    (s.ownAccepted { slot := .depart, payload := .depart reason, bitError := false }).Ended
      (s.life.stayParked || l.reason == .host) := by
  have hnext : f.next = none := by
    have hother : (f.contents == .inventory 0) = false := by
      rw [beq_eq_false_iff_ne]
      intro hc
      cases (h.slotted _ f hf).1.symm.trans (congrArg FrameReq.slot hc)
    rw [QueuedFrame.next, hother]
    exact hfollow
  have hsettled : s.settleAccepted .depart =
      (s.updPbc (fun p => { p with faultScore := p.faultScore - 1 })).setSlot .depart none := by
    unfold State.settleAccepted
    rw [hf]
    dsimp only
    rw [hnext]
    rfl
  have hremoved : (s.settleAccepted .depart).removeDepart false = s.settleAccepted .depart := by
    have hstation : (s.settleAccepted .depart).station = .leaving := by
      rw [State.station, Keeps.settleAccepted_life]
      exact h.station
    refine if_neg ?_
    rw [hstation]
    simp
  unfold State.ownAccepted
  dsimp only
  rw [hremoved, hsettled]
  generalize hw : (s.updPbc (fun p => { p with faultScore := p.faultScore - 1 })).setSlot .depart none = w
  have hrecord : w.recordSent (.depart reason) = w := rfl
  have hlife : w.life = s.life := by rw [← hw]; rfl
  have haddr : w.addr = s.addr := by rw [← hw]; rfl
  have hslot : w.slot .depart = none := by
    rw [← hw]
    exact State.setSlot_slot_self _ _ _
  rw [hrecord, ← haddr]
  obtain ⟨hpbc, hheard⟩ := w.hearFrame_ownDepart_pbc reason
  have happlied : (w.applyFrame w.addr true (.depart reason)).life = s.life := by
    rw [State.life_of_fixed (State.applyFrame_fixed _ _ _ _), hlife]
  have hgone : (w.applyFrame w.addr true (.depart reason)).slot .depart = none := by
    have hans : Answer true true (w.hearFrame w.addr true (.depart reason)) (w.applyFrame w.addr true (.depart reason)) :=
      .followUp _ _ _
    have hstation : (w.hearFrame w.addr true (.depart reason)).station = .leaving := by
      rw [State.station, hheard, hlife]
      exact h.station
    rw [hans.kept_slot (by rw [hstation]; rfl), State.slot, hpbc]
    exact hslot
  have hend := State.react_ended (l := l) ((congrArg Life.station happlied).trans h.station)
    ((congrArg Life.leaving happlied).trans h.leaving) hl hgone w.cen .both s
  rw [happlied] at hend
  exact hend

/-- Settles O27: each step of the leaving with what it waits for, and its end at the own DEPART. -/
theorem leavingFollowsItsSteps : Obligations.LeavingFollowsItsSteps := by
  intro s l hx hleaving hslotted
  have h : s.Underway l := ⟨hx, hleaving, hslotted⟩
  have hempty : ∀ {i}, s.slot i = none → (s.slot i).isNone = true := fun hi => by rw [hi]; rfl
  have hfull : ∀ {i}, s.slot i ≠ none → ¬ (s.slot i).isNone = true := fun hi => by
    rwa [Option.isNone_iff_eq_none]
  refine ⟨fun hl hon hfault => ?rails, fun hl hoff => ?lanes, fun hl => ⟨fun hw => ?_, fun hd => ?_⟩,
    fun hl => ⟨fun hw => ?_, fun hd => ?_⟩, fun hl => ⟨fun hw => ?_, fun hd => ?_⟩, fun hl => ⟨fun hw => ?_, fun hd => ?_⟩,
    fun hl => ⟨fun hw => ?_, fun hd => ?_⟩, fun hl => ⟨fun hw => ?_, fun hd => ?_⟩,
    fun f reason check hl hsynced ho hf hfollow => ?accepted⟩
  case rails =>
    rw [h.advance_railsOff hl, if_neg]
    cases hs : s.rsq.state <;> simp_all [RailState.isOff]
  case lanes =>
    have hoff' : s.rsq.state.isOff = true := by rcases hoff with h | h <;> rw [h] <;> rfl
    rw [h.advance_railsOff hl, if_pos hoff']
    exact h.beginLaneRelease
  case accepted =>
    have hexec : exec (.departAccepted s.addr reason check) s = .next (s.accept s.addr (.depart reason) check) :=
      exec_of_acceptedFrame rfl s
    rw [State.accept_of_own hsynced (by rw [hx]; decide) (by rw [hx]; decide) ho rfl rfl check] at hexec
    have hended : (s.attemptEnded false).Underway l := by
      rw [State.attemptEnded, State.countFrame_nothing]
      exact ⟨hx, hleaving, hslotted⟩
    have hstay : (s.attemptEnded false).life.stayParked = s.life.stayParked := by
      rw [State.attemptEnded, State.countFrame_nothing]
      rfl
    have hslot : (s.attemptEnded false).slot .depart = some f := by
      rw [State.attemptEnded, State.countFrame_nothing]
      exact hf
    have hends := State.ownAccepted_ended hended hl hslot hfollow reason
    rw [hstay] at hends
    exact ⟨_, hexec, hends⟩
  · rw [h.advance_laneRelease hl, if_neg (hfull hw)]
  · rw [h.advance_laneRelease hl, if_pos (hempty hd)]
    exact h.beginRelease
  · rw [h.advance_capacityAlert hl, if_neg (hfull hw)]
  · rw [h.advance_capacityAlert hl, if_pos (hempty hd)]
    exact h.darken
  · rw [h.advance_lanesAlert hl, if_neg (hfull hw)]
  · rw [h.advance_lanesAlert hl, if_pos (hempty hd)]
    exact h.forceIdle
  · rw [h.advance_idleMap hl, hw]
    rfl
  · rw [h.advance_idleMap hl, if_pos hd]
    exact h.afterIdleMap.1 hd
  · rw [h.advance_powerRelease hl, if_neg (hfull hw)]
  · rw [h.advance_powerRelease hl, if_pos (hempty hd)]
    exact h.beginDeparture
  · rw [h.advance_departure hl, if_neg (hfull hw)]
  · rw [h.advance_departure hl, if_pos (hempty hd)]
    exact s.completeDeparture_ended _

end Sys2Proof.Machine
end

section
/-! PROOFS. SET_LANES and SEND_QUERY (R172, R174, R195). -/

namespace Sys2Proof.Machine

variable {s t u : State}

/-! ## The lane client leaves the census -/

theorem State.syncSlots_eq (s : State) (wanted : Option FrameReq) (slots : List SlotId) :
    s.syncSlots wanted slots = { s with pbc := (s.syncSlots wanted slots).pbc } := by
  have htrim : ∀ s : State, slots.foldl (fun t i => t.trimSlot wanted i) s =
      { s with pbc := (slots.foldl (fun t i => t.trimSlot wanted i) s).pbc } := by
    induction slots with
    | nil => exact fun _ => rfl
    | cons i rest ih =>
      intro s
      rw [List.foldl_cons, ih, s.trimSlot_eq]
  unfold State.syncSlots
  dsimp only
  rw [htrim s]
  split
  · rfl
  · split
    · rfl
    · rw [State.request_eq]

/-- What SET_LANES concerns of the lane client: the census, and the unavailable-reported flag where no lanes are wanted. -/
def State.LanesAsked (s t : State) : Prop :=
  t.cen = s.cen ∧ t.client.lanesWanted = s.client.lanesWanted ∧
    (s.client.lanesWanted = 0 → s.client.unavailableReported = false → t.client.unavailableReported = false)

theorem State.clearReported_asked (s : State) (wanted : Option FrameReq) : s.LanesAsked (s.clearReported wanted) := by
  have hflag : ∀ b : Bool, s.LanesAsked (if b then s.setReported false else s) := by
    intro b
    cases b with
    | true => exact ⟨rfl, rfl, fun _ _ => rfl⟩
    | false => exact ⟨rfl, rfl, fun _ h => h⟩
  exact hflag _

theorem State.syncSlots_asked (s : State) (wanted : Option FrameReq) (slots : List SlotId) :
    s.LanesAsked (s.syncSlots wanted slots) := by
  rw [State.syncSlots_eq]
  exact ⟨rfl, rfl, fun _ h => h⟩

theorem State.reportUnavailable_asked (s : State) : s.LanesAsked s.reportUnavailable := by
  unfold State.reportUnavailable
  split
  · rename_i hreport
    refine ⟨rfl, rfl, fun hzero => ?_⟩
    simp [hzero] at hreport
  · exact ⟨rfl, rfl, fun _ h => h⟩

theorem State.LanesAsked.trans (h : s.LanesAsked t) (h' : t.LanesAsked u) : s.LanesAsked u :=
  ⟨h'.1.trans h.1, h'.2.1.trans h.2.1, fun hz hr => h'.2.2 (h.2.1.trans hz) (h.2.2 hz hr)⟩

theorem State.evalLaneClient_asked (s : State) : s.LanesAsked s.evalLaneClient := by
  unfold State.evalLaneClient
  split
  · exact ((s.clearReported_asked s.wantedLaneRequest).trans (State.syncSlots_asked _ _ _)).trans
      (State.reportUnavailable_asked _)
  · exact ⟨rfl, rfl, fun _ h => h⟩

/-! ## The two commands -/

/-- SET_LANES before the lane client evaluates. -/
def State.lanesSet (s : State) (n : Nat) : State :=
  { s.newEvent with client := { s.client with lanesWanted := n, unavailableReported := s.client.unavailableReported && n != 0 } }

theorem exec_setLanes_taken (hport : s.portFree) (hr : s.role = .blade) (hx : s.station ≠ .setup) (b : Byte) :
    exec (.setLanes b) s = .next ((s.lanesSet (min 4 b.toNat)).evalLaneClient.respond .ok []) := by
  have hrunning := StationState.running_of_ne hport.1 hx
  rw [exec_setLanes, State.command_of_taken _ _ _ hport (by rw [(s.isBlade_iff).mpr hr, hrunning]; rfl)]
  rfl

theorem exec_sendQuery_taken (hport : s.portFree) (hx : s.station = .joined ∨ s.station = .leaving) (b : Byte) :
    exec (.sendQuery b) s = .next ((s.newEvent.request (.query (addrArg b))).respond .ok []) := by
  rw [exec_sendQuery, State.command_of_taken _ _ _ hport (by simpa using hx)]
  rfl

/-- Settles O21: the lane client evaluates after the lanes are set, and leaves census and sequencer; the query meets its slot. -/
theorem setLanesAndSendQuery : Obligations.SetLanesAndSendQuery := by
  intro b s hport
  refine ⟨fun hr hx => ?lanes, fun hx => ?query⟩
  case lanes =>
    have hans : Answer true false (s.lanesSet (min 4 b.toNat)) (s.lanesSet (min 4 b.toNat)).evalLaneClient := .evalLaneClient _
    obtain ⟨hcen, hwanted, hreported⟩ := (s.lanesSet (min 4 b.toNat)).evalLaneClient_asked
    refine ⟨_, exec_setLanes_taken hport hr hx b, rfl, hwanted, fun hb => ?_, hans.station, hcen, hans.rsq rfl, hans.onLine,
      fun hidle => ?_⟩
    · refine hreported ?_ ?_
      · show min 4 b.toNat = 0
        rw [hb]
        rfl
      · show (s.client.unavailableReported && min 4 b.toNat != 0) = false
        rw [hb]
        exact Bool.and_false _
    · have hinactive : (s.lanesSet (min 4 b.toNat)).clientActive = false := by
        show (s.station == .joined && s.cen.ownAnnounced) = false
        rcases hidle with h | h
        · rw [beq_eq_false_iff_ne.mpr h]
          rfl
        · rw [h, Bool.and_false]
      have hflag : (min 4 b.toNat != 0) = decide (b.toNat ≠ 0) := by
        rw [Bool.eq_iff_iff, bne_iff_ne, decide_eq_true_eq]
        omega
      rw [State.evalLaneClient, hinactive, State.lanesSet, hflag]
      rfl
  case query =>
    have hlisten : s.newEvent.station.listening = true := by
      show s.station.listening = true
      rcases hx with h | h <;> rw [h] <;> rfl
    refine ⟨_, exec_sendQuery_taken hport hx b, ?_, ?_, ?_, fun i hi => ?_, fun hnone => ?_, fun f hf hoff => ?_,
      fun f hf hon hkind => ?_⟩
    · show ({ (s.newEvent.request (.query (addrArg b))).lpt with response := okResponse } : Lpt) = _
      rw [State.request_lpt]
      rfl
    · exact State.request_cen _ _
    · exact State.request_life _ _
    · exact s.newEvent.request_slot_other (r := .query (addrArg b)) hi
    · exact ⟨_, State.request_slot_of_none (s := s.newEvent) hlisten (r := .query (addrArg b)) hnone, rfl, rfl, rfl⟩
    · refine (State.request_slot_of_some (s := s.newEvent) hlisten (r := .query (addrArg b)) hf).trans ?_
      rw [QueuedFrame.requested, show s.newEvent.pbc.sending (FrameReq.query (addrArg b)).slot = false from hoff]
      rfl
    · refine (State.request_slot_of_some (s := s.newEvent) hlisten (r := .query (addrArg b)) hf).trans ?_
      have hother : (f.contents == .inventory 0) = false := beq_eq_false_iff_ne.mpr (hkind 0)
      rw [QueuedFrame.requested, show s.newEvent.pbc.sending (FrameReq.query (addrArg b)).slot = true from hon, if_pos rfl,
        hother]
      rfl

end Sys2Proof.Machine
end

section
/-! PROOFS. The end of LISTEN: JOINED, its frames, its timer and the duties of the role (R57, R91). -/

namespace Sys2Proof.Machine

variable {s t u : State}

/-- JOINED, before ANNOUNCE and INVENTORY are requested. -/
def State.joinedBegun (s : State) : State :=
  ((s.updLife (fun l => { l with listenTimer := none })).enterState .joined).ownStation (some .joined)

/-- JOINED, before the shed and the duties of the role. -/
def State.joinAnnounced (s : State) : State :=
  ((s.joinedBegun.request .announce).request (.inventory 0)).updCen
    (fun c => { c with announceTimer := some (s.addr.toNat * announceSlotMs) })

theorem State.enterJoined_eq (s : State) : s.enterJoined =
    (((s.joinAnnounced.raise (.censusBuilt s.joinAnnounced.livePeers)).shed).recordTally).joinRole := rfl

theorem State.joinAnnounced_life (s : State) :
    s.joinAnnounced.life = { s.life with listenTimer := none, station := .joined } := by
  unfold State.joinAnnounced
  rw [State.updCen_life, State.request_life, State.request_life]
  rfl

theorem State.joinAnnounced_slots (s : State) : (s.joinAnnounced.slot .announce).isSome = true ∧
    (s.joinAnnounced.slot .inventory).isSome = true := by
  have hlisten : (s.joinedBegun.request .announce).station.listening = true := by
    rw [State.station, State.request_life]
    rfl
  refine ⟨?_, State.request_slot_isSome hlisten (.inventory 0)⟩
  have hother : s.joinAnnounced.slot .announce = (s.joinedBegun.request .announce).slot .announce :=
    State.request_slot_other _ (r := .inventory 0) nofun
  rw [hother]
  exact State.request_slot_isSome (s := s.joinedBegun) rfl .announce

/-- What the duties of a role set before the role blocks answer. -/
structure State.Duties (s u : State) : Prop where
  life : u.life = s.life
  pbc : u.pbc = s.pbc
  cen : u.cen = s.cen
  target : s.role = .blade → u.client.hostTarget = joinTarget s.cfg.joinDefault
  supply : s.role = .supply → u.spm.activity = .running ∧ u.spm.outEn = true ∧ u.spm.qualification = 0

/-- A blade with the host target of its join default. -/
def State.joinAimed (s : State) : State :=
  State.raise { s with client := { s.client with hostTarget := joinTarget s.cfg.joinDefault } }
    (.airflow s.cfg.zone s.client.zoneAirflow)

theorem State.joinRole_of_blade (h : s.role = .blade) : s.joinRole = s.joinAimed.evalBlade true .both s := by
  unfold State.joinRole
  rw [h]
  rfl

/-- The duties of the role, and the answer of its block. -/
theorem State.joinRole_duties (s : State) : ∃ u, s.Duties u ∧ Answer true true u s.joinRole := by
  cases hr : s.role with
  | blade =>
    rw [State.joinRole_of_blade hr]
    exact ⟨s.joinAimed, ⟨rfl, rfl, rfl, fun _ => rfl, (fun h => by rw [hr] at h; cases h)⟩, .evalBlade _ _ _ _⟩
  | fan =>
    have hrole : s.joinRole = s.settleDrive := by unfold State.joinRole; rw [hr]
    rw [hrole]
    exact ⟨s, ⟨rfl, rfl, rfl, (fun h => by rw [hr] at h; cases h), (fun h => by rw [hr] at h; cases h)⟩, .settleDrive s⟩
  | supply =>
    have hrole : s.joinRole = s.startSupply := by unfold State.joinRole; rw [hr]
    rw [hrole]
    exact ⟨s.startSupply, ⟨rfl, rfl, rfl, (fun h => by rw [hr] at h; cases h), fun _ => ⟨rfl, rfl, rfl⟩⟩, .refl _⟩
  | uplink =>
    have hrole : s.joinRole = s.evalUplink s.cen := by unfold State.joinRole; rw [hr]
    rw [hrole]
    exact ⟨s, ⟨rfl, rfl, rfl, (fun h => by rw [hr] at h; cases h), (fun h => by rw [hr] at h; cases h)⟩, .evalUplink s _⟩

/-- JOINED, before the duties of the role: the census has been tallied. -/
theorem State.joinTallied_answer (s : State) : Answer true true s.joinAnnounced
    (((s.joinAnnounced.raise (.censusBuilt s.joinAnnounced.livePeers)).shed).recordTally) := by
  refine ((Answer.raise _ _).trans (.shed ?_)).trans (.recordTally _)
  show s.joinAnnounced.station.acting = true
  rw [State.station, s.joinAnnounced_life]
  rfl

theorem joinTarget_full {n : Nat} (h : 2 ≤ n) : joinTarget n = .full := by
  match n, h with
  | n + 2, _ => rfl

theorem exec_listenTimerExpiry (s : State) : exec .listenTimerExpiry s =
    .next (if s.station == .listen && s.life.listenTimer.running then s.newEvent.enterJoined else s) := rfl

/-- Settles O22: what entry to JOINED sets, and no answer writes. -/
theorem listenEndsInJoined : Obligations.ListenEndsInJoined := by
  intro s
  refine ⟨fun hx htimer => ?ends, fun h => ?still⟩
  case ends =>
    obtain ⟨u, hu, hanswer⟩ := State.joinRole_duties
      (((s.newEvent.joinAnnounced.raise (.censusBuilt s.newEvent.joinAnnounced.livePeers)).shed).recordTally)
    rw [← State.enterJoined_eq] at hanswer
    have htallied := s.newEvent.joinTallied_answer
    generalize (((s.newEvent.joinAnnounced.raise (.censusBuilt s.newEvent.joinAnnounced.livePeers)).shed).recordTally) = v
      at hu htallied
    have hlife : s.newEvent.enterJoined.life = { s.life with listenTimer := none, station := .joined } := by
      rw [hanswer.life, hu.life, htallied.life, State.joinAnnounced_life]
      rfl
    have hstation : v.station = .joined := by rw [htallied.station, State.station, State.joinAnnounced_life]
    have hslot : ∀ i, StationState.joined.answers i = false → s.newEvent.enterJoined.slot i = s.newEvent.joinAnnounced.slot i := by
      intro i hi
      rw [hanswer.kept_slot (by rw [State.station, hu.life, ← State.station, hstation]; exact hi), State.slot, hu.pbc,
        ← htallied.kept_slot (i := i) (by rw [← htallied.station, hstation]; exact hi)]
      rfl
    obtain ⟨hannounce, hinventory⟩ := s.newEvent.joinAnnounced_slots
    have hrole : v.role = s.role := by rw [htallied.role, State.role, State.joinAnnounced_life]; rfl
    have hcfg : v.cfg = s.cfg := by rw [State.cfg, htallied.life, State.joinAnnounced_life]; rfl
    have htarget : s.role = .blade → s.newEvent.enterJoined.client.hostTarget = joinTarget s.cfg.joinDefault := fun hr => by
      rw [hanswer.hostTarget, hu.target (hrole.trans hr), hcfg]
    refine ⟨_, (exec_listenTimerExpiry s).trans (congrArg _ (if_pos ?_)), ?_, ?_, ?_, ?_, ?_, fun hr => ⟨fun h => ?_, fun h => ?_,
      fun h => ?_⟩, fun hr => ?_⟩
    · rw [hx, (Timer.running_iff _).mpr htimer]
      rfl
    · rw [State.station, hlife]
    · rw [hlife]
    · rw [hanswer.clock.1, hu.cen, htallied.clock.1]
      rfl
    · rw [hslot .announce rfl]
      exact hannounce
    · rw [hslot .inventory rfl]
      exact hinventory
    · rw [htarget hr, h]
      rfl
    · rw [htarget hr, h]
      rfl
    · rw [htarget hr]
      exact joinTarget_full h
    · rw [hanswer.spm]
      exact hu.supply (hrole.trans hr)
  case still =>
    rw [exec_listenTimerExpiry, if_neg]
    rw [Bool.and_eq_true, beq_iff_eq, Timer.running_iff]
    exact not_and_of_not_or_not (h.imp_right fun hnone hne => hne hnone)

end Sys2Proof.Machine
end

section
/-! PROOFS. What a seating loss has ended, and that nothing after it begins it again (R20, R65, R110, R148, R180). -/

namespace Sys2Proof.Machine

variable {s t u : State}

/-! ## The blocks that no follow-up writes -/

/-- Station life, the sequencer, the drives of fans and supply, the Lane Map Port and the lines. -/
def State.blocks (s : State) : Life × Rsq × Fdu × Spm × Lmp × Lnu := (s.life, s.rsq, s.fdu, s.spm, s.lmp, s.lnu)

theorem State.raiseIf_blocks (s : State) (b : Bool) (e : Event) : (s.raiseIf b e).blocks = s.blocks := by
  unfold State.raiseIf
  split <;> rfl

theorem State.request_blocks (s : State) (r : FrameReq) : (s.request r).blocks = s.blocks := by
  rw [s.request_eq r]
  rfl

theorem State.requestIf_blocks (s : State) (b : Bool) (r : FrameReq) : (s.requestIf b r).blocks = s.blocks := by
  unfold State.requestIf
  split
  · exact s.request_blocks r
  · rfl

theorem State.lanesLost_blocks (s : State) (pre : Census) (k : Follow) : (s.lanesLost pre k).blocks = s.blocks := by
  unfold State.lanesLost
  split
  · rfl
  · exact State.raiseIf_blocks _ _ _

theorem State.walkPower_blocks (s : State) (pre : Census) : (s.walkPower pre).blocks = s.blocks := by
  unfold State.walkPower
  dsimp only
  split
  · rfl
  · split
    · rfl
    · exact State.raiseIf_blocks _ _ _

theorem State.shed_blocks (s : State) : s.shed.blocks = s.blocks := by
  have htold : s.shedTold.blocks = s.blocks := by
    unfold State.shedTold
    dsimp only
    split
    · exact State.raiseIf_blocks _ _ _
    · rfl
  rw [s.shed_eq, ← htold]
  unfold State.deficitTold
  split
  · split <;> rfl
  · split <;> rfl

theorem State.walkLanes_blocks (s : State) : s.walkLanes.blocks = s.blocks := by
  unfold State.walkLanes
  dsimp only
  split
  · rfl
  · split
    · rfl
    · exact State.raiseIf_blocks _ _ _

theorem State.overdrawCheck_blocks (s : State) : s.overdrawCheck.blocks = s.blocks := by
  unfold State.overdrawCheck
  dsimp only
  split
  · rfl
  · split <;> rfl

theorem State.followUp_blocks (s : State) (pre : Census) (k : Follow) : (s.followUp pre k).blocks = s.blocks := by
  unfold State.followUp
  dsimp only
  rw [show ∀ t : State, t.recordTally.blocks = t.blocks from fun _ => rfl]
  split <;> split <;>
    simp only [State.overdrawCheck_blocks, State.walkLanes_blocks, State.shed_blocks, State.walkPower_blocks,
      State.lanesLost_blocks]

theorem State.localWrite_blocks (s : State) (f : Census → Census) : (s.localWrite f).blocks = s.blocks :=
  State.followUp_blocks _ _ _

theorem State.writeOffer_blocks (h : s.mayShift = false) (k : Nat) : (s.writeOffer k).blocks = s.blocks := by
  have hwritten := s.localWrite_blocks (fun c => c.setOffer s.addr k)
  have hshift : (s.localWrite (fun c => c.setOffer s.addr k)).mayShift = false := by
    have hlife := congrArg (fun q => q.1) hwritten
    simp only [State.blocks] at hlife
    rw [State.mayShift, State.station, hlife]
    exact h
  unfold State.writeOffer State.followTable
  rw [hshift, Bool.and_false, Bool.false_and]
  exact hwritten

/-! ## What has ended -/

/-- The sequencer is OFF with its timers stopped, and retains nothing. -/
def Rsq.Down (r : Rsq) : Prop :=
  r.state = .off ∧ r.retained = 0 ∧ r.grace = none ∧ r.stepOff = none ∧ r.clearOnOff = false

/-- The fan drive has ended. -/
def Fdu.Still (f : Fdu) : Prop := f.mode = .none ∧ ∀ k, (f.channel k).duty = 0 ∧ (f.channel k).shadow = 0

/-- What a seating loss has ended. -/
structure State.Darkened (s : State) : Prop where
  seated : (s.input 0).state = .no
  bump : s.life.bumpTimer = none
  listen : s.life.listenTimer = none
  rails : s.role = .blade → s.rsq.Down
  fans : s.role = .fan → s.fdu.Still
  supply : s.role = .supply → s.spm.outEn = false ∧ s.spm.activity = .inactive ∧ s.spm.state = .offline
  lanes : s.lmp.xbarEn = false ∧ s.lmp.inFlight = none

theorem State.Darkened.of_blocks (h : s.Darkened) (hst : t.blocks = s.blocks) : t.Darkened := by
  simp only [State.blocks, Prod.mk.injEq] at hst
  obtain ⟨hlife, hrsq, hfdu, hspm, hlmp, hlnu⟩ := hst
  have hrole : t.role = s.role := by rw [State.role, hlife]; rfl
  refine ⟨?_, hlife ▸ h.bump, hlife ▸ h.listen, fun hr => hrsq ▸ h.rails (hrole ▸ hr), fun hr => hfdu ▸ h.fans (hrole ▸ hr),
    fun hr => hspm ▸ h.supply (hrole ▸ hr), hlmp ▸ h.lanes⟩
  rw [State.input, hlnu]
  exact h.seated

/-! ## The role blocks after it -/

/-- No start of R101 may follow, and no local write is due. -/
def State.Dark (before s : State) : Prop :=
  s.rsq.Down ∧ s.self.held = 0 ∧ s.station ≠ .joined ∧ (s.station = .mute → before.rsq.state.isOff = true)

theorem State.Dark.bladeKept (before : State) : BladeKept before (State.Dark before) where
  same s t hst h := by
    obtain ⟨hdown, hheld, hx, hmute⟩ := h
    exact ⟨hst.rsq ▸ hdown, hst.held.trans hheld, hst.station ▸ hx, hst.station ▸ hmute⟩
  held s h := by
    obtain ⟨⟨hoff, -, hgrace, hstepOff, hclear⟩, hheld, hx, hmute⟩ := h
    rw [State.heldZero_of_off hoff]
    exact ⟨⟨hoff, hheld, hgrace, hstepOff, hclear⟩, hheld, hx, hmute⟩
  stop s r _ h := by
    rw [State.stopRails_of_off h.1.1]
    exact h
  cleared s h := by rcases s.endOvertemp_cases with he | he <;> rw [he] <;> exact h
  zero s hdue h := by
    obtain ⟨⟨hoff, -, -, -, hclear⟩, -, -, hmute⟩ := h
    rw [State.zeroDue, hclear, Bool.or_false, Bool.and_eq_true, Bool.and_eq_true, beq_iff_eq, beq_iff_eq] at hdue
    obtain ⟨-, hx, hbefore⟩ := hdue
    rw [hmute hx] at hbefore
    cases hbefore

theorem State.evalBlade_down {before : State} (h : State.Dark before s) (force : Bool) (points : Points) :
    (s.evalBlade force points before).rsq.Down := by
  refine (State.Dark.bladeKept before).evalBlade (Q := fun t => t.rsq.Down) (fun _ _ hst h => hst.rsq ▸ h)
    (fun t ht => ⟨ht.1, ?_⟩) force points h
  have hstill : t.startRails = t := if_neg (by simp [State.mayStart, ht.2.2.1])
  rw [hstill]
  exact ht.1

theorem State.driveMode_of_still (h : s.fdu.mode = .none) (hseated : s.seated = false)
    (hx : s.station = .parked ∨ s.station = .mute) : s.driveMode = .none := by
  rcases hx with hx | hx <;> simp [State.driveMode, hx, h, hseated]

theorem State.settleDrive_of_still (h : s.role = .fan → s.fdu.mode = .none) (hseated : s.seated = false)
    (hx : s.station = .parked ∨ s.station = .mute) : s.settleDrive = s := by
  unfold State.settleDrive
  split
  · rename_i hfan
    have hmode := h ((s.isFan_iff).mp hfan)
    dsimp only
    rw [State.driveMode_of_still hmode hseated hx, hmode]
    exact if_pos rfl
  · rfl

/-- The Lane Map Port in PARKED and MUTE, where nothing is shifted and XBAR_EN is not asserted. -/
theorem State.evalUplink_dark (h : s.Darkened) (hx : s.station = .parked ∨ s.station = .mute) (pre : Census) :
    (s.evalUplink pre).Darkened := by
  have hshift : s.mayShift = false := by rcases hx with hx | hx <;> simp [State.mayShift, hx]
  have htable : s.followTable pre = s := if_neg (by simp [hshift])
  unfold State.evalUplink
  split
  · have hoffered : s.evalOffer.blocks = s.blocks := by
      unfold State.evalOffer
      dsimp only
      split
      · rfl
      · rw [State.requestIf_blocks, State.writeOffer_blocks hshift]
    have hdark := h.of_blocks hoffered
    have hstation : s.evalOffer.station = s.station := congrArg (fun q => q.1.station) hoffered
    rw [htable]
    unfold State.evalXbar
    rw [hstation]
    rcases hx with hx | hx <;> rw [hx]
    · exact ⟨hdark.seated, hdark.bump, hdark.listen, hdark.rails, hdark.fans, hdark.supply, rfl, hdark.lanes.2⟩
    · exact hdark
  · exact h

/-- Nothing of what has ended begins again in PARKED and MUTE. -/
theorem State.Darkened.evalRoles {before : State} (h : s.Darkened) (hheld : s.self.held = 0)
    (hx : s.station = .parked ∨ (s.station = .mute ∧ (s.role = .blade → before.rsq.state.isOff = true))) (pre : Census)
    (force : Bool) (points : Points) : (s.evalRoles pre force points before).Darkened := by
  have hwhere : s.station = .parked ∨ s.station = .mute := hx.imp_right fun h => h.1
  by_cases hr : s.role = .blade
  · have hdark : State.Dark before s := by
      refine ⟨h.rails hr, hheld, by rcases hwhere with h | h <;> rw [h] <;> decide, fun hm => ?_⟩
      exact (hx.resolve_left (by rw [hm]; decide)).2 hr
    have hdown := State.evalBlade_down hdark force points
    rw [State.evalRoles_of_blade hr]
    have hans : Answer true true s (s.evalBlade force points before) := .evalBlade s _ _ _
    have hne : s.role ≠ .uplink := by rw [hr]; decide
    refine ⟨?_, hans.life ▸ h.bump, hans.life ▸ h.listen, fun _ => hdown, fun hf => ?_, fun hf => ?_,
      hans.lmp_of_role hne ▸ h.lanes⟩
    · rw [State.input, hans.lnu]
      exact h.seated
    · rw [hans.role, hr] at hf
      cases hf
    · rw [hans.role, hr] at hf
      cases hf
  · have hseated : s.seated = false := by
      rw [State.seated, Input.isYes, h.seated]
      rfl
    have hblade : s.evalBlade force points before = s := State.evalBlade_of_idle (fun hb => hr hb.1) _ _ _
    have hdrive : s.settleDrive = s := State.settleDrive_of_still (fun hf => (h.fans hf).1) hseated hwhere
    rw [State.evalRoles, hblade, hdrive]
    refine (State.evalUplink_dark h hwhere pre).of_blocks ?_
    unfold State.evalEssential
    split
    · rfl
    · exact State.requestIf_blocks _ _ _

/-! ## The seating loss itself -/

/-- The role's part of a seating loss. -/
def State.roleLost (s : State) : State :=
  match s.role with
  | .blade => s.forceRailsOff
  | .fan => s.endDrive.evalOwnAirflow
  | .supply => s.parkSupply
  | .uplink => s

theorem State.roleLost_fixed (s : State) : s.roleLost.fixed = s.fixed := by
  unfold State.roleLost
  split
  · exact s.forceRailsOff_fixed
  · rw [State.evalOwnAirflow_fixed, State.endDrive_fixed]
  · exact s.parkSupply_fixed
  · rfl

theorem State.role_of_fixed (h : t.fixed = s.fixed) : t.role = s.role := congrArg (fun f : Fixed => f.life.straps.role) h

theorem State.seatLossBlocks_eq (s : State) : s.seatLossBlocks = (s.roleLost.updLmp Lmp.abandon).updLife
    (fun l => { l with bumpTimer := none, listenTimer := none, retention := false }) := by
  have hrole := State.role_of_fixed s.roleLost_fixed
  unfold State.seatLossBlocks
  unfold State.roleLost at hrole ⊢
  cases hr : s.role <;> simp only [hr] at hrole ⊢ <;> simp [State.isBlade, State.isFan, State.isSupply, hr, hrole]

theorem State.forceRailsOff_down (s : State) : s.forceRailsOff.rsq.Down := by
  have hrsq : s.forceRailsOff.rsq = { s.railsOff.rsq with retained := 0, clearOnOff := false } := rfl
  rw [hrsq, State.railsOff, State.raiseIf_rsq]
  exact ⟨rfl, rfl, rfl, rfl, rfl⟩

theorem State.endDrive_still (s : State) : s.endDrive.evalOwnAirflow.fdu.Still := by
  rw [State.evalOwnAirflow_fdu]
  refine ⟨rfl, fun k => ?_⟩
  by_cases hk : k < Config.fans
  · have hchannel := s.endRetained.fdu.mapChannels_channel (fun _ c => c.stop) hk
    have hstopped : (Fdu.channel { s.endDrive.fdu with airflow := s.endDrive.airflowNow } k) =
        (s.endRetained.fdu.channel k).stop := hchannel
    rw [hstopped]
    exact ⟨rfl, rfl⟩
  · have hlength := s.endRetained.fdu.mapChannels_length (fun _ c => c.stop)
    have hover : (Fdu.channel { s.endDrive.fdu with airflow := s.endDrive.airflowNow } k) = .reset :=
      Fdu.channel_of_le (Nat.le_trans (Nat.le_of_eq hlength) (Nat.le_of_not_lt hk))
    rw [hover]
    exact ⟨rfl, rfl⟩

theorem State.parkSupply_dark (s : State) : s.parkSupply.spm.outEn = false ∧ s.parkSupply.spm.activity = .inactive ∧
    s.parkSupply.spm.state = .offline := by
  unfold State.parkSupply
  rw [State.raiseIf_spm]
  exact ⟨rfl, rfl, rfl⟩

theorem State.seatLossBlocks_darkened (h : (s.input 0).state = .no) : s.seatLossBlocks.Darkened := by
  have hrole := State.role_of_fixed s.roleLost_fixed
  have hlnu : s.roleLost.lnu = s.lnu := congrArg Fixed.lnu s.roleLost_fixed
  rw [State.seatLossBlocks_eq]
  refine ⟨?_, rfl, rfl, fun hr => ?_, fun hr => ?_, fun hr => ?_, rfl, rfl⟩
  · show (s.roleLost.input 0).state = .no
    rw [State.input, hlnu]
    exact h
  · have hlost : s.roleLost = s.forceRailsOff := by
      unfold State.roleLost
      rw [hrole.symm.trans hr]
    show s.roleLost.rsq.Down
    rw [hlost]
    exact s.forceRailsOff_down
  · have hlost : s.roleLost = s.endDrive.evalOwnAirflow := by
      unfold State.roleLost
      rw [hrole.symm.trans hr]
    show s.roleLost.fdu.Still
    rw [hlost]
    exact s.endDrive_still
  · have hlost : s.roleLost = s.parkSupply := by
      unfold State.roleLost
      rw [hrole.symm.trans hr]
    show s.roleLost.spm.outEn = false ∧ s.roleLost.spm.activity = .inactive ∧ s.roleLost.spm.state = .offline
    rw [hlost]
    exact s.parkSupply_dark

end Sys2Proof.Machine
end

section
/-! PROOFS. The loss of SEATED, by the state in which it finds the station (R20, R65). -/

namespace Sys2Proof.Machine

variable {s t u : State}

/-! ## The local write and the queue -/

theorem Answer.powerlessSelf {o w : Bool} (h : Answer o w s t) (hs : s.cen.Shaped) (hp : s.self.Powerless) :
    t.self.Powerless := by
  rw [h.self_eq]
  exact h.powerless hs s.addr hp

theorem State.localZero_powerless (hs : s.cen.Shaped) : s.localZero.self.Powerless := by
  have hans : Answer true true (s.updCen (fun c => c.localZero s.addr)) s.localZero := .followUp _ _ _
  have hzero : ((s.cen.localZero s.addr).get s.addr).Powerless := by
    rw [hs.get_localZero, if_pos rfl]
    exact ⟨rfl, rfl⟩
  have hshaped := hs.localZero s.addr
  unfold State.localZero State.localWrite at hans ⊢
  generalize hc : s.cen.localZero s.addr = c at hzero hshaped
  have hupd : s.updCen (fun c => c.localZero s.addr) = { s with cen := c } := by rw [← hc]; rfl
  rw [hupd] at hans ⊢
  exact hans.powerlessSelf hshaped hzero

theorem State.localZero_shaped (hs : s.cen.Shaped) : s.localZero.cen.Shaped :=
  (Answer.localZero (o := true) (w := true) s).shapedCen hs

theorem State.parkBegun_powerless (hs : s.cen.Shaped) (hp : s.self.Powerless) :
    s.parkBegun.cen.Shaped ∧ s.parkBegun.self.Powerless := by
  have hstation : (s.cen.upd s.addr (fun e => { e with station := none })).Shaped :=
    hs.upd fun e he => Entry.tableOk_of_part rfl he
  have hstopped : (s.cen.upd s.addr (fun e => { e with station := none })).stopTimers.Shaped :=
    (hstation.updAll (f := fun e => { e with silence := none, staleHold := none, quiet := none })
      fun e he => Entry.tableOk_of_part rfl he).of_entries rfl
  have hself : s.parkBegun.self = (s.cen.upd s.addr (fun e => { e with station := none })).stopTimers.get s.addr := rfl
  refine ⟨hstopped.of_entries rfl, ?_⟩
  rw [hself, Census.stopTimers_entries hstation, hs.get_upd, if_pos rfl]
  exact hp

theorem State.seatLossBus_slots (s : State) : (∀ i, i ≠ .depart → s.seatLossBus.slot i = none) ∧
    ∃ f, s.seatLossBus.slot .depart = some f ∧ f.contents = .depart .seatedLost ∧ f.attempts = 0 ∧ f.followOn = none := by
  refine ⟨fun i hi => (TxQueue.get_put_other _ _ hi).trans (TxQueue.get_empty i), ?_⟩
  cases hf : s.slot .depart with
  | none =>
    refine ⟨s.fresh (.depart .seatedLost), ?_, rfl, rfl, rfl⟩
    unfold State.seatLossBus
    rw [hf]
    exact TxQueue.get_put_self .empty .depart _
  | some f =>
    refine ⟨{ f with contents := .depart .seatedLost, attempts := 0, followOn := none }, ?_, rfl, rfl, rfl⟩
    unfold State.seatLossBus
    rw [hf]
    exact TxQueue.get_put_self .empty .depart _

theorem StationState.parked_answers (i : SlotId) : StationState.parked.answers i = false := by cases i <;> rfl

/-- PARKED after a seating loss in LISTEN, JOINED or LEAVING. -/
theorem State.becomeParked_lost (hs : s.cen.Shaped) (hp : s.self.Powerless) (h : s.Darkened) :
    s.becomeParked.Darkened ∧ s.becomeParked.self.Powerless ∧ s.becomeParked.pbc.onLine = s.pbc.onLine ∧
      ∀ i, s.becomeParked.slot i = s.slot i := by
  obtain ⟨hs', hp'⟩ := State.parkBegun_powerless hs hp
  have hbegun : s.parkBegun.Darkened := ⟨h.seated, rfl, rfl, h.rails, h.fans, h.supply, h.lanes⟩
  have hans := Answer.evalRoles s.parkBegun s.parkBegun.cen false .none s.parkBegun
  rw [s.becomeParked_eq]
  exact ⟨hbegun.evalRoles hp'.1 (.inl rfl) _ _ _, hans.powerlessSelf hs' hp', hans.onLine,
    fun i => hans.kept_slot (StationState.parked_answers i)⟩

/-! ## By the state of the station -/

theorem State.seatLossBlocks_life (s : State) : s.seatLossBlocks.life =
    { s.life with bumpTimer := none, listenTimer := none, retention := false } := by
  have hlife : s.roleLost.life = s.life := congrArg Fixed.life s.roleLost_fixed
  rw [State.seatLossBlocks_eq, State.updLife_life]
  show { s.roleLost.life with bumpTimer := none, listenTimer := none, retention := false } = _
  rw [hlife]

theorem State.seatLossBlocks_shaped (hs : s.cen.Shaped) : s.seatLossBlocks.cen.Shaped :=
  (Keeps.seatLossBlocks s).promises .entries hs

section
variable (hs : s.cen.Shaped) (hno : (s.input 0).state = .no)
include hs hno

/-- The blocks after a seating loss, with the local write made. -/
theorem State.seatLossZero : s.seatLossBlocks.localZero.cen.Shaped ∧ s.seatLossBlocks.localZero.self.Powerless ∧
    s.seatLossBlocks.localZero.Darkened :=
  have hshaped := State.seatLossBlocks_shaped hs
  ⟨State.localZero_shaped hshaped, State.localZero_powerless hshaped,
    (State.seatLossBlocks_darkened hno).of_blocks (State.localWrite_blocks _ _)⟩

theorem State.seatingLoss_mute (hx : s.station = .mute) : s.seatingLoss.Darkened ∧ s.seatingLoss.station = .mute ∧
    s.seatingLoss.self.Powerless := by
  obtain ⟨hshaped, hpower, hdark⟩ := State.seatLossZero hs hno
  have hstation : s.seatLossBlocks.localZero.station = .mute := by
    rw [State.localZero_station, State.station, State.seatLossBlocks_life]
    exact hx
  have hloss : s.seatingLoss = (if s.seatLossBlocks.localZero.isUplink && s.seatLossBlocks.localZero.self.offer != 0 then
      s.seatLossBlocks.localZero.writeOffer 0 else s.seatLossBlocks.localZero).evalRoles s.seatLossBlocks.localZero.cen false .both
        s.seatLossBlocks.localZero := by
    unfold State.seatingLoss
    rw [hx]
  rw [hloss]
  generalize s.seatLossBlocks.localZero = u at hshaped hpower hdark hstation
  have hshift : u.mayShift = false := by rw [State.mayShift, hstation]; rfl
  have hoffer : ∀ b : Bool, Answer true true u (if b then u.writeOffer 0 else u) ∧
      (if b then u.writeOffer 0 else u).blocks = u.blocks := by
    intro b
    cases b with
    | true => exact ⟨.writeOffer u (Nat.zero_le _), u.writeOffer_blocks hshift 0⟩
    | false => exact ⟨.refl u, rfl⟩
  obtain ⟨hans, hblocks⟩ := hoffer (u.isUplink && u.self.offer != 0)
  generalize (if (u.isUplink && u.self.offer != 0) = true then u.writeOffer 0 else u) = v at hans hblocks
  have hoff : v.role = .blade → u.rsq.state.isOff = true := fun hr => by
    rw [(hdark.rails (hans.role.symm.trans hr)).1]
    rfl
  have hroles := Answer.evalRoles v u.cen false .both u
  have hv : v.station = .mute := hans.station.trans hstation
  have hpower' := hans.powerlessSelf hshaped hpower
  exact ⟨(hdark.of_blocks hblocks).evalRoles hpower'.1 (.inr ⟨hv, hoff⟩) _ _ _, hroles.station.trans hv,
    hroles.powerlessSelf (hans.shapedCen hshaped) hpower'⟩

theorem State.seatingLoss_parked (hx : s.station = .parked) : s.seatingLoss.Darkened ∧ s.seatingLoss.station = .parked ∧
    s.seatingLoss.self.Powerless := by
  obtain ⟨hshaped, hpower, hdark⟩ := State.seatLossZero hs hno
  have hstation : s.seatLossBlocks.localZero.station = .parked := by
    rw [State.localZero_station, State.station, State.seatLossBlocks_life]
    exact hx
  have hloss : s.seatingLoss = s.seatLossBlocks.localZero.evalRoles s.seatLossBlocks.cen false .both s := by
    unfold State.seatingLoss
    rw [hx]
  have hroles := Answer.evalRoles s.seatLossBlocks.localZero s.seatLossBlocks.cen false .both s
  rw [hloss]
  exact ⟨hdark.evalRoles hpower.1 (.inl hstation) _ _ _, hroles.station.trans hstation, hroles.powerlessSelf hshaped hpower⟩

theorem State.seatingLoss_listening (hx : s.station = .listen ∨ s.station = .joined ∨ s.station = .leaving) :
    s.seatingLoss.Darkened ∧ s.seatingLoss.station = .parked ∧ s.seatingLoss.life.leaving = none ∧
      s.seatingLoss.self.Powerless ∧ s.seatingLoss.pbc.onLine = none ∧ (∀ i, i ≠ .depart → s.seatingLoss.slot i = none) ∧
      ∃ f, s.seatingLoss.slot .depart = some f ∧ f.contents = .depart .seatedLost ∧ f.attempts = 0 ∧ f.followOn = none := by
  obtain ⟨hshaped, hpower, hdark⟩ := State.seatLossZero hs hno
  have hloss : s.seatingLoss = (s.seatLossBlocks.localZero.seatLossBus).becomeParked := by
    unfold State.seatingLoss
    rcases hx with hx | hx | hx <;> rw [hx]
  rw [hloss]
  generalize s.seatLossBlocks.localZero = u at hshaped hpower hdark
  obtain ⟨hothers, hdepart⟩ := u.seatLossBus_slots
  obtain ⟨hdark', hpower', hline, hslots⟩ := State.becomeParked_lost (s := u.seatLossBus) hshaped hpower (hdark.of_blocks rfl)
  refine ⟨hdark', ?_, ?_, hpower', hline, fun i hi => (hslots i).trans (hothers i hi), ?_⟩
  · rw [State.station, State.becomeParked_life]
  · rw [State.becomeParked_life]
    rfl
  · rw [hslots]
    exact hdepart

theorem State.seatingLoss_darkened (hx : s.station ≠ .start) : s.seatingLoss.Darkened := by
  cases hy : s.station with
  | start => exact absurd hy hx
  | setup =>
    have hloss : s.seatingLoss = s.seatLossBlocks := by
      unfold State.seatingLoss
      rw [hy]
    rw [hloss]
    exact State.seatLossBlocks_darkened hno
  | parked => exact (State.seatingLoss_parked hs hno hy).1
  | listen => exact (State.seatingLoss_listening hs hno (.inl hy)).1
  | joined => exact (State.seatingLoss_listening hs hno (.inr (.inl hy))).1
  | leaving => exact (State.seatingLoss_listening hs hno (.inr (.inr hy))).1
  | mute => exact (State.seatingLoss_mute hs hno hy).1

end

theorem exec_seatedChange (level : Bool) (s : State) : exec (.seatedChange level) s =
    .next ((s.newEvent.debounce 0 seatedSamples level).seatedTaken (s.input 0).state) := rfl

/-- The state that a loss of SEATED meets. -/
theorem exec_seatedChange_lost (hs : s.shaped)
    (h : s.seated = true ∨ ((s.input 0).state = .unsettled ∧ s.life.retention = true)) :
    exec (.seatedChange false) s = .next (s.newEvent.debounce 0 seatedSamples false).seatingLoss ∧
      ((s.newEvent.debounce 0 seatedSamples false).input 0).state = .no := by
  have hpin : 0 < s.newEvent.lnu.inputs.length := hs.input_lt (by decide)
  have hno := State.debounce_state (s := s.newEvent) (n := seatedSamples) false (by decide) hpin
  refine ⟨?_, hno⟩
  rw [exec_seatedChange]
  refine congrArg _ (if_pos ?_)
  have hretention : (s.newEvent.debounce 0 seatedSamples false).life.retention = s.life.retention := rfl
  rw [hno, hretention]
  rcases h with h | ⟨hunsettled, hkept⟩
  · rw [State.seated, Input.isYes, beq_iff_eq] at h
    rw [h]
    rfl
  · rw [hunsettled, hkept]
    rfl

/-- Settles O23: what the blocks have ended stays so through the local write, the queue and the passage into PARKED. -/
theorem seatingLossEndsEverything : Obligations.SeatingLossEndsEverything := by
  intro s hs hstart h
  obtain ⟨hexec, hno⟩ := exec_seatedChange_lost hs h
  generalize hd : s.newEvent.debounce 0 seatedSamples false = d at hexec hno
  have hcen : d.cen.Shaped := by rw [← hd]; exact hs.cen
  have hstation : d.station = s.station := by rw [← hd]; rfl
  have hrole : d.seatingLoss.role = s.role := (Keeps.seatingLoss d).role.trans (by rw [← hd]; rfl)
  have hdark := State.seatingLoss_darkened hcen hno (hstation ▸ hstart)
  refine ⟨_, hexec, hdark.seated, hdark.bump, hdark.listen, fun hr => ?_, fun hr => (hdark.fans (hrole.trans hr)).2,
    fun hr => hdark.supply (hrole.trans hr), hdark.lanes.1, hdark.lanes.2, fun hx => ?_, fun hx => ?_, fun hx => ?_⟩
  · obtain ⟨hoff, hretained, hgrace, hstepOff, -⟩ := hdark.rails (hrole.trans hr)
    exact ⟨hoff, hretained, hgrace, hstepOff⟩
  · obtain ⟨-, hparked, hleaving, ⟨hheld, hclaim⟩, hline, hslots⟩ := State.seatingLoss_listening hcen hno (hstation.symm ▸ hx)
    exact ⟨hparked, hleaving, hheld, hclaim, hline, hslots⟩
  · rcases hx with hx | hx
    · obtain ⟨-, hparked, hheld, hclaim⟩ := State.seatingLoss_parked hcen hno (hstation.trans hx)
      exact ⟨hparked.trans hx.symm, hheld, hclaim⟩
    · obtain ⟨-, hmute, hheld, hclaim⟩ := State.seatingLoss_mute hcen hno (hstation.trans hx)
      exact ⟨hmute.trans hx.symm, hheld, hclaim⟩
  · have hloss : d.seatingLoss = d.seatLossBlocks := by
      unfold State.seatingLoss
      rw [hstation, hx]
    rw [hloss, State.station, State.seatLossBlocks_life]
    exact hstation.trans hx

end Sys2Proof.Machine
end

section
/-! PROOFS. A PARKED station whose join condition comes to hold: LISTEN, or MUTE at the limit of the fault score (R55, R56). -/

namespace Sys2Proof.Machine

variable {s t u : State}

/-! ## LISTEN as it begins -/

theorem State.listened_answer (s : State) : Answer true true s.listenBegun.disposeDepart s.listened := .evalRoles _ _ _ _ _

theorem State.disposeDepart_faultScore (s : State) : s.disposeDepart.pbc.faultScore = s.pbc.faultScore := by
  unfold State.disposeDepart
  split
  · rfl
  · split <;> rfl

theorem State.listened_faultScore (s : State) : s.listened.pbc.faultScore = s.pbc.faultScore := by
  rw [s.listened_answer.faultScore, State.disposeDepart_faultScore]
  rfl

/-- The census of a station in LISTEN: the self entry alone, and nothing announced (R44). -/
theorem State.listened_census (s : State) : s.listened.cen.ownAnnounced = false ∧ s.listened.cen.announceTimer = none ∧
    s.listened.cen.deficit = false ∧ s.listened.cen.overdraw = false ∧
    ∀ a, a ≠ s.addr → s.listened.entry a = Entry.vacant := by
  have hans := s.listened_answer
  have hcen : s.listenBegun.disposeDepart.cen = s.cen.listen s.addr := by
    rw [State.disposeDepart_cen]
    rfl
  have hstation : s.listenBegun.disposeDepart.station.acting = false := by
    rw [State.station, State.disposeDepart_life]
    rfl
  obtain ⟨htimer, hannounced, -⟩ := hans.clock
  obtain ⟨hdeficit, hoverdraw⟩ := hans.kept_flags hstation
  rw [hcen] at htimer hannounced hdeficit hoverdraw
  refine ⟨hannounced, htimer, hdeficit, hoverdraw, fun a ha => ?_⟩
  refine hans.vacant (hcen ▸ Census.Shaped.listen _ _) a ?_
  rw [State.entry, hcen, Census.get_listen, if_neg ha]

/-- What the entry to LISTEN comes to, by the fault score. -/
theorem State.enterListen_outcome (s : State) :
    (s.pbc.faultScore = 64 → s.enterListen.station = .mute ∧ s.enterListen.pbc.muteCause = some .faultScore ∧
      ∀ j, s.enterListen.slot j = none) ∧
    (s.pbc.faultScore ≠ 64 → s.enterListen.station = .listen ∧ s.enterListen.life.listenTimer = some 1280 ∧
      s.enterListen.cen.ownAnnounced = false ∧ s.enterListen.cen.announceTimer = none ∧ s.enterListen.cen.deficit = false ∧
      s.enterListen.cen.overdraw = false ∧ ∀ a, a ≠ s.addr → s.enterListen.entry a = Entry.vacant) := by
  rw [s.enterListen_eq_listened, s.listened_faultScore]
  refine ⟨fun h => ?_, fun h => ?_⟩
  · rw [if_pos (by rw [h]; rfl)]
    exact ⟨State.enterMute_station _ _, (State.enterMute_bus _ _).2.1, State.enterMute_slot _ _⟩
  · rw [if_neg (by rw [beq_iff_eq]; exact h)]
    refine ⟨?_, ?_, s.listened_census⟩
    · rw [State.station, State.listened_life]
    · rw [State.listened_life]
      rfl

/-! ## The join condition comes to hold -/

theorem State.testJoin_of_holds (hx : s.station = .parked) (hseated : (s.input 0).state = .yes) (hclosed : (s.input 1).state ≠ .yes)
    (hstay : s.life.stayParked = false) : s.testJoin = s.enterListen := by
  refine if_pos ?_
  have hopen : s.ejectorOpen = false := by rw [State.ejectorOpen, Input.isYes, beq_eq_false_iff_ne]; exact hclosed
  rw [hx, State.joinCondition, State.seated, Input.isYes, hseated, hopen, hstay]
  rfl

theorem State.input_of_fixed (h : t.fixed = s.fixed) (j : Nat) : t.input j = s.input j := by
  have hlnu : t.lnu = s.lnu := congrArg Fixed.lnu h
  unfold State.input
  rw [hlnu]

theorem exec_ejectorChange (isOpen : Bool) (s : State) : exec (.ejectorChange isOpen) s =
    .next ((s.newEvent.debounce 1 lineSamples isOpen).ejectorTaken (s.input 1).state) := rfl

theorem State.ejectorTaken_of_unsettled (s : State) : s.ejectorTaken .unsettled = s.testJoin := by
  unfold State.ejectorTaken
  rfl

theorem State.ejectorTaken_of_opening (h : (s.input 1).state = .yes) : s.ejectorTaken .no = s.ejectorOpens := by
  unfold State.ejectorTaken
  rw [h]

theorem State.ejectorTaken_of_closing (h : (s.input 1).state = .no) : s.ejectorTaken .yes = s.ejectorCloses := by
  unfold State.ejectorTaken
  rw [h]

/-- The event tests the join condition in a state that differs in its census, its drives and its sequencer alone. -/
theorem exec_of_joins {i : Instr} (hs : s.shaped) (hx : s.station = .parked)
    (h : (i = .seatedChange true ∧ s.seated = false ∧ s.ejectorOpen = false) ∨
      (i = .ejectorChange false ∧ s.seated = true ∧ (s.input 1).state ≠ .no)) :
    ∃ v : State, exec i s = .next v.testJoin ∧ v.life = s.life ∧ v.pbc.faultScore = s.pbc.faultScore ∧
      (v.input 0).state = .yes ∧ (v.input 1).state ≠ .yes := by
  rcases h with ⟨rfl, hseated, hopen⟩ | ⟨rfl, hseated, hwas⟩
  · have hwas : (s.input 0).state ≠ .yes := by
      rw [State.seated, Input.isYes, beq_eq_false_iff_ne] at hseated
      exact hseated
    have hyes : ((s.newEvent.debounce 0 seatedSamples true).input 0).state = .yes :=
      State.debounce_state true (by decide) (hs.input_lt (by decide))
    have hother : (s.newEvent.debounce 0 seatedSamples true).input 1 = s.input 1 :=
      s.newEvent.debounce_other seatedSamples true (by decide)
    have hfixed := (s.newEvent.debounce 0 seatedSamples true).settleDrive_fixed
    refine ⟨(s.newEvent.debounce 0 seatedSamples true).settleDrive, ?_, ?_, ?_, ?_, ?_⟩
    · rw [exec_seatedChange, State.seatedTaken, hyes, if_neg (by rw [seatingLost]; simp), if_neg (by simpa using Ne.symm hwas)]
    · rw [State.life_of_fixed hfixed]
      rfl
    · exact congrArg (fun f : Fixed => f.bus.faultScore) hfixed
    · rw [State.input_of_fixed hfixed]
      exact hyes
    · rw [State.input_of_fixed hfixed, hother]
      rw [State.ejectorOpen, Input.isYes, beq_eq_false_iff_ne] at hopen
      exact hopen
  · have hno : ((s.newEvent.debounce 1 lineSamples false).input 1).state = .no :=
      State.debounce_state false (by decide) (hs.input_lt (by decide))
    have hother : (s.newEvent.debounce 1 lineSamples false).input 0 = s.input 0 :=
      s.newEvent.debounce_other lineSamples false (by decide)
    have hyes : (s.input 0).state = .yes := by
      rw [State.seated, Input.isYes, beq_iff_eq] at hseated
      exact hseated
    cases hy : (s.input 1).state with
    | no => exact absurd hy hwas
    | unsettled =>
      refine ⟨s.newEvent.debounce 1 lineSamples false, ?_, rfl, rfl, by rw [hother]; exact hyes, by rw [hno]; decide⟩
      rw [exec_ejectorChange, hy, State.ejectorTaken_of_unsettled]
    | yes =>
      have hfixed := (s.newEvent.debounce 1 lineSamples false).cancelStop_fixed
      refine ⟨(s.newEvent.debounce 1 lineSamples false).cancelStop, ?_, ?_, ?_, ?_, ?_⟩
      · rw [exec_ejectorChange, hy, State.ejectorTaken_of_closing hno]
        refine congrArg _ ?_
        unfold State.ejectorCloses
        rw [show (s.newEvent.debounce 1 lineSamples false).station = .parked from hx]
      · rw [State.life_of_fixed hfixed]
        rfl
      · exact congrArg (fun f : Fixed => f.bus.faultScore) hfixed
      · rw [State.input_of_fixed hfixed, hother]
        exact hyes
      · rw [State.input_of_fixed hfixed, hno]
        decide

/-- Settles O24: the condition is tested, and holds. -/
theorem joinConditionLeadsToListen : Obligations.JoinConditionLeadsToListen := by
  intro i s hs hx hstay h
  obtain ⟨v, hexec, hlife, hscore, hseated, hclosed⟩ := exec_of_joins hs hx h
  have hstation : v.station = .parked := by rw [State.station, hlife]; exact hx
  have haddr : v.addr = s.addr := by rw [State.addr, hlife]; rfl
  rw [State.testJoin_of_holds hstation hseated hclosed (by rw [hlife]; exact hstay)] at hexec
  have hlisten := v.enterListen_outcome
  rw [hscore, haddr] at hlisten
  exact ⟨_, hexec, hlisten⟩

end Sys2Proof.Machine
end

section
/-! PROOFS. An EJECTOR opening, by the state in which it finds the station (R56, R58, R60, R111). -/

namespace Sys2Proof.Machine

variable {s t u : State}

/-! ## Rails that are ON in PARKED -/

/-- The rails are ON, and the station composes no target. -/
def State.OnQuiet (s : State) : Prop := s.rsq.state = .on ∧ 0 < s.self.held ∧ s.station.acting = false

theorem State.OnQuiet.bladeKept (before : State) : BladeKept before State.OnQuiet where
  same s t hst h := by
    obtain ⟨hon, hheld, hquiet⟩ := h
    exact ⟨(congrArg Rsq.state hst.rsq).trans hon, hst.held ▸ hheld, hst.station ▸ hquiet⟩
  held s h := by
    have hheld : (s.followHeld.self.held == 0) = false := by
      rw [beq_eq_false_iff_ne]
      exact Nat.ne_of_gt h.2.1
    rw [State.heldZeroRails, hheld]
    exact h
  stop s r hacting h := by
    rw [h.2.2] at hacting
    cases hacting
  cleared s h := by rcases s.endOvertemp_cases with he | he <;> rw [he] <;> exact h
  zero s hdue h := by
    rw [State.zeroDue, Bool.and_eq_true, beq_iff_eq, h.1] at hdue
    cases hdue.1

theorem State.park_on (hr : s.role = .blade) (hon : s.rsq.state = .on) (hheld : 0 < s.self.held) :
    s.park.rsq.state = .on := by
  have hquiet : s.clearQueue.parkBegun.OnQuiet := ⟨hon, by rw [State.parkBegun_held]; exact hheld, rfl⟩
  rw [State.park, State.becomeParked_eq, State.evalRoles_of_blade (s := s.clearQueue.parkBegun) hr]
  refine (State.OnQuiet.bladeKept _).evalBlade (Q := fun t => t.rsq.state = .on)
    (fun _ _ hst h => (congrArg Rsq.state hst.rsq).trans h) (fun t ht => ⟨ht.1, ?_⟩) _ _ hquiet
  rw [State.startRails_of_ne_off (by rw [ht.1]; decide)]
  exact ht.1

theorem State.park_answer (s : State) : Answer true true s.clearQueue.parkBegun s.park := .evalRoles _ _ _ _ _

theorem State.park_slot (s : State) (i : SlotId) : s.park.slot i = none :=
  (s.park_answer.kept_slot (StationState.parked_answers i)).trans (TxQueue.get_empty i)

/-! ## The stop of a PARKED blade (R111) -/

theorem State.stopRetained_fixed (s : State) : s.stopRetained.fixed = s.fixed := by
  unfold State.stopRetained
  split
  · rw [State.armClear_fixed, State.stopRails_fixed]
  · rfl

theorem State.stopRails_pbc (s : State) (r : StopReason) : (s.stopRails r).pbc = s.pbc := by
  have hdown : s.takeDown.pbc = s.pbc := by
    unfold State.takeDown
    split
    · exact State.raiseIf_pbc _ _ _
    · rfl
  unfold State.stopRails
  split
  · rfl
  · rfl
  · rfl
  · exact hdown
  · exact hdown
  · rfl
  · unfold State.cutGrace
    dsimp only
    split <;> rfl

theorem State.stopRetained_pbc (s : State) : s.stopRetained.pbc = s.pbc := by
  unfold State.stopRetained State.armClear
  split
  · split
    · exact s.stopRails_pbc _
    · exact s.stopRails_pbc _
  · rfl

section
variable (hr : s.role = .blade)
include hr

theorem State.stopRetained_eq : s.stopRetained = (s.stopRails .ejector).armClear := if_pos ((s.isBlade_iff).mpr hr)

theorem State.stopRetained_of_off (h : s.rsq.state.isOff = true) : s.stopRetained = s := by
  have hstop : s.stopRails .ejector = s := by
    unfold State.stopRails
    cases hx : s.rsq.state <;> rw [hx] at h <;> first | rfl | cases h
  rw [State.stopRetained_eq hr, hstop]
  exact if_pos h

theorem State.stopRetained_of_on (h : s.rsq.state = .on) : s.stopRetained = { s with
    rsq := { s.rsq with state := .stopWait, stagger := none, oneShot := none, pgTimeout := none,
                        grace := some s.cfg.graceMs, stepOff := none, stopReason := some .ejector, clearOnOff := true },
    lpt := s.lpt.push (.shutdownRequest .ejector) } := by
  rw [State.stopRetained_eq hr, State.stopRails, h]
  rfl

theorem State.stopRetained_of_stopWait {g : Nat} (h : s.rsq.state = .stopWait) (hgrace : s.rsq.grace = some g)
    (hg : g ≤ s.cfg.graceMs) : s.stopRetained = { s with rsq := { s.rsq with clearOnOff := true } } := by
  have hcut : s.stopRails .ejector = s := by
    unfold State.stopRails
    rw [h]
    dsimp only
    unfold State.cutGrace
    dsimp only
    rw [if_neg (by rw [hgrace]; exact Nat.not_lt.mpr hg)]
    rfl
  rw [State.stopRetained_eq hr, hcut, State.armClear, if_neg (by rw [h]; exact Bool.false_ne_true)]

theorem State.stopRetained_of_stopping {k : Nat} (h : s.rsq.state = .stopping k) :
    s.stopRetained = { s with rsq := { s.rsq with clearOnOff := true } } := by
  have hstop : s.stopRails .ejector = s := by
    unfold State.stopRails
    rw [h]
  rw [State.stopRetained_eq hr, hstop, State.armClear, if_neg (by rw [h]; exact Bool.false_ne_true)]

end

/-! ## The opening -/

/-- The EJECTOR is open, and the stay-parked flag has ended. -/
def State.opened (s : State) : State :=
  { s.inputTaken 1 ((s.input 1).settle lineSamples true) with life := { s.life with stayParked := false } }

theorem exec_ejectorChange_opening (hs : s.shaped) (h : (s.input 1).state = .no) :
    exec (.ejectorChange true) s = .next (s.newEvent.debounce 1 lineSamples true).ejectorOpens ∧
      (s.opened.input 1).state = .yes := by
  have hyes : ((s.newEvent.debounce 1 lineSamples true).input 1).state = .yes :=
    State.debounce_state true (by decide) (hs.input_lt (by decide))
  refine ⟨?_, hyes⟩
  rw [exec_ejectorChange, h, State.ejectorTaken_of_opening hyes]

/-- What an opening does where it acts. -/
theorem State.ejectorOpens_eq (s : State) : (s.newEvent.debounce 1 lineSamples true).ejectorOpens =
    match s.station with
    | .parked => s.opened.stopRetained
    | .listen => s.opened.park.stopRetained
    | .joined => if s.life.bumpTimer.running then s.opened else s.opened.enterLeaving .ejector
    | .start | .setup | .leaving | .mute => s.opened := rfl

theorem State.input_of_lnu (h : t.lnu = s.lnu) (j : Nat) : t.input j = s.input j := by
  unfold State.input
  rw [h]

theorem Input.isYes_of_state {x : Input} (h : x.state = .yes) : x.isYes = true := by rw [Input.isYes, h]; rfl

/-- Settles O25: the opening acts on the station as it finds it, and on the sequencer of a PARKED blade. -/
theorem ejectorOpeningLeaves : Obligations.EjectorOpeningLeaves := by
  intro s hs hclosed
  obtain ⟨hexec, hopen⟩ := exec_ejectorChange_opening hs hclosed
  rw [State.ejectorOpens_eq] at hexec
  refine ⟨(s.input 1).settle lineSamples true, Input.settle_state (n := lineSamples) (by decide) true _, fun hx hbump => ?joined, fun hx => ?listen,
    fun h => ?still, fun hx hr => ?parked⟩
  case joined =>
    rw [hx] at hexec
    dsimp only at hexec
    rw [if_neg (by rw [Timer.running_iff]; exact fun h => h hbump)] at hexec
    have hcourse := s.opened.enterLeaving_course .ejector
    have hbegun : (s.opened.leavingBegun .ejector).lnu = s.opened.lnu := by
      unfold State.leavingBegun
      rw [State.removeClaim_eq, State.removeClaim_eq]
      rfl
    refine ⟨_, hexec, State.enterLeaving_station _ _, State.enterLeaving_reason _ _, ?_, ?_⟩
    · rw [State.ejectorOpen, State.input_of_lnu (hcourse.lnu.trans hbegun)]
      exact Input.isYes_of_state hopen
    · have hlife := congrArg Life.stayParked hcourse.life
      simp only [Life.stepless, State.leavingBegun_life] at hlife
      exact hlife
  case listen =>
    rw [hx] at hexec
    have hlife : s.opened.park.stopRetained.life = { s.opened.life.park with station := .parked } := by
      rw [State.life_of_fixed (State.stopRetained_fixed _), State.park, State.becomeParked_life]
      rfl
    have hlnu : s.opened.park.stopRetained.lnu = s.opened.lnu :=
      (congrArg Fixed.lnu (State.stopRetained_fixed _)).trans s.opened.park_answer.lnu
    refine ⟨_, hexec, by rw [State.station, hlife], by rw [hlife]; rfl, fun i => ?_, ?_, by rw [hlife]; rfl, fun hr hon hheld => ?_⟩
    · rw [State.slot, State.stopRetained_pbc]
      exact s.opened.park_slot i
    · rw [State.ejectorOpen, State.input_of_lnu hlnu]
      exact Input.isYes_of_state hopen
    · have hr' : s.opened.park.role = .blade := s.opened.park_answer.role.trans hr
      rw [State.stopRetained_of_on hr' (State.park_on (s := s.opened) hr hon hheld)]
      exact ⟨rfl, rfl, rfl⟩
  case still =>
    rw [hexec]
    rcases h with h | h | h | h | ⟨h, hbump⟩ | ⟨h, hoff⟩ <;> rw [h]
    · rfl
    · rfl
    · rfl
    · rfl
    · dsimp only
      rw [if_pos ((Timer.running_iff _).mpr hbump)]
      rfl
    · dsimp only
      by_cases hr : s.role = .blade
      · have hoff' : s.opened.rsq.state.isOff = true := by
          rcases hoff.resolve_left (fun hne => hne hr) with h | h
          · rw [show s.opened.rsq.state = .off from h]; rfl
          · rw [show s.opened.rsq.state = .fault from h]; rfl
        rw [State.stopRetained_of_off (s := s.opened) hr hoff']
        rfl
      · rw [State.stopRetained, if_neg (by rw [State.isBlade_iff]; exact hr)]
        rfl
  case parked =>
    rw [hx] at hexec
    dsimp only at hexec
    refine ⟨fun hon => ?_, fun g hwait hgrace hg => ?_, fun k hstopping => ?_⟩
    · rw [hexec, State.stopRetained_of_on (s := s.opened) hr hon]
      rfl
    · rw [hexec, State.stopRetained_of_stopWait (s := s.opened) hr hwait hgrace hg]
      rfl
    · rw [hexec, State.stopRetained_of_stopping (s := s.opened) hr hstopping]
      rfl

end Sys2Proof.Machine
end

section
/-! PROOFS. An EJECTOR closing: the leaving and the stop that it cancels (R60, R94, R95, R106, R111). -/

namespace Sys2Proof.Machine

variable {s t u : State}

/-! ## The effective target under a composition (R94, R95) -/

/-- What the effective target is composed of. -/
def State.aims (s : State) : HostTarget × Airflow × Bool × BootImage × Option Nat × StationState × Bool :=
  (s.client.hostTarget, s.client.zoneAirflow, s.client.overtemp, s.cfg, s.self.shed, s.station, s.rsq.state == .fault)

theorem State.target_of_aims (h : t.aims = s.aims) : t.target = s.target := by
  simp only [State.aims, Prod.mk.injEq] at h
  obtain ⟨hhost, hairflow, hovertemp, hcfg, hshed, hstation, hfault⟩ := h
  simp only [State.target, State.limits, State.hostLevel, State.airflowCap, hhost, hairflow, hovertemp, hcfg, hshed, hstation,
    hfault]

theorem State.evalCapped_eq (s : State) : ∃ (b : Bool) (l : Lpt),
    s.evalCapped = { s with client := { s.client with capped := b }, lpt := l } := by
  unfold State.evalCapped
  split
  · exact ⟨_, _, rfl⟩
  · split
    · unfold State.raiseIf
      split <;> exact ⟨_, _, rfl⟩
    · exact ⟨_, _, rfl⟩

/-- The target is composed anew, and no stop is passed. -/
def State.retargeted (s : State) : State :=
  { s.evalCapped with client := { s.evalCapped.client with target := s.evalCapped.target } }

theorem State.retargeted_facts (s : State) : s.retargeted.aims = s.aims ∧ s.retargeted.client.target = s.target ∧
    s.retargeted.rsq = s.rsq ∧ s.retargeted.client.stopReason = s.client.stopReason := by
  obtain ⟨b, l, he⟩ := s.evalCapped_eq
  have htarget : s.evalCapped.target = s.target := State.target_of_aims (by rw [he]; rfl)
  refine ⟨?_, htarget, ?_, ?_⟩
  · show s.evalCapped.aims = s.aims
    rw [he]
    rfl
  · show s.evalCapped.rsq = s.rsq
    rw [he]
  · show s.evalCapped.client.stopReason = s.client.stopReason
    rw [he]

theorem State.compose_of_acting (h : s.station.acting = true) (force : Bool) : s.compose force =
    if s.retargeted.client.target == 0 && (force || s.client.target != 0) then s.retargeted.stopAtZero else s.retargeted := by
  obtain ⟨b, l, he⟩ := s.evalCapped_eq
  have hold : s.evalCapped.client.target = s.client.target := by rw [he]
  unfold State.compose
  rw [if_pos h]
  dsimp only
  rw [hold]
  rfl

/-- The target stands as composed: with rails ON where it is above 0, and with a stop for its reason where it is 0. -/
def State.Composed (s t : State) : Prop :=
  t.client.target = t.target ∧
    (0 < t.client.target → t.rsq = s.rsq) ∧
    (t.client.target = 0 → t.rsq.state = .stopWait ∧ t.rsq.stopReason = t.client.stopReason)

theorem State.stopAtZero_of_on (h : s.rsq.state = .on) :
    s.stopAtZero = State.enterStopWait { s with client := { s.client with stopReason := some s.reasonForZero } } s.reasonForZero := by
  unfold State.stopAtZero State.stopRails
  rw [if_neg (by rw [h]; decide)]
  dsimp only
  rw [h]

/-- A composition that passes a stop wherever the target is 0, with the rails ON. -/
theorem State.compose_forced (hacting : s.station.acting = true) (hon : s.rsq.state = .on) :
    s.Composed (s.compose true) ∧ (s.compose true).station = s.station ∧ (s.compose true).rsq.state ≠ .off := by
  obtain ⟨haims, htarget, hrsq, hreason⟩ := s.retargeted_facts
  have hstation : s.retargeted.station = s.station := congrArg (fun q => q.2.2.2.2.2.1) haims
  rw [State.compose_of_acting hacting, Bool.true_or, Bool.and_true]
  have hon' : s.retargeted.rsq.state = .on := by rw [hrsq]; exact hon
  by_cases hzero : s.retargeted.client.target = 0
  · rw [if_pos (by rw [hzero]; rfl), State.stopAtZero_of_on hon']
    refine ⟨⟨?_, fun h => absurd hzero (Nat.ne_of_gt h), fun _ => ⟨rfl, rfl⟩⟩, hstation, nofun⟩
    refine htarget.trans (State.target_of_aims ?_).symm
    rw [← haims]
    simp only [State.aims, hon']
    rfl
  · rw [if_neg (by rw [beq_iff_eq]; exact hzero)]
    exact ⟨⟨htarget.trans (State.target_of_aims haims).symm, fun _ => hrsq, fun h => absurd h hzero⟩, hstation,
      by rw [hon']; decide⟩

/-- A composition at an unchanged target passes no stop. -/
theorem State.compose_unchanged (hacting : t.station.acting = true) (h : s.Composed t) : s.Composed (t.compose false) ∧
    (t.compose false).rsq = t.rsq := by
  obtain ⟨hcomposed, hon, hstop⟩ := h
  obtain ⟨haims, htarget, hrsq, hreason⟩ := t.retargeted_facts
  have hsame : t.retargeted.client.target = t.client.target := htarget.trans hcomposed.symm
  have hstill : t.compose false = t.retargeted := by
    rw [State.compose_of_acting hacting, hsame]
    refine if_neg ?_
    cases t.client.target <;> simp
  rw [hstill]
  refine ⟨⟨htarget.trans (State.target_of_aims haims).symm, fun h => ?_, fun h => ?_⟩, hrsq⟩
  · exact hrsq.trans (hon (hsame ▸ h))
  · rw [hrsq, hreason]
    exact hstop (hsame ▸ h)

/-! ## The evaluation of a blade that returns to JOINED -/

theorem State.bladeRequests_of_none (h : s.rsq.state ≠ .off) (before : State) :
    (s.bladeRequests .none before).client = s.client ∧ (s.bladeRequests .none before).rsq = s.rsq := by
  have hpower : s.startRails.evalPowerClient.client = s.client ∧ s.startRails.evalPowerClient.rsq = s.rsq := by
    rw [State.startRails_of_ne_off h]
    unfold State.evalPowerClient
    split
    · rw [State.syncSlots_eq]
      exact ⟨rfl, rfl⟩
    · exact ⟨rfl, rfl⟩
  have htail : ∀ t : State, t.writeDemand.testHeat.client = t.client ∧ t.writeDemand.testHeat.rsq = t.rsq := fun t =>
    ⟨State.requestIf_client _ _ _, State.requestIf_rsq _ _ _⟩
  unfold State.bladeRequests
  dsimp only
  rw [(htail _).1, (htail _).2, show Points.none.lanes = false from rfl, if_neg Bool.false_ne_true]
  split
  · exact hpower
  · exact ⟨rfl, rfl⟩

theorem State.endOvertemp_of_ne_off (h : s.rsq.state ≠ .off) : s.endOvertemp = s := by
  have hoff : (s.rsq.state == .off) = false := beq_eq_false_iff_ne.mpr h
  rw [State.endOvertemp, hoff, Bool.and_false, Bool.false_and]
  rfl

/-- With the rails ON and a held level above 0, an evaluation that passes a stop wherever the target is 0. -/
theorem State.evalBlade_forced (hr : s.role = .blade) (hx : s.station = .joined) (hon : s.rsq.state = .on)
    (hheld : 0 < s.self.held) (before : State) :
    (0 < (s.evalBlade true .none before).client.target → (s.evalBlade true .none before).rsq = s.followHeld.rsq) ∧
    ((s.evalBlade true .none before).client.target = 0 → (s.evalBlade true .none before).rsq.state = .stopWait ∧
      (s.evalBlade true .none before).rsq.stopReason = (s.evalBlade true .none before).client.stopReason) := by
  have hfollowed : s.followHeld.heldZeroRails = s.followHeld := by
    refine if_neg ?_
    rw [Bool.and_eq_true, beq_iff_eq]
    exact fun h => absurd h.1 (Nat.ne_of_gt hheld)
  have hair := SameRails.evalAirflow s.followHeld
  have hstation : s.followHeld.evalAirflow.station = .joined := hair.station.trans hx
  obtain ⟨hcomposed, hstays, hne⟩ := State.compose_forced (s := s.followHeld.evalAirflow) (by rw [hstation]; rfl)
    (by rw [hair.rsq]; exact hon)
  have hlimits : s.bladeLimits true = (s.followHeld.evalAirflow.compose true).compose false := by
    unfold State.bladeLimits
    rw [hfollowed, State.endOvertemp_of_ne_off hne]
  obtain ⟨hcomposed', hrsq⟩ := State.compose_unchanged (by rw [hstays, hstation]; rfl) hcomposed
  rw [← hlimits] at hcomposed' hrsq
  have hne' : (s.bladeLimits true).rsq.state ≠ .off := by rw [hrsq]; exact hne
  have hdue : (s.bladeLimits true).zeroDue before = false := by
    rw [State.zeroDue, beq_eq_false_iff_ne.mpr hne', Bool.false_and]
  have heval : s.evalBlade true .none before = (s.bladeLimits true).bladeRequests .none before := by
    unfold State.evalBlade State.bladeZero
    rw [if_pos (by rw [(s.isBlade_iff).mpr hr, hx]; rfl)]
    simp only [hdue, Bool.false_eq_true, if_false]
  obtain ⟨hclient, hsame⟩ := State.bladeRequests_of_none hne' before
  rw [heval, hclient, hsame]
  exact ⟨fun h => (hcomposed'.2.1 h).trans hair.rsq, hcomposed'.2.2⟩

/-- A stop that goes on: STOP_WAIT with a held level above 0. -/
def State.Waiting (s : State) : Prop := s.rsq.state = .stopWait ∧ 0 < s.self.held

theorem State.Waiting.bladeKept (before : State) : BladeKept before State.Waiting where
  same s t hst h := ⟨(congrArg Rsq.state hst.rsq).trans h.1, hst.held ▸ h.2⟩
  held s h := by
    have hheld : (s.followHeld.self.held == 0) = false := by
      rw [beq_eq_false_iff_ne]
      exact Nat.ne_of_gt h.2
    rw [State.heldZeroRails, hheld]
    exact h
  stop s r _ h := by
    unfold State.stopRails
    rw [h.1]
    dsimp only
    unfold State.cutGrace
    dsimp only
    split <;> exact h
  cleared s h := by rcases s.endOvertemp_cases with he | he <;> rw [he] <;> exact h
  zero s hdue h := by
    rw [State.zeroDue, Bool.and_eq_true, beq_iff_eq, h.1] at hdue
    cases hdue.1

theorem State.Waiting.evalBlade (h : s.Waiting) (force : Bool) (points : Points) (before : State) :
    (s.evalBlade force points before).rsq.state = .stopWait := by
  refine (State.Waiting.bladeKept before).evalBlade (Q := fun t => t.rsq.state = .stopWait)
    (fun _ _ hst h => (congrArg Rsq.state hst.rsq).trans h) (fun t ht => ⟨ht.1, ?_⟩) force points h
  rw [State.startRails_of_ne_off (by rw [ht.1]; decide)]
  exact ht.1

end Sys2Proof.Machine
end

section
/-! PROOFS. An EJECTOR closing, by the state in which it finds the station (R60, R106, R111). -/

namespace Sys2Proof.Machine

variable {s t u : State}

/-! ## The stop is cancelled (R106) -/

theorem State.cancelStop_of_ejector (hwait : s.rsq.state = .stopWait) (hreason : s.rsq.stopReason = some .ejector) :
    s.cancelStop = { s with
      rsq := { s.rsq with state := .on, stagger := none, oneShot := none, pgTimeout := none, grace := none,
                          stepOff := none, stopReason := none, clearOnOff := false },
      lpt := (s.lpt.push .stopCancelled).push .railsOn } := by
  refine if_pos ?_
  rw [hwait, hreason]
  rfl

theorem State.cancelStop_of_other (h : s.rsq.state ≠ .stopWait ∨ s.rsq.stopReason ≠ some .ejector) : s.cancelStop = s := by
  refine if_neg ?_
  rw [Bool.and_eq_true, beq_iff_eq, beq_iff_eq]
  exact not_and_of_not_or_not h

/-! ## The leaving is cancelled (R60) -/

/-- JOINED again, before the stop is cancelled. -/
def State.rejoined (s : State) : State :=
  ((s.updLife (fun l => { l with leaving := none })).enterState .joined).ownStation (some .joined)

theorem State.cancelLeaving_eq (s : State) : s.cancelLeaving = s.rejoined.cancelStop.evalBlade true .none s := rfl

theorem State.rejoined_held (s : State) : s.rejoined.self.held = s.self.held := by
  have hself : s.rejoined.self = (s.cen.upd s.addr (fun e => { e with station := some .joined })).get s.addr := rfl
  rw [hself]
  exact s.cen.get_upd_held s.addr s.addr fun _ => rfl

theorem State.cancelStop_cen (s : State) : s.cancelStop.cen = s.cen := by
  unfold State.cancelStop
  split <;> rfl

theorem State.cancelLeaving_answer (s : State) : Answer true true s.rejoined.cancelStop s.cancelLeaving := by
  rw [s.cancelLeaving_eq]
  exact .evalBlade _ _ _ _

theorem State.cancelLeaving_life (s : State) : s.cancelLeaving.life = { s.life with leaving := none, station := .joined } := by
  rw [s.cancelLeaving_answer.life, State.life_of_fixed (State.cancelStop_fixed _)]
  rfl

theorem State.cancelLeaving_ownStation (hs : s.cen.Shaped) : s.cancelLeaving.self.station = some .joined := by
  have hans := s.cancelLeaving_answer
  have hcen : s.rejoined.cancelStop.cen = s.cen.upd s.addr (fun e => { e with station := some .joined }) := s.rejoined.cancelStop_cen
  have haddr : s.rejoined.cancelStop.addr = s.addr := by
    rw [State.addr, State.life_of_fixed (State.cancelStop_fixed _)]
    rfl
  have hshaped : (s.cen.upd s.addr (fun e => { e with station := some .joined })).Shaped :=
    hs.upd fun e he => Entry.tableOk_of_part rfl he
  have hcore := congrArg Entry.station (hans.core (hcen ▸ hshaped) s.addr)
  have hwritten : (s.rejoined.cancelStop.entry s.addr).station = some .joined := by
    rw [State.entry, hcen, hs.get_upd, if_pos rfl]
  rw [hans.self_eq, haddr]
  exact hcore.trans hwritten

section
variable (hr : s.role = .blade) (hwait : s.rsq.state = .stopWait) (hheld : 0 < s.self.held)
include hr hwait hheld

/-- A stop with reason EJECTOR ends in ON, unless the target is 0 all the same. -/
theorem State.cancelLeaving_ejector (hreason : s.rsq.stopReason = some .ejector) :
    (0 < s.cancelLeaving.client.target → s.cancelLeaving.rsq.state = .on ∧ s.cancelLeaving.rsq.grace = none ∧
      s.cancelLeaving.rsq.stopReason = none ∧ ∃ es : List Event, s.cancelLeaving.lpt = es.foldl Lpt.push
        (((s.lpt.push (.stationState .joined)).push .stopCancelled).push .railsOn)) ∧
    (s.cancelLeaving.client.target = 0 → s.cancelLeaving.rsq.state = .stopWait ∧
      s.cancelLeaving.rsq.stopReason = s.cancelLeaving.client.stopReason) := by
  have hcancelled := State.cancelStop_of_ejector (s := s.rejoined) hwait hreason
  have hheld' : 0 < s.rejoined.cancelStop.self.held := by
    rw [hcancelled]
    exact s.rejoined_held.symm ▸ hheld
  have hx : s.rejoined.cancelStop.station = .joined := by rw [hcancelled]; rfl
  have hr' : s.rejoined.cancelStop.role = .blade := by rw [hcancelled]; exact hr
  have hon : s.rejoined.cancelStop.rsq.state = .on := by rw [hcancelled]
  obtain ⟨hpositive, hzero⟩ := State.evalBlade_forced hr' hx hon hheld' s
  obtain ⟨es, htold⟩ := s.cancelLeaving_answer.told
  rw [← State.cancelLeaving_eq] at hpositive hzero
  refine ⟨fun h => ?_, hzero⟩
  have hrsq := hpositive h
  rw [hrsq, htold, hcancelled]
  exact ⟨rfl, rfl, rfl, es, rfl⟩

omit hr in
/-- A stop with another reason goes on. -/
theorem State.cancelLeaving_other (hreason : s.rsq.stopReason ≠ some .ejector) : s.cancelLeaving.rsq.state = .stopWait := by
  have hstill : s.rejoined.cancelStop = s.rejoined := State.cancelStop_of_other (s := s.rejoined) (.inr hreason)
  rw [State.cancelLeaving_eq, hstill]
  exact State.Waiting.evalBlade (s := s.rejoined) ⟨hwait, s.rejoined_held.symm ▸ hheld⟩ _ _ _

end

/-! ## The closing -/

/-- The EJECTOR is closed. -/
def State.closed (s : State) : State := s.inputTaken 1 ((s.input 1).settle lineSamples false)

theorem exec_ejectorChange_closing (hs : s.shaped) (h : (s.input 1).state = .yes) :
    exec (.ejectorChange false) s = .next s.closed.ejectorCloses := by
  have hno : ((s.newEvent.debounce 1 lineSamples false).input 1).state = .no :=
    State.debounce_state false (by decide) (hs.input_lt (by decide))
  rw [exec_ejectorChange, h, State.ejectorTaken_of_closing hno]
  rfl

theorem State.mayCancel_iff (s : State) : s.mayCancel = true ↔ s.station = .leaving ∧ s.role = .blade ∧
    s.rsq.state = .stopWait ∧ s.life.leaving.map (fun l => l.reason) = some .ejector := by
  rw [State.mayCancel, Bool.and_eq_true, Bool.and_eq_true, Bool.and_eq_true, State.isBlade_iff, beq_iff_eq, beq_iff_eq, beq_iff_eq,
    and_assoc, and_assoc]

theorem State.ejectorCloses_of_leaving (hx : s.station = .leaving) :
    s.ejectorCloses = if s.mayCancel then s.cancelLeaving else s := by
  unfold State.ejectorCloses
  rw [hx]

theorem State.ejectorCloses_of_parked (hx : s.station = .parked) : s.ejectorCloses = s.cancelStop.testJoin := by
  unfold State.ejectorCloses
  rw [hx]

/-- No join follows where the station is not seated, or stays parked. -/
theorem State.testJoin_of_stays (h : s.seated = false ∨ s.life.stayParked = true) : s.testJoin = s := by
  refine if_neg ?_
  rw [State.joinCondition]
  rcases h with h | h <;> simp [h]

/-- Settles O26: a leaving of a blade in STOP_WAIT is cancelled, and so is a stop with reason EJECTOR. -/
theorem ejectorClosingCancels : Obligations.EjectorClosingCancels := by
  intro s hs hopen
  have hexec := exec_ejectorChange_closing hs hopen
  refine ⟨(s.input 1).settle lineSamples false, Input.settle_state (n := lineSamples) (by decide) false _,
    fun hx hcancels => ?cancelled, fun hx hcancels => ?leaving, fun hx hstays => ?parked, fun h => ?still⟩
  case cancelled =>
    obtain ⟨hr, hwait, hreason⟩ := hcancels
    have hmay : s.closed.mayCancel = true := (s.closed.mayCancel_iff).mpr ⟨hx, hr, hwait, hreason⟩
    rw [State.ejectorCloses_of_leaving (s := s.closed) hx, if_pos hmay] at hexec
    have hlife := s.closed.cancelLeaving_life
    exact ⟨_, hexec, by rw [State.station, hlife], by rw [hlife], State.cancelLeaving_ownStation (s := s.closed) hs.cen,
      fun hheld hejector => State.cancelLeaving_ejector (s := s.closed) hr hwait hheld hejector,
      fun hheld hother => State.cancelLeaving_other (s := s.closed) hwait hheld hother⟩
  case leaving =>
    rw [hexec, State.ejectorCloses_of_leaving (s := s.closed) hx, if_neg]
    · rfl
    · rw [State.mayCancel_iff]
      exact fun h => hcancels h.2
  case parked =>
    rw [State.ejectorCloses_of_parked (s := s.closed) hx] at hexec
    have hseated : s.closed.seated = s.seated := by
      rw [State.seated, State.seated]
      exact congrArg Input.isYes (s.newEvent.debounce_other lineSamples false (by decide))
    refine ⟨fun hwait hreason => ?_, fun h => ?_⟩
    · rw [hexec, State.cancelStop_of_ejector (s := s.closed) hwait hreason, State.testJoin_of_stays]
      · rfl
      · exact hseated ▸ hstays
    · rw [hexec, State.cancelStop_of_other (s := s.closed) h, State.testJoin_of_stays]
      · rfl
      · rw [hseated]
        exact hstays
  case still =>
    rw [hexec]
    have hclosed : s.closed.ejectorCloses = s.closed := by
      have hstation : s.closed.station = s.station := rfl
      unfold State.ejectorCloses
      rw [hstation]
      rcases h with h | h | h | h | h <;> rw [h]
    rw [hclosed]
    rfl

end Sys2Proof.Machine
end
